-- ==== Sys2Proof/Word.lean ====
section
/-! DEFINITION. The plain words of the FS460: the byte of the air, of the memories and of the converters, the 32 functions
as one word, and a helper that computes a count before going on. -/

namespace Sys2Proof

/-- A byte is 8 bits, bit 0 least significant (00_scope.md, Conventions). -/
abbrev Byte := BitVec 8

/-- The 32 functions F0 to F31, Fn in bit n (R10, R166). -/
abbrev FuncSet := BitVec 32

/-- `strict n k` is `k n`; matching on `n` first makes the kernel compute the number before it goes on. -/
def strict {α : Type} (n : Nat) (k : Nat → α) : α :=
  match n with
  | 0 => k 0
  | m + 1 => k (m + 1)

@[simp] theorem strict_eq {α : Type} (n : Nat) (k : Nat → α) : strict n k = k n := by
  cases n <;> rfl

end Sys2Proof
end

