-- ==== Sys2Proof/Syntax.lean ====
section
/-! DEFINITION. The commands of the FS460: one constructor per row of spec/opcode_table.json, with the data that the outside
gives with the event. The rows carry no bits, so the operands are the quantities the rules name. -/

namespace Sys2Proof

/-- The two supervised links (section 1.7, R15). -/
inductive Link where
  | driver
  | lead
deriving DecidableEq, Repr

/-- The two intervals at which RPT samples occupancy events (R32). -/
inductive SampleBase where
  | everyMs
  | everyHundredMs
deriving DecidableEq, Repr

/-- The six header bytes of a frame in air order (R5). -/
structure HeaderBytes where
  b0 : Byte
  b1 : Byte
  b2 : Byte
  b3 : Byte
  b4 : Byte
  b5 : Byte
deriving DecidableEq, Repr

/-- The six level samples taken during the header bytes, in dB above -120 dBm before the clamp of R3. -/
structure Levels where
  l0 : Int
  l1 : Int
  l2 : Int
  l3 : Int
  l4 : Int
  l5 : Int
deriving DecidableEq, Repr

/-- One constructor per row of the table. A frame command completes the frame whose header `headerComplete` collected: it
carries the payload bytes and the received CRC. -/
inductive Instr where
  | headerComplete (channel : Fin 16) (bytes : HeaderBytes) (levels : Levels)
  | throttleFrame (payload : List Byte) (crc : BitVec 16)
  | consistFrame (payload : List Byte) (crc : BitVec 16)
  | beaconFrame (payload : List Byte) (crc : BitVec 16)
  | locoFrame (payload : List Byte) (crc : BitVec 16)
  | serviceWrite (payload : List Byte) (crc : BitVec 16)
  | serviceClearFaults (payload : List Byte) (crc : BitVec 16)
  /-- `answers`: whether the EEPROM answers the read of the start that an accepted RESTART begins (R167). -/
  | serviceRestart (payload : List Byte) (crc : BitVec 16) (answers : Bool)
  | linkWindowExpires (link : Link)
  | peerAgeingStep
  | dwellExpires
  | failsafeHoldExpires
  | graceTimerExpires (member : Nat)
  | lfsrSeedTaken (level : Int)
  | holdoffExpires
  | reportPeriodDue
  | clearChannelCheck
  | ccaComplete (first second : Int)
  | backoffExpires
  | transmissionEnd
  | creditAccrual
  | occupancySample (base : SampleBase)
  | controlPeriod
  | drivePhaseEnd (current : Nat)
  | overcurrentTrip (current : Nat)
  | coolEnds (current : Nat)
  | tripDecayExpires
  | stallDetected
  | bemfSample (raw : BitVec 10)
  | wheelSensorEdge (level : Bool)
  | camWindowExpires
  | lookupComplete
  | refillComplete
  | soundSampleEvent
  | valveTimerExpires
  | thermostatTick (raw : BitVec 10)
  | standstillTimerExpires
  | fanBurstEnds
  | flareEnds
  | flickerLfsrStep
  | ditchPhaseToggle
  | fadeStep (lamp : Fin 8)
  | blinkPhaseEnd (lamp : Fin 8)
  | supplyEvaluation (track store : Byte)
  | supplyLoss (track store : Byte)
  | supplyReturn (track store : Byte)
  | bridgingTimerExpires
  | normalHoldExpires
  /-- `stored`: bit k says whether byte k of a page write in flight had reached the EEPROM (R165, R171). -/
  | brownOut (stored : BitVec 16)
  /-- `answers`: whether the EEPROM answers the read of the start sequence (R167). -/
  | powerOn (answers : Bool)
  | entryTestPassed (track store : Byte)
  /-- `answers`: whether the EEPROM answered; `wrong`: bytes of the page that hold something else than was written;
  `startAnswers`: whether the EEPROM answers the read of a deferred start (R171, R173). -/
  | pageWriteComplete (answers : Bool) (wrong : List (Nat × BitVec 8)) (startAnswers : Bool)
  | undefinedKindFrame (payload : List Byte) (crc : BitVec 16)
  | serviceOtherOp (payload : List Byte) (crc : BitVec 16)
  | strobePhaseAdvance (lamp : Fin 8)
deriving DecidableEq, Repr

end Sys2Proof
end

