-- ==== Sys2Proof/Decode.lean ====
section
/-! DEFINITION. The word decoder asked of every model. The table of this block gives no row any bits
(spec/98_reader.md: n_rows_with_fixed 0), so no word spells a command. -/

namespace Sys2Proof

/-- The command a word spells by the table's bits: none, since no row has bits. -/
def decodeTableWord (_nbits _w : Nat) : Option Instr := none

end Sys2Proof
end

