-- ==== Sys2Proof/Config.lean ====
section
/-! DEFINITION. What is fixed from one start to the next: the configuration image in use (R166), its field types and codes,
and the two values the manual leaves open: what the flash returns outside its written part (R129), and the level of the channel at an
instant for which no command carries one (R3). -/

namespace Sys2Proof

/-- What the serial flash returns at an address outside its written part (R129, Flash contents): open, so no value is given. -/
opaque Config.flashUnwritten : Nat → BitVec 8

/-- The level of the channel, in dB above -120 dBm, at the n-th renewal of the estimate that no command brings (R3; entry 28): open, so
no value is given. -/
opaque Config.channelLevel : Nat → Int

/-- A direction of travel; FORWARD at every start (R88). -/
inductive Direction where
  | forward
  | reverse
deriving DecidableEq, Repr

/-- The opposite direction (R81). -/
def Direction.flip : Direction → Direction
  | .forward => .reverse
  | .reverse => .forward

/-- The five contexts in order of rank (section 4.1). -/
inductive Level where
  | failsafe
  | signal
  | consist
  | driver
  | parked
deriving DecidableEq, Repr

/-- Level numbers 0..4 (R10). -/
def Level.code : Level → Nat
  | .failsafe => 0
  | .signal => 1
  | .consist => 2
  | .driver => 3
  | .parked => 4

/-- Momentum profiles (R50, R93). -/
inductive Profile where
  | normal
  | signal
  | failsafe
  | follow
deriving DecidableEq, Repr

/-- Lamp effects, also the forced effects (R154). -/
inductive LampEffect where
  | steady
  | dim
  | flicker
  | strobe
  | ditchAlt
  | fade
deriving DecidableEq, Repr

/-- Entry-action modes (R50). -/
inductive EntryMode where
  | never
  | onStart
  | onStartAndResume
deriving DecidableEq, Repr

/-- Entry action records (R56). A list is held up to its END, so END itself is no constructor. -/
inductive EntryAction where
  | sound (group index prio : Nat)
  | lampBlink (mask : BitVec 8) (count : Nat)
  | fanBurst (ms : Nat)
deriving DecidableEq, Repr

/-- A context's initial part (R50). -/
structure ContextConfig where
  profile : Profile
  funcMask : FuncSet
  funcValues : FuncSet
  lampMask : BitVec 8
  lampEffect : LampEffect
  mode : EntryMode
  actions : List EntryAction
deriving DecidableEq, Repr

/-- Function map trigger modes (R117). -/
inductive MapMode where
  | level
  | rise
  | both
deriving DecidableEq, Repr

/-- Function map scopes (R117). -/
inductive MapScope where
  | all
  | leadOnly
deriving DecidableEq, Repr

/-- Function map actions (R117). -/
inductive MapAction where
  | none
  | sound
  | smokeEnable
  | shunting
  | mute
deriving DecidableEq, Repr

/-- One function map entry (R117). -/
structure MapEntry where
  mode : MapMode
  scope : MapScope
  action : MapAction
  group : Nat
  index : Nat
  prio : Nat
deriving DecidableEq, Repr

/-- Lamp roles (R154). -/
inductive LampRole where
  | headFwd
  | headRev
  | cab
  | firebox
  | marker
  | ditchL
  | ditchR
  | aux
deriving DecidableEq, Repr

/-- Lamp direction rules (R154). -/
inductive DirectionRule where
  | fwd
  | rev
  | both
deriving DecidableEq, Repr

/-- Lamp consist rules (R85, R154). -/
inductive ConsistRule where
  | always
  | leadOnly
  | endOnly
deriving DecidableEq, Repr

/-- One lamp record (R154). -/
structure LampConfig where
  role : LampRole
  effect : LampEffect
  brightness : Nat
  enable : Nat
  dirRule : DirectionRule
  consistRule : ConsistRule
deriving DecidableEq, Repr

/-- Supply modes (R159). -/
inductive SupplyMode where
  | track
  | battery
deriving DecidableEq, Repr

/-- Chuff sources (R123). -/
inductive ChuffSource where
  | synthetic
  | cam
deriving DecidableEq, Repr

/-- The selection of one diagnostic counter (R30). -/
structure CounterConfig where
  event : Nat
  mask : BitVec 8
  threshold : Nat
  invert : Bool
deriving DecidableEq, Repr

/-- Identity group (R166). -/
structure IdentityConfig where
  ownId : Nat
  layout : Nat
  channel : Nat
  supplyMode : SupplyMode
deriving DecidableEq, Repr

/-- Traction group (R87, R99). -/
structure TractionConfig where
  knots : List Nat
  vMax : Nat
  aInc : Nat
  dInc : Nat
  sInc : Nat
  fInc : Nat
  followInc : Nat
  kp : Nat
  ki : Nat
  feed : Nat
  dMax : Nat
  bemfCal : Nat
  stopThreshold : Nat
  brakeAtStop : Bool
  iTrip : Nat
  stallSpeed : Nat
deriving DecidableEq, Repr

/-- Windows and limits group (R15, R25, R40, R68). W and W_c are held in ms. -/
structure WindowConfig where
  window : Nat
  consistWindow : Nat
  failsafeHold : Nat
  restrictedStep : Nat
  occupancyStep : Nat
  nearThreshold : Nat
  ccaThreshold : Nat
deriving DecidableEq, Repr

/-- Smoke group (R145). -/
structure SmokeConfig where
  rA : Nat
  tA : Nat
  rB : Nat
  tB : Nat
  tRun : Nat
  tIdle : Nat
  tDry : Nat
  iHeater : Nat
  iBase : Nat
  iBudget : Nat
  baseFan : Nat
  fBurst : Nat
  burstMs : Nat
  fIdle : Nat
deriving DecidableEq, Repr

/-- Sound group (R127). -/
structure SoundConfig where
  volume : Nat
  chuffPrio : Nat
  zonePrio : Nat
  systemPrio : Nat
  bellGroup : Nat
  bellIndex : Nat
  hornGroup : Nat
  hornIndex : Nat
  gBase : Nat
  uCruise : Nat
  kLoad : Nat
  gMin : Nat
  brakeSpeed : Nat
deriving DecidableEq, Repr

/-- Chuff group (R123). -/
structure ChuffConfig where
  source : ChuffSource
  chuffK : Nat
  b1 : Nat
  b2 : Nat
  b3 : Nat
deriving DecidableEq, Repr

/-- Supply group (R159). -/
structure SupplyConfig where
  trackMin : Nat
  storeLow : Nat
  bridgeMax : Nat
deriving DecidableEq, Repr

/-- The configuration image in use (R166): 32 map entries, eight lamp records, five context records. -/
structure Image where
  identity : IdentityConfig
  traction : TractionConfig
  windows : WindowConfig
  ctxFailsafe : ContextConfig
  ctxSignal : ContextConfig
  ctxConsist : ContextConfig
  ctxDriver : ContextConfig
  ctxParked : ContextConfig
  funcMap : List MapEntry
  lamps : List LampConfig
  ditch : Nat
  smoke : SmokeConfig
  sound : SoundConfig
  chuff : ChuffConfig
  supply : SupplyConfig
  counterA : CounterConfig
  counterB : CounterConfig
deriving DecidableEq, Repr

/-- A context's initial part in the image in use (R50). -/
def Image.ctx (im : Image) : Level → ContextConfig
  | .failsafe => im.ctxFailsafe
  | .signal => im.ctxSignal
  | .consist => im.ctxConsist
  | .driver => im.ctxDriver
  | .parked => im.ctxParked

end Sys2Proof
end

