-- ==== Sys2Proof/Machine/Arith.lean ====
section
/-! DEFINITION. Integer arithmetic of the manual (00_scope.md, Conventions), the two shift registers' step, the CRC of the
air and of the image, and byte memories in canonical form. -/

namespace Sys2Proof.Machine

/-- `clamp(x, lo, hi)`: `lo` when `x < lo`, `hi` when `x > hi`, `x` otherwise (00_scope.md, Arithmetic). -/
def clampNat (x lo hi : Nat) : Nat :=
  if x < lo then lo else if hi < x then hi else x

/-- `clamp` over the integers. -/
def clampInt (x lo hi : Int) : Int :=
  if x < lo then lo else if hi < x then hi else x

/-- A saturating counter stops at its stated maximum (00_scope.md, Arithmetic). -/
def satAdd (x n cap : Nat) : Nat := if cap < x + n then cap else x + n

/-- `floor(a/b)` toward minus infinity for either sign of `b` (00_scope.md, Arithmetic; R147). -/
def floorDiv (a b : Int) : Int := Int.fdiv a b

/-- A level in dB above -120 dBm, clamped to 0..127 (R3). -/
def clampLevel (l : Int) : Nat := (clampInt l 0 127).toNat

/-- One step of the backoff and flicker registers: shift right, XOR 0xB400 where the bit shifted out was 1 (R26, R156). -/
def lfsrStep (v : BitVec 16) : BitVec 16 :=
  if v.getLsbD 0 then (v >>> 1) ^^^ 0xB400#16 else v >>> 1

/-- One bit of the CRC: generator x^16 + x^12 + x^5 + 1, most significant bit first (R4). -/
def crcBit (c : Nat) : Nat :=
  if c < 0x8000 then 2 * c else (2 * c - 0x10000) ^^^ 0x1021

/-- One byte of the CRC (R4). -/
def crcByte (c : Nat) (b : Byte) : Nat :=
  crcBit (crcBit (crcBit (crcBit (crcBit (crcBit (crcBit (crcBit (c ^^^ (b.toNat * 256)))))))))

/-- The CRC register after a run of bytes, from a starting value. -/
def crcFrom : List Byte → Nat → Nat
  | [], c => c
  | b :: bs, c => strict (crcByte c b) (crcFrom bs)

/-- CRC-16 with initial value 0xFFFF and no final inversion (R4, R166). -/
def crc16 (bytes : List Byte) : BitVec 16 := BitVec.ofNat 16 (crcFrom bytes 0xFFFF)

/-- The low byte of a count. -/
def toByte (n : Nat) : Byte := BitVec.ofNat 8 n

/-- The two bytes of a 16-bit field, most significant first (R5). -/
def bytes16 (n : Nat) : List Byte := [toByte (n / 256), toByte n]

/-- Byte `i` of a run of bytes, as a number; 0 beyond its end. -/
def byteAt (bs : List Byte) (i : Nat) : Nat := (bs.getD i 0#8).toNat

/-- The big-endian 16-bit field at byte `i` (R5). -/
def word16 (bs : List Byte) (i : Nat) : Nat := byteAt bs i * 256 + byteAt bs (i + 1)

/-- The big-endian 32-bit field at byte `i` (R128, R166). -/
def word32 (bs : List Byte) (i : Nat) : Nat := word16 bs i * 65536 + word16 bs (i + 2)

/-- The value of `n` brought below `m`, bits `lo` upward: `(n / lo) % m`. -/
def bitsOf (n lo m : Nat) : Nat := n / lo % m

/-! ### The stored bytes of the EEPROM

Canonical form: addresses strictly rising, all below 512, and no entry that equals what an unlisted address reads as. -/

/-- What an EEPROM address that nothing has written reads as. DESIGN CHOICE (entry 2): unsafe. -/
def unwrittenByte : Byte := 0#8

/-- The byte stored at an address. -/
def memRead : List Host.Cell → Nat → Byte
  | [], _ => unwrittenByte
  | c :: m, a => if c.1 = a then c.2 else memRead m a

/-- Put a cell in its place, or leave it out where it equals an unlisted byte. -/
def memInsert (a : Nat) (b : Byte) (m : List Host.Cell) : List Host.Cell :=
  if b = unwrittenByte then m else (a, b) :: m

/-- Store one byte, keeping the canonical form. -/
def memWrite : List Host.Cell → Nat → Byte → List Host.Cell
  | [], a, b => memInsert a b []
  | c :: m, a, b =>
    if c.1 < a then c :: memWrite m a b
    else if c.1 = a then memInsert a b m
    else memInsert a b (c :: m)

/-- Store several bytes in order. -/
def memWriteAll (m : List Host.Cell) (cells : List Host.Cell) : List Host.Cell :=
  cells.foldl (fun m c => memWrite m c.1 c.2) m

/-- `n` stored bytes from an address on. -/
def memBytes (m : List Host.Cell) (a n : Nat) : List Byte :=
  (List.range n).map fun i => memRead m (a + i)

/-- Addresses above `lo` strictly rising. -/
def risingFrom : Nat → List Host.Cell → Bool
  | _, [] => true
  | lo, c :: m => lo ≤ c.1 && risingFrom (c.1 + 1) m

/-- The canonical form of the EEPROM's bytes. -/
def memWf (m : List Host.Cell) : Bool :=
  risingFrom 0 m && m.all fun c => c.1 < 512 && c.2 != unwrittenByte

/-! ### The serial flash -/

/-- A byte of the flash: the written part as listed, elsewhere whatever the flash returns (R129). -/
def flashRead : List Host.Cell → Nat → Byte
  | [], a => Config.flashUnwritten a
  | c :: m, a => if c.1 = a then c.2 else flashRead m a

/-- `n` bytes of the flash from an address on. -/
def flashBytes (m : List Host.Cell) (a n : Nat) : List Byte :=
  (List.range n).map fun i => flashRead m (a + i)

/-- The form of the flash's written part: addresses strictly rising. -/
def flashWf (m : List Host.Cell) : Bool := risingFrom 0 m

end Sys2Proof.Machine
end

