-- ==== Sys2Proof/Machine/Image.lean ====
section
/-! DEFINITION. The configuration image: the layout and codes of R166, the built-in defaults, and the clamps and repairs of R168
that the start sequence makes on every image before it is used. -/

namespace Sys2Proof.Machine

/-! ### Codes (R166, Codes). A code with no meaning gives the field's default (R168). -/

def profileOf (dflt : Profile) : Nat → Profile
  | 0 => .normal
  | 1 => .signal
  | 2 => .failsafe
  | 3 => .follow
  | _ => dflt

def effectOf : Nat → LampEffect
  | 1 => .dim
  | 2 => .flicker
  | 3 => .strobe
  | 4 => .ditchAlt
  | 5 => .fade
  | _ => .steady

def entryModeOf : Nat → EntryMode
  | 1 => .onStart
  | 2 => .onStartAndResume
  | _ => .never

def mapModeOf : Nat → MapMode
  | 1 => .rise
  | 2 => .both
  | _ => .level

def mapScopeOf : Nat → MapScope
  | 1 => .leadOnly
  | _ => .all

def mapActionOf : Nat → MapAction
  | 1 => .sound
  | 2 => .smokeEnable
  | 3 => .shunting
  | 4 => .mute
  | _ => .none

def roleOf (dflt : LampRole) : Nat → LampRole
  | 0 => .headFwd
  | 1 => .headRev
  | 2 => .cab
  | 3 => .firebox
  | 4 => .marker
  | 5 => .ditchL
  | 6 => .ditchR
  | 7 => .aux
  | _ => dflt

/-- The default direction rule of a role (R154). -/
def roleDirection : LampRole → DirectionRule
  | .headFwd => .fwd
  | .headRev => .rev
  | _ => .both

def directionRuleOf (role : LampRole) : Nat → DirectionRule
  | 0 => .fwd
  | 1 => .rev
  | 2 => .both
  | _ => roleDirection role

def consistRuleOf : Nat → ConsistRule
  | 1 => .leadOnly
  | 2 => .endOnly
  | _ => .always

def supplyModeOf : Nat → SupplyMode
  | 1 => .battery
  | _ => .track

def chuffSourceOf : Nat → ChuffSource
  | 1 => .cam
  | _ => .synthetic

/-- One entry action record (R166, Entry action records); `none` for END and for a type with no meaning (R168). -/
def entryActionOf (v : Nat) : Option EntryAction :=
  match v / 4096 with
  | 1 => some (.sound (bitsOf v 128 32) (bitsOf v 8 16) (bitsOf v 1 8))
  | 2 => some (.lampBlink (BitVec.ofNat 8 (bitsOf v 16 256)) (bitsOf v 1 16))
  | 3 => some (.fanBurst (bitsOf v 1 4096))
  | _ => none

/-- The records of a list up to its END, at most `n` of them (R56). -/
def entryActionsOf (bs : List Byte) (at_ : Nat) : Nat → List EntryAction
  | 0 => []
  | n + 1 =>
    match entryActionOf (word16 bs at_) with
    | some a => a :: entryActionsOf bs (at_ + 2) n
    | none => []

/-! ### The layout (R166) -/

def contextAt (bs : List Byte) (at_ : Nat) (dflt : Profile) : ContextConfig where
  profile := profileOf dflt (byteAt bs at_)
  funcMask := BitVec.ofNat 32 (word32 bs (at_ + 1))
  funcValues := BitVec.ofNat 32 (word32 bs (at_ + 5))
  lampMask := BitVec.ofNat 8 (byteAt bs (at_ + 9))
  lampEffect := effectOf (byteAt bs (at_ + 10))
  mode := entryModeOf (byteAt bs (at_ + 11))
  actions := entryActionsOf bs (at_ + 12) 6

def mapEntryAt (bs : List Byte) (at_ : Nat) : MapEntry where
  mode := mapModeOf (bitsOf (byteAt bs at_) 64 4)
  scope := mapScopeOf (bitsOf (byteAt bs at_) 32 2)
  action := mapActionOf (bitsOf (byteAt bs at_) 1 8)
  group := byteAt bs (at_ + 1)
  index := bitsOf (byteAt bs (at_ + 2)) 16 16
  prio := bitsOf (byteAt bs (at_ + 2)) 1 8

def lampAt (bs : List Byte) (at_ : Nat) (dflt : LampRole) : LampConfig where
  role := roleOf dflt (bitsOf (byteAt bs at_) 16 16)
  effect := effectOf (bitsOf (byteAt bs at_) 1 16)
  brightness := byteAt bs (at_ + 1)
  enable := byteAt bs (at_ + 2)
  dirRule := directionRuleOf (roleOf dflt (bitsOf (byteAt bs at_) 16 16)) (bitsOf (byteAt bs (at_ + 3)) 16 16)
  consistRule := consistRuleOf (bitsOf (byteAt bs (at_ + 3)) 1 16)

def counterAt (bs : List Byte) (at_ : Nat) : CounterConfig where
  event := byteAt bs at_
  mask := BitVec.ofNat 8 (byteAt bs (at_ + 1))
  threshold := bitsOf (byteAt bs (at_ + 2)) 1 16
  invert := bitsOf (byteAt bs (at_ + 2)) 16 2 == 1

/-- The default roles of lamps 0 to 7 (R154). -/
def defaultRoles : List LampRole :=
  [.headFwd, .headRev, .cab, .firebox, .marker, .ditchL, .ditchR, .aux]

/-- The fields of stored bytes 0..509, before the clamps of R168. -/
def imageAt (bs : List Byte) : Image where
  identity :=
    { ownId := bitsOf (word16 bs 0) 1 4096
      layout := byteAt bs 2
      channel := byteAt bs 3
      supplyMode := supplyModeOf (byteAt bs 4) }
  traction :=
    { knots := (List.range 15).map fun i => word16 bs (8 + 2 * i)
      vMax := word16 bs 38
      aInc := byteAt bs 40
      dInc := byteAt bs 41
      sInc := byteAt bs 42
      fInc := byteAt bs 43
      followInc := byteAt bs 44
      kp := byteAt bs 45
      ki := byteAt bs 46
      feed := word16 bs 47
      dMax := word16 bs 49
      bemfCal := word16 bs 51
      stopThreshold := byteAt bs 53
      brakeAtStop := byteAt bs 54 != 0
      iTrip := word16 bs 55
      stallSpeed := byteAt bs 57 }
  windows :=
    { window := 100 * byteAt bs 64
      consistWindow := 100 * byteAt bs 65
      failsafeHold := word16 bs 66
      restrictedStep := byteAt bs 68
      occupancyStep := byteAt bs 69
      nearThreshold := byteAt bs 70
      ccaThreshold := byteAt bs 71 }
  ctxFailsafe := contextAt bs 80 .failsafe
  ctxSignal := contextAt bs 104 .signal
  ctxConsist := contextAt bs 128 .follow
  ctxDriver := contextAt bs 152 .normal
  ctxParked := contextAt bs 176 .normal
  funcMap := (List.range 32).map fun n => mapEntryAt bs (200 + 3 * n)
  lamps := (List.range 8).map fun n => lampAt bs (296 + 4 * n) (defaultRoles.getD n .aux)
  ditch := byteAt bs 328
  smoke :=
    { rA := word16 bs 336
      tA := word16 bs 338
      rB := word16 bs 340
      tB := word16 bs 342
      tRun := word16 bs 344
      tIdle := word16 bs 346
      tDry := word16 bs 348
      iHeater := word16 bs 350
      iBase := word16 bs 352
      iBudget := word16 bs 354
      baseFan := word16 bs 356
      fBurst := word16 bs 358
      burstMs := byteAt bs 360
      fIdle := word16 bs 361 }
  sound :=
    { volume := byteAt bs 368
      chuffPrio := byteAt bs 369
      zonePrio := byteAt bs 370
      systemPrio := byteAt bs 371
      bellGroup := byteAt bs 372
      bellIndex := byteAt bs 373
      hornGroup := byteAt bs 374
      hornIndex := byteAt bs 375
      gBase := byteAt bs 376
      uCruise := word16 bs 377
      kLoad := byteAt bs 379
      gMin := byteAt bs 380
      brakeSpeed := word16 bs 381 }
  chuff :=
    { source := chuffSourceOf (byteAt bs 400)
      chuffK := byteAt bs 401
      b1 := word16 bs 402
      b2 := word16 bs 404
      b3 := word16 bs 406 }
  supply :=
    { trackMin := byteAt bs 408
      storeLow := byteAt bs 409
      bridgeMax := word16 bs 410 }
  counterA := counterAt bs 416
  counterB := counterAt bs 419

/-! ### The built-in defaults (R167, step 3; each value from the chapter that owns the field) -/

def defaultContext (p : Profile) : ContextConfig where
  profile := p
  funcMask := 0#32
  funcValues := 0#32
  lampMask := 0#8
  lampEffect := .steady
  mode := .never
  actions := []

/-- A function map entry defaults to LEVEL, ALL and action NONE (R117). The manual gives no default for its group, index and priority:
0 each, DESIGN CHOICE (entry 42). -/
def defaultMapEntry : MapEntry where
  mode := .level
  scope := .all
  action := .none
  group := 0
  index := 0
  prio := 0

def defaultLamp (r : LampRole) : LampConfig where
  role := r
  effect := .steady
  brightness := 255
  enable := 0
  dirRule := roleDirection r
  consistRule := .always

/-- A diagnostic counter defaults to event code 0 (R30). The manual gives no default for its qualifier mask, threshold and invert flag:
0, 0 and clear, DESIGN CHOICE (entry 41). -/
def defaultCounter : CounterConfig where
  event := 0
  mask := 0#8
  threshold := 0
  invert := false

def defaultImage : Image where
  identity := { ownId := 3, layout := 0, channel := 0, supplyMode := .track }
  traction :=
    { knots := (List.range 15).map fun i => 73 * i
      vMax := 1023
      aInc := 8
      dInc := 8
      sInc := 16
      fInc := 32
      followInc := 32
      kp := 40
      ki := 4
      feed := 800
      dMax := 900
      bemfCal := 256
      stopThreshold := 3
      brakeAtStop := true
      iTrip := 2500
      stallSpeed := 8 }
  windows :=
    { window := 2000
      consistWindow := 1000
      failsafeHold := 1000
      restrictedStep := 20
      occupancyStep := 20
      nearThreshold := 70
      ccaThreshold := 30 }
  ctxFailsafe := defaultContext .failsafe
  ctxSignal := defaultContext .signal
  ctxConsist := defaultContext .follow
  ctxDriver := defaultContext .normal
  ctxParked := defaultContext .normal
  funcMap := List.replicate 32 defaultMapEntry
  lamps := defaultRoles.map defaultLamp
  ditch := 2
  smoke :=
    { rA := 800, tA := 25, rB := 300, tB := 250
      tRun := 230, tIdle := 150, tDry := 300
      iHeater := 800, iBase := 150, iBudget := 3000
      baseFan := 250, fBurst := 1000, burstMs := 60, fIdle := 120 }
  sound :=
    { volume := 200, chuffPrio := 1, zonePrio := 4, systemPrio := 5
      bellGroup := 5, bellIndex := 0, hornGroup := 6, hornIndex := 0
      gBase := 160, uCruise := 300, kLoad := 32, gMin := 64, brakeSpeed := 40 }
  chuff := { source := .synthetic, chuffK := 64, b1 := 100, b2 := 300, b3 := 600 }
  supply := { trackMin := 72, storeLow := 64, bridgeMax := 1500 }
  counterA := defaultCounter
  counterB := defaultCounter

/-! ### Clamps and repairs (R168) -/

/-- The knots made non-falling, from a floor on (R91). -/
def risingKnots : Nat → List Nat → List Nat
  | _, [] => []
  | lo, v :: vs => max lo v :: risingKnots (max lo v) vs

/-- An entry action's count or duration brought into range (R168). -/
def clampAction : EntryAction → EntryAction
  | .sound g i p => .sound g i p
  | .lampBlink m c => .lampBlink m (max c 1)
  | .fanBurst ms => .fanBurst (clampNat ms 20 2000)

def clampContext (c : ContextConfig) : ContextConfig :=
  { c with actions := c.actions.map clampAction }

/-- Own ID 0 becomes 1, and 4000..4095 becomes 3999 (R168). -/
def clampIdentity (i : IdentityConfig) : IdentityConfig :=
  { i with ownId := clampNat i.ownId 1 3999, layout := clampNat i.layout 0 15, channel := clampNat i.channel 0 15 }

/-- Ranges of R87 and R99, and the repaired speed curve of R91. -/
def clampTraction (t : TractionConfig) : TractionConfig :=
  { t with
    knots := risingKnots 0 (t.knots.map fun v => clampNat v 0 1023)
    vMax := clampNat t.vMax 0 1023
    aInc := clampNat t.aInc 1 255
    dInc := clampNat t.dInc 1 255
    sInc := clampNat t.sInc 1 255
    fInc := clampNat t.fInc 1 255
    followInc := clampNat t.followInc 1 255
    kp := clampNat t.kp 0 255
    ki := clampNat t.ki 0 63
    feed := clampNat t.feed 0 1000
    dMax := clampNat t.dMax 0 1000
    bemfCal := clampNat t.bemfCal 64 512
    stopThreshold := clampNat t.stopThreshold 0 63
    iTrip := clampNat t.iTrip 100 3900
    stallSpeed := clampNat t.stallSpeed 0 255 }

/-- Ranges of R15, R25, R40 and R68. -/
def clampWindows (w : WindowConfig) : WindowConfig :=
  { window := clampNat w.window 500 10000
    consistWindow := clampNat w.consistWindow 300 5000
    failsafeHold := clampNat w.failsafeHold 0 10000
    restrictedStep := clampNat w.restrictedStep 0 126
    occupancyStep := clampNat w.occupancyStep 0 126
    nearThreshold := clampNat w.nearThreshold 0 127
    ccaThreshold := clampNat w.ccaThreshold 0 127 }

def clampMapEntry (e : MapEntry) : MapEntry :=
  { e with group := clampNat e.group 0 31, index := clampNat e.index 0 15, prio := clampNat e.prio 0 7 }

def clampLamp (l : LampConfig) : LampConfig :=
  { l with brightness := clampNat l.brightness 0 255, enable := clampNat l.enable 0 31 }

/-- A calibration with R_a equal to R_b is given a slope (section 10.1). -/
def repairedRb (rA rB : Nat) : Nat :=
  if rA = rB then (if rA = 1023 then rA - 1 else rA + 1) else rB

/-- Ranges of R145. -/
def clampSmoke (k : SmokeConfig) : SmokeConfig :=
  { rA := clampNat k.rA 0 1023
    tA := clampNat k.tA 0 400
    rB := repairedRb (clampNat k.rA 0 1023) (clampNat k.rB 0 1023)
    tB := clampNat k.tB 0 400
    tRun := clampNat k.tRun 0 340
    tIdle := clampNat k.tIdle 0 340
    tDry := clampNat k.tDry 0 349
    iHeater := clampNat k.iHeater 0 4000
    iBase := clampNat k.iBase 0 4000
    iBudget := clampNat k.iBudget 0 8000
    baseFan := clampNat k.baseFan 0 1000
    fBurst := clampNat k.fBurst 0 1000
    burstMs := clampNat k.burstMs 20 200
    fIdle := clampNat k.fIdle 0 1000 }

/-- Ranges of R127. -/
def clampSound (d : SoundConfig) : SoundConfig :=
  { volume := clampNat d.volume 0 255
    chuffPrio := clampNat d.chuffPrio 0 7
    zonePrio := clampNat d.zonePrio 0 7
    systemPrio := clampNat d.systemPrio 0 7
    bellGroup := clampNat d.bellGroup 0 31
    bellIndex := clampNat d.bellIndex 0 15
    hornGroup := clampNat d.hornGroup 0 31
    hornIndex := clampNat d.hornIndex 0 15
    gBase := clampNat d.gBase 0 255
    uCruise := clampNat d.uCruise 0 1000
    kLoad := clampNat d.kLoad 0 255
    gMin := clampNat d.gMin 0 255
    brakeSpeed := clampNat d.brakeSpeed 0 1023 }

/-- Ranges of R123; each band threshold is raised to at least the one before it. -/
def clampChuff (c : ChuffConfig) : ChuffConfig :=
  { c with
    chuffK := clampNat c.chuffK 0 255
    b1 := clampNat c.b1 0 1023
    b2 := max (clampNat c.b1 0 1023) (clampNat c.b2 0 1023)
    b3 := max (max (clampNat c.b1 0 1023) (clampNat c.b2 0 1023)) (clampNat c.b3 0 1023) }

/-- Ranges of R159. -/
def clampSupply (p : SupplyConfig) : SupplyConfig :=
  { trackMin := clampNat p.trackMin 56 200
    storeLow := clampNat p.storeLow 52 160
    bridgeMax := clampNat p.bridgeMax 200 5000 }

/-- Event codes 15..255 are taken as 0 (R168). -/
def clampCounter (c : CounterConfig) : CounterConfig :=
  { c with event := if 14 < c.event then 0 else c.event, threshold := clampNat c.threshold 0 15 }

/-- Step 4 of the start sequence (R167, R168), made on a read and on a defaulted image alike. -/
def clampImage (im : Image) : Image :=
  { identity := clampIdentity im.identity
    traction := clampTraction im.traction
    windows := clampWindows im.windows
    ctxFailsafe := clampContext im.ctxFailsafe
    ctxSignal := clampContext im.ctxSignal
    ctxConsist := clampContext im.ctxConsist
    ctxDriver := clampContext im.ctxDriver
    ctxParked := clampContext im.ctxParked
    funcMap := im.funcMap.map clampMapEntry
    lamps := im.lamps.map clampLamp
    ditch := clampNat im.ditch 0 31
    smoke := clampSmoke im.smoke
    sound := clampSound im.sound
    chuff := clampChuff im.chuff
    supply := clampSupply im.supply
    counterA := clampCounter im.counterA
    counterB := clampCounter im.counterB }

/-- Whether bytes 510-511 hold the CRC of bytes 0..509, high byte first (R166). -/
def imageCrcHolds (mem : List Host.Cell) : Bool :=
  BitVec.ofNat 16 (word16 (memBytes mem 510 2) 0) == crc16 (memBytes mem 0 510)

/-- Steps 1 to 3 of the start sequence find the image valid: the EEPROM answers and the CRC matches (R167). -/
def imageValid (mem : List Host.Cell) (answers : Bool) : Bool := answers && imageCrcHolds mem

/-- The image in use after steps 1 to 4 of the start sequence (R167). -/
def chosenImage (mem : List Host.Cell) (answers : Bool) : Image :=
  clampImage (if imageValid mem answers then imageAt (memBytes mem 0 510) else defaultImage)

end Sys2Proof.Machine
end

