-- ==== Sys2Proof/Machine/State.lean ====
section
/-! DEFINITION. The state of the FS460: one structure per block (00_scope.md, The blocks), each with the state its chapter gives
it and the value every piece takes at a start; the queue of waiting commands; the faults and refusals (none of either is ever
answered by a meaning); and the state right after reset. -/

namespace Sys2Proof.Machine

/-! ### Fields -/

/-- Whether the part is stopped, in the start sequence's wait for live supply, or running (R165, R167). -/
inductive Power where
  | off
  | starting
  | running
deriving DecidableEq, Repr

/-- States of a supervision record (R15). -/
inductive LinkState where
  | up
  | lost
  | regaining
deriving DecidableEq, Repr

/-- A supervision record; empty while it has no source (R15). An empty record holds UP and age 0: DESIGN CHOICE (entry 46), since R15
gives its state and age no meaning and no start value. -/
structure LinkRecord where
  source : Option Nat := none
  state : LinkState := .up
  age : Nat := 0
deriving DecidableEq, Repr

/-- The header and level samples of the frame in collection (R3, R4). -/
structure Collected where
  bytes : HeaderBytes
  levels : Levels
deriving DecidableEq, Repr

/-- The receive chain (chapter 1). `estimate` stands while the receiver is on (R3); `renewals` is the model's own: the renewals of
the estimate so far that took a free level (entry 28). `rssi` 255 means none (R9). -/
structure Rxc where
  collecting : Option Collected := none
  estimate : Option Nat := none
  renewals : Nat := 0
  accepted : Nat := 0
  dropped : Nat := 0
  rssi : Nat := 255
  driverLink : LinkRecord := {}
  leadLink : LinkRecord := {}
deriving DecidableEq, Repr

/-- The report transmitter's activity (section 2.2). -/
inductive Activity where
  | holdoff
  | ready
  | checking
  | backingOff
  | sending
deriving DecidableEq, Repr

/-- The report transmitter (chapter 2). `holdoffLeft` has no value until the seed is taken (R23). `lfsr` before the seed is
1: DESIGN CHOICE (entry 5). `report` holds the bytes of the last report started (R27), empty before the first; `backoffLeft` and
`airLeft` are 0 while neither runs: DESIGN CHOICE (entry 50). -/
structure Rpt where
  activity : Activity := .holdoff
  due : Bool := false
  sinceStart : Option Nat := none
  credit : Nat := 0
  lfsr : BitVec 16 := 1#16
  holdoffLeft : Option Nat := none
  backoffLeft : Nat := 0
  airLeft : Nat := 0
  counterA : Nat := 0
  counterB : Nat := 0
  report : List Byte := []
deriving DecidableEq, Repr

/-- Peer roles (R34). -/
inductive PeerRole where
  | throttle
  | beacon
  | loco
  | tool
deriving DecidableEq, Repr

/-- The role record of a LOCO entry (R35). -/
structure LocoRecord where
  sect : Nat
  level : Nat
  consistId : Nat
deriving DecidableEq, Repr

/-- A peer entry that is not EMPTY; `stale` tells STALE from HEARD (R34). -/
structure Peer where
  stale : Bool
  station : Nat
  role : PeerRole
  age : Nat
  period : Option Nat
  record : Option LocoRecord
deriving DecidableEq, Repr

/-- The peer table: 16 entries, `none` for EMPTY (R34). -/
structure Ptb where
  entries : List (Option Peer) := List.replicate 16 none
deriving DecidableEq, Repr

/-- Beacon kinds (R10). -/
inductive BeaconKind where
  | signal
  | station
  | marker
deriving DecidableEq, Repr

/-- Aspects (R10). -/
inductive Aspect where
  | clear
  | approach
  | restricted
  | stop
deriving DecidableEq, Repr

/-- The zone flags of a beacon (R10). -/
structure ZoneFlags where
  noSmoke : Bool
  hornPoint : Bool
  bellZone : Bool
  quiet : Bool
deriving DecidableEq, Repr

/-- The last-passed beacon record (R40). -/
structure BeaconRecord where
  beacon : Nat
  sect : Nat
  nextSect : Nat
  kind : BeaconKind
  aspectPassing : Aspect
  aspect : Aspect
  limitStep : Nat
  dwell : Nat
  flags : ZoneFlags
deriving DecidableEq, Repr

/-- The track monitor (section 3.2). The published section, next section and aspect held are read from the record. -/
structure Tkm where
  record : Option BeaconRecord := none
  signalLimit : Option Nat := none
  occupancyLimit : Option Nat := none
  noSmoke : Bool := false
  bellZone : Bool := false
  quiet : Bool := false
deriving DecidableEq, Repr

/-- SIGNAL's stop state (R71). -/
structure StopState where
  reached : Bool := false
  dwell : Option Nat := none
  waitClear : Bool := false
deriving DecidableEq, Repr

/-- The saved part of a context (R49, R54). -/
structure SavedPart where
  dir : Direction := .forward
  target : Nat := 0
  stop : StopState := {}
  zeroLock : Bool := false
deriving DecidableEq, Repr

/-- A context record less its initial part, which is in the image in use, and its live data (R49). -/
structure Context where
  claimed : Bool := false
  source : Option Nat := none
  started : Bool := false
  saved : SavedPart := {}
deriving DecidableEq, Repr

/-- DRIVER's live data (R49). -/
structure DriverLive where
  funcs : FuncSet := 0#32
  step : Nat := 0
  dir : Direction := .forward
  zeroLock : Bool := false
deriving DecidableEq, Repr

/-- CONSIST's live data (R49). -/
structure ConsistLive where
  funcs : FuncSet := 0#32
  speed : Nat := 0
  dir : Direction := .forward
deriving DecidableEq, Repr

/-- The causes of FAILSAFE (R49). -/
inductive Cause where
  | linkLost
  | leadLost
  | member
  | supply
  | motorFault
  | stall
deriving DecidableEq, Repr

/-- The FAILSAFE cause set (R49). -/
structure CauseSet where
  linkLost : Bool := false
  leadLost : Bool := false
  member : Bool := false
  supply : Bool := false
  motorFault : Bool := false
  stall : Bool := false
deriving DecidableEq, Repr

/-- The authority unit (chapter 4). The claim list is read from the `claimed` flags in level order (R51). -/
structure Aut where
  failsafe : Context := {}
  signal : Context := {}
  consist : Context := {}
  driver : Context := {}
  parked : Context := {}
  driverLive : DriverLive := {}
  consistLive : ConsistLive := {}
  signalLive : StopState := {}
  causes : CauseSet := {}
  hold : Option Nat := none
  requested : Direction := .forward
deriving DecidableEq, Repr

/-- One listed member: its ID, and whether its orientation is REVERSED (R74). -/
structure Member where
  id : Nat
  reversed : Bool
deriving DecidableEq, Repr

/-- A consist membership (R74). -/
structure Membership where
  consistId : Nat
  members : List Member
deriving DecidableEq, Repr

/-- The pending-change slot: empty, or one resulting membership, which may be no consist (R74, R75). -/
inductive Slot where
  | empty
  | holds (m : Option Membership)
deriving DecidableEq, Repr

/-- A member watch; `grace` is the time left, `none` once the grace timer has expired (R82). -/
structure Watch where
  member : Nat
  grace : Option Nat
deriving DecidableEq, Repr

/-- The consist unit (chapter 5). -/
structure Csu where
  record : Option Membership := none
  slot : Slot := .empty
  watches : List Watch := []
  lastReported : Option Direction := none
deriving DecidableEq, Repr

/-- The speed reference (R88). -/
structure Spr where
  ref : Nat := 0
  running : Direction := .forward
  shunting : Bool := false
  braking : Bool := false
  stopped : Bool := true
deriving DecidableEq, Repr

/-- Bridge states (R100, R102). -/
inductive Bridge where
  | off
  | driveFwd
  | driveRev
  | brake
  | cool
deriving DecidableEq, Repr

/-- The motor regulator (R100). `inDrive`: a drive phase is running (R101); `active`: the bridge was driving or braking for any
part of it (R110); both are clear before the first drive phase: DESIGN CHOICE (entry 50). -/
structure Mrg where
  w : Nat := 0
  y : Nat := 0
  integral : Int := 0
  duty : Nat := 0
  bridge : Bridge := .off
  inDrive : Bool := false
  active : Bool := false
  brakeHold : Bool := false
  cool : Nat := 0
  overRun : Nat := 0
  window : List Nat := List.replicate 25 0
  tripCount : Nat := 0
  tripDecay : Option Nat := none
  stallRun : Nat := 0
deriving DecidableEq, Repr

/-- Consist roles (R74). -/
inductive ConsistRole where
  | none
  | lead
  | follower
deriving DecidableEq, Repr

/-- The function map's state (R118); `held` has entry n's held flag in bit n. -/
structure Fnm where
  last : FuncSet := 0#32
  lastRole : ConsistRole := .none
  held : BitVec 32 := 0#32
  smokeEnable : Bool := false
  shunting : Bool := false
  mute : Bool := false
deriving DecidableEq, Repr

/-- The chuff generator (R123). `sensor` is the wheel-sensor input, `cam` the debounced level. -/
structure Chg where
  phase : Nat := 0
  count : Nat := 0
  cam : Bool := false
  camWindow : Option Nat := none
  sensor : Bool := false
deriving DecidableEq, Repr

/-- Owners of sound requests (section 9.2). -/
inductive Owner where
  | function (n : Nat)
  | chuff
  | system
  | zone
  | action
deriving DecidableEq, Repr

/-- A trigger (R130); `hold` tells a hold from a one-shot. -/
structure Trigger where
  hold : Bool
  owner : Owner
  prio : Nat
  group : Nat
  index : Nat
deriving DecidableEq, Repr

/-- A clip as read from the library (R129). -/
structure Clip where
  start : Nat := 0
  length : Nat := 0
  loopStart : Nat := 0
  loopEnd : Nat := 0
  gain : Nat := 0
deriving DecidableEq, Repr

/-- Voice states (R137). -/
inductive VoiceState where
  | free
  | loading
  | playing
  | looping
  | releasing
deriving DecidableEq, Repr

/-- A voice record (R137). A FREE voice's priority, clip and allocation order, whose start value R137 gives as none, hold 0, a clip of
zeros and 0: DESIGN CHOICE (entry 48). -/
structure Voice where
  state : VoiceState := .free
  owner : Option Owner := none
  prio : Nat := 0
  clip : Clip := {}
  fetch : Nat := 0
  held : Bool := false
  buffer : List (BitVec 8) := []
  order : Nat := 0
deriving DecidableEq, Repr

/-- The flash port: idle, a lookup in flight with its void mark, or a refill of `count` samples (R131, R132). -/
inductive Port where
  | idle
  | lookup (t : Trigger) (void : Bool)
  | refill (voice pos count : Nat)
deriving DecidableEq, Repr

/-- The sound engine (chapter 9). `prevY` is 0 and `output` 0 before the first BEMF sample and the first sample event: DESIGN CHOICE
(entry 50). -/
structure Snd where
  queue : List Trigger := []
  port : Port := .idle
  pointer : Nat := 0
  voices : List Voice := List.replicate 6 {}
  squealLatch : Bool := false
  prevY : Nat := 0
  valve : Option Nat := none
  output : Int := 0
deriving DecidableEq, Repr

/-- Smoke states (R146). -/
inductive SmokeState where
  | off
  | warming
  | ready
  | idleHold
  | zoneHold
  | shed
  | dry
deriving DecidableEq, Repr

/-- A running fan burst (R146). -/
structure Burst where
  duty : Nat
  left : Nat
deriving DecidableEq, Repr

/-- The smoke unit (R146). -/
structure Smk where
  state : SmokeState := .off
  temp : Nat := 0
  heater : Bool := false
  standstill : Option Nat := some 30000
  long : Bool := false
  burst : Option Burst := none
  fan : Nat := 0
deriving DecidableEq, Repr

/-- A running blink (R154, R157). -/
structure Blink where
  count : Nat
  on : Bool
  left : Nat
deriving DecidableEq, Repr

/-- The state of one lamp (R154). `switchedOn` is the model's own: the lamp has been switched on since the start, so that its strobe phase
counts (entry 32). `fadeAge` is the time in µs since switch-on that the fade has run, 0 before the first switch-on: DESIGN CHOICE (entry
50). -/
structure LampState where
  lit : Bool := false
  switchedOn : Bool := false
  strobe : Nat := 0
  fade : Nat := 16
  fadeAge : Nat := 0
  blink : Option Blink := none
deriving DecidableEq, Repr

/-- The lamp unit (R154). `ditchRight`: the ditch phase is R; `ditchLeft`: time to its next toggle. -/
structure Lmp where
  lamps : List LampState := List.replicate 8 {}
  lfsr : BitVec 16 := 0xACE1#16
  flare : Option Nat := none
  ditchRight : Bool := false
  ditchLeft : Option Nat := none
deriving DecidableEq, Repr

/-- Supply states (R160). -/
inductive SupplyState where
  | normal
  | bridging
  | depleted
deriving DecidableEq, Repr

/-- The supply monitor (R160); `entryRun` counts the good evaluations of the entry test (R165), 0 at reset: DESIGN CHOICE (entry 50). -/
structure Sup where
  state : SupplyState := .normal
  low : Nat := 0
  high : Nat := 0
  bridging : Option Nat := none
  normalHold : Option Nat := none
  raised : Bool := false
  entryRun : Nat := 0
deriving DecidableEq, Repr

/-- Service statuses (R169). -/
inductive ServiceStatus where
  | none
  | done
  | busy
  | refusedMotion
  | refusedRange
  | refusedOp
  | writeFailed
deriving DecidableEq, Repr

/-- A write in flight (R171): the request, the page being written with the bytes it takes, whether that page write holds the
CRC, and the bytes written so far, for the verification. -/
structure Writing where
  offset : Nat
  count : Nat
  data : List Byte
  page : Nat
  inFlight : List Host.Cell
  hasCrc : Bool
  written : List Host.Cell
deriving DecidableEq, Repr

/-- Configuration, service and faults (chapter 12). -/
structure Cfg where
  image : Image := clampImage defaultImage
  configInvalid : Bool := false
  status : ServiceStatus := .none
  writing : Option Writing := none
  restartPending : Bool := false
  overcurrent : Bool := false
  overtemp : Bool := false
deriving DecidableEq, Repr

/-! ### State -/

/-- Everything the manual gives the part, and the queue of waiting commands. -/
structure State where
  pending : List Instr := []
  power : Power := .running
  rxc : Rxc := {}
  rpt : Rpt := {}
  ptb : Ptb := {}
  tkm : Tkm := {}
  aut : Aut := {}
  csu : Csu := {}
  spr : Spr := {}
  mrg : Mrg := {}
  fnm : Fnm := {}
  chg : Chg := {}
  snd : Snd := {}
  smk : Smk := {}
  lmp : Lmp := {}
  sup : Sup := {}
  cfg : Cfg := {}
  eeprom : List Host.Cell := []
  flash : List Host.Cell := []
deriving DecidableEq, Repr

/-- The model has no fault: no event of the manual stops the part for good. No meaning answers with one (safe). -/
inductive Fault where
deriving DecidableEq, Repr

/-- Refusals. `notModelled` would be raised by an arm of `exec` without a meaning, and every arm has one (safe). -/
inductive Refusal where
  /-- Raised by an arm of `exec` whose command has no meaning yet; there is none (safe). -/
  | notModelled (mnemonic : String)
deriving DecidableEq, Repr

/-- The startup one-shot of R142: owner SYSTEM, group 4 index 1, the given priority. -/
def startupTrigger (prio : Nat) : Trigger :=
  { hold := false, owner := .system, prio := prio, group := 4, index := 1 }

/-- A renewal of the channel estimate that no command brings a level for: a free level, clamped (R3; entry 28). -/
def freshEstimate (r : Rxc) : Rxc :=
  { r with estimate := some (clampLevel (Config.channelLevel r.renewals)), renewals := r.renewals + 1 }

/-- The machine right after reset: a start whose image check failed is complete (R167, step 7; entries 1 and 2). Every block
holds its start value, the receiver has an estimate (R3), PARKED is claimed and started, and the startup sound's lookup has begun
(R142, R133). -/
def State.reset : State :=
  { rxc := freshEstimate {}
    aut := { parked := { claimed := true, started := true } }
    snd := { port := .lookup (startupTrigger 5) false }
    cfg := { configInvalid := true } }

/-! ### One block's update -/

def State.onRxc (f : Rxc → Rxc) (s : State) : State := { s with rxc := f s.rxc }
def State.onRpt (f : Rpt → Rpt) (s : State) : State := { s with rpt := f s.rpt }
def State.onPtb (f : Ptb → Ptb) (s : State) : State := { s with ptb := f s.ptb }
def State.onTkm (f : Tkm → Tkm) (s : State) : State := { s with tkm := f s.tkm }
def State.onAut (f : Aut → Aut) (s : State) : State := { s with aut := f s.aut }
def State.onCsu (f : Csu → Csu) (s : State) : State := { s with csu := f s.csu }
def State.onSpr (f : Spr → Spr) (s : State) : State := { s with spr := f s.spr }
def State.onMrg (f : Mrg → Mrg) (s : State) : State := { s with mrg := f s.mrg }
def State.onFnm (f : Fnm → Fnm) (s : State) : State := { s with fnm := f s.fnm }
def State.onChg (f : Chg → Chg) (s : State) : State := { s with chg := f s.chg }
def State.onSnd (f : Snd → Snd) (s : State) : State := { s with snd := f s.snd }
def State.onSmk (f : Smk → Smk) (s : State) : State := { s with smk := f s.smk }
def State.onLmp (f : Lmp → Lmp) (s : State) : State := { s with lmp := f s.lmp }
def State.onSup (f : Sup → Sup) (s : State) : State := { s with sup := f s.sup }
def State.onCfg (f : Cfg → Cfg) (s : State) : State := { s with cfg := f s.cfg }
def State.onEeprom (f : List Host.Cell → List Host.Cell) (s : State) : State := { s with eeprom := f s.eeprom }

end Sys2Proof.Machine
end

