-- ==== Sys2Proof/Machine/Flags.lean ====
section
/-! DEFINITION. What is read off the state: the claim list and its head, the consist role, the published sections, the cause set's
tests, the fault summary, the effective function set, the target handed to SPR, the report period, the average current, the
effective duty limit and the receiver's state. Each is the manual's published value, computed from its one home. -/

namespace Sys2Proof.Machine

def State.image (s : State) : Image := s.cfg.image

def State.ownId (s : State) : Nat := s.cfg.image.identity.ownId

/-! ### Authority -/

/-- The record of a level (R49). -/
def autCtx (a : Aut) : Level → Context
  | .failsafe => a.failsafe
  | .signal => a.signal
  | .consist => a.consist
  | .driver => a.driver
  | .parked => a.parked

/-- Put a level's record. -/
def autSetCtx (a : Aut) (l : Level) (c : Context) : Aut :=
  match l with
  | .failsafe => { a with failsafe := c }
  | .signal => { a with signal := c }
  | .consist => { a with consist := c }
  | .driver => { a with driver := c }
  | .parked => { a with parked := c }

/-- All levels in rank order. -/
def allLevels : List Level := [.failsafe, .signal, .consist, .driver, .parked]

/-- The claim list: the claimed contexts from FAILSAFE down to PARKED (R51). -/
def claimList (a : Aut) : List Level := allLevels.filter fun l => (autCtx a l).claimed

/-- The highest claimed context below FAILSAFE; PARKED is always claimed (R51, R69). -/
def headBelow (a : Aut) : Level :=
  if a.signal.claimed then .signal
  else if a.consist.claimed then .consist
  else if a.driver.claimed then .driver
  else .parked

/-- The active context, the head of the claim list (R51). -/
def autHead (a : Aut) : Level := if a.failsafe.claimed then .failsafe else headBelow a

def State.head (s : State) : Level := autHead s.aut

/-- Whether a cause is in the set (R49). -/
def causeIn (c : Cause) (k : CauseSet) : Bool :=
  match c with
  | .linkLost => k.linkLost
  | .leadLost => k.leadLost
  | .member => k.member
  | .supply => k.supply
  | .motorFault => k.motorFault
  | .stall => k.stall

/-- The set with a cause put in or taken out. -/
def causePut (c : Cause) (v : Bool) (k : CauseSet) : CauseSet :=
  match c with
  | .linkLost => { k with linkLost := v }
  | .leadLost => { k with leadLost := v }
  | .member => { k with member := v }
  | .supply => { k with supply := v }
  | .motorFault => { k with motorFault := v }
  | .stall => { k with stall := v }

/-- Whether the cause set is empty (R68). -/
def causesEmpty (k : CauseSet) : Bool :=
  !(k.linkLost || k.leadLost || k.member || k.supply || k.motorFault || k.stall)

/-! ### Consist -/

/-- The index of an ID in a member list (R74). -/
def memberIndex (id : Nat) : List Member → Option Nat
  | [] => none
  | m :: ms => if m.id = id then some 0 else (memberIndex id ms).map (· + 1)

/-- The own position under a membership; none in no consist (R74). -/
def positionIn (own : Nat) (m : Option Membership) : Option Nat :=
  match m with
  | none => none
  | some k => memberIndex own k.members

/-- The consist ID of a membership, 0 for none (R74). -/
def consistIdOf (m : Option Membership) : Nat :=
  match m with
  | none => 0
  | some k => k.consistId

/-- NONE in no consist, LEAD at position 0, FOLLOWER at 1..5 (R74). -/
def roleOfPosition : Option Nat → ConsistRole
  | none => .none
  | some 0 => .lead
  | some (_ + 1) => .follower

def State.consistId (s : State) : Nat := consistIdOf s.csu.record

def State.position (s : State) : Option Nat := positionIn s.ownId s.csu.record

def State.role (s : State) : ConsistRole := roleOfPosition s.position

/-- The end flag: in no consist, at position 0, and at the last member's position (R74). -/
def State.endFlag (s : State) : Bool :=
  match s.csu.record, s.position with
  | some k, some p => p == 0 || p + 1 == k.members.length
  | _, _ => true

/-- Member 0's ID, the lead (R74). -/
def leadOf (m : Option Membership) : Option Nat :=
  match m with
  | some k => k.members.head?.map Member.id
  | none => none

/-- Whether the own entry is REVERSED (R74). -/
def ownReversed (own : Nat) (m : Option Membership) : Bool :=
  match m with
  | some k => k.members.any fun e => e.id == own && e.reversed
  | none => false

/-! ### Track -/

/-- The published section (R40). -/
def State.publishedSection (s : State) : Nat :=
  match s.tkm.record with
  | some r => r.sect
  | none => 0

/-- The published next section (R40). -/
def State.publishedNext (s : State) : Nat :=
  match s.tkm.record with
  | some r => r.nextSect
  | none => 0

/-- Aspect codes (R10). -/
def aspectCode : Aspect → Nat
  | .clear => 0
  | .approach => 1
  | .restricted => 2
  | .stop => 3

/-- Aspect held as it goes into a report: 15 while no beacon has been passed (R12, R40). -/
def State.aspectHeld (s : State) : Nat :=
  match s.tkm.record with
  | some r => aspectCode r.aspect
  | none => 15

/-! ### Functions -/

/-- The base set (R57). -/
def State.baseSet (s : State) : FuncSet :=
  if s.role = .follower then s.aut.consistLive.funcs
  else if s.aut.driver.claimed then s.aut.driverLive.funcs
  else 0#32

/-- Override values under the mask, the base set elsewhere (R57). -/
def applyOverride (mask values base : FuncSet) : FuncSet := (values &&& mask) ||| (base &&& ~~~mask)

/-- The effective function set (R57). -/
def State.fEff (s : State) : FuncSet :=
  applyOverride (s.image.ctx s.head).funcMask (s.image.ctx s.head).funcValues s.baseSet

/-! ### Targets handed to SPR (R73) -/

/-- A target with its kind. -/
inductive Target where
  | step (n : Nat)
  | speed (v : Nat)
deriving DecidableEq, Repr

/-- The target of the active context (R73). -/
def State.target (s : State) : Target :=
  match s.head with
  | .driver => .step (if s.aut.driverLive.zeroLock then 0 else s.aut.driverLive.step)
  | .consist => .speed s.aut.consistLive.speed
  | _ => .step 0

/-- The profile of the active context's initial part (R73). -/
def State.profile (s : State) : Profile := (s.image.ctx s.head).profile

/-! ### Report schedule (R21) -/

/-- The report period in force, in ms (R21). -/
def State.period (s : State) : Nat :=
  if s.role ≠ .none then 100 else if s.spr.stopped then 1000 else 250

/-- Its period code (R21). -/
def State.periodCode (s : State) : Nat :=
  if s.role ≠ .none then 2 else if s.spr.stopped then 5 else 3

/-! ### Motor -/

/-- The published average motor current: the floor of the mean of the window's 25 values (R109). -/
def averageCurrent (window : List Nat) : Nat := window.sum / 25

/-- The effective duty limit: 0 while DEPLETED, Dmax otherwise (R100). -/
def State.dMaxEff (s : State) : Nat :=
  if s.sup.state = .depleted then 0 else s.image.traction.dMax

/-- Whether the bridge drives in either direction (R102). -/
def bridgeDrives (b : Bridge) : Bool := b == .driveFwd || b == .driveRev

/-- Whether the bridge is active: driving or braking (R110). -/
def bridgeActive (b : Bridge) : Bool := bridgeDrives b || b == .brake

/-! ### Smoke and faults -/

/-- SMOKE_READY holds in READY and IDLE_HOLD (R153). -/
def smokeReady (st : SmokeState) : Bool := st == .ready || st == .idleHold

/-- The heating states (R151). -/
def smokeHeats (st : SmokeState) : Bool :=
  st == .warming || st == .ready || st == .idleHold || st == .zoneHold

/-- A set of flags as a byte, flag k in bit k. -/
def packBits : List Bool → Nat
  | [] => 0
  | b :: bs => (if b then 1 else 0) + 2 * packBits bs

/-- The fault summary byte (R67, R174). -/
def State.faultSummary (s : State) : Nat :=
  packBits
    [ s.aut.causes.linkLost,
      s.aut.causes.leadLost || s.aut.causes.member,
      s.aut.causes.supply,
      s.aut.causes.motorFault,
      s.aut.causes.stall,
      s.smk.state == .dry || s.cfg.overtemp,
      s.cfg.configInvalid,
      s.cfg.overcurrent || s.cfg.overtemp ]

/-! ### Receiver (R1, R2) -/

/-- The receiver is on from the start sequence's step 5 on, except while a report is on the air (R1, R2). -/
def State.receiverOn (s : State) : Bool :=
  match s.power with
  | .off => false
  | .starting => true
  | .running => s.rpt.activity != .sending

end Sys2Proof.Machine
end

