-- ==== Sys2Proof/Machine/Operands.lean ====
section
/-! DEFINITION. Reading what the air brings: the header (R5), the period code (R6), the payload layouts (R10) with their
normalisation (R11), the receive tests (R7, R8), and the operand forms of samples. -/

namespace Sys2Proof.Machine

/-! ### Header (R5) -/

def headerKind (h : HeaderBytes) : Nat := h.b0.toNat / 16
def headerLayout (h : HeaderBytes) : Nat := h.b0.toNat % 16
def headerSource (h : HeaderBytes) : Nat := h.b1.toNat * 16 + h.b2.toNat / 16
def headerWords (h : HeaderBytes) : Nat := h.b2.toNat % 16
def headerDest (h : HeaderBytes) : Nat := h.b3.toNat * 16 + h.b4.toNat / 16
def headerCode (h : HeaderBytes) : Nat := h.b4.toNat % 16

/-- The header check: XOR of bytes 0..4, XORed with 0x5A (R5). -/
def headerCheck (h : HeaderBytes) : Byte := h.b0 ^^^ h.b1 ^^^ h.b2 ^^^ h.b3 ^^^ h.b4 ^^^ 0x5A#8

/-- The header's bytes in air order. -/
def headerList (h : HeaderBytes) : List Byte := [h.b0, h.b1, h.b2, h.b3, h.b4, h.b5]

/-- The declared period of a code (R6). -/
def periodOfCode : Nat → Option Nat
  | 0 => none
  | 1 => some 50
  | 2 => some 100
  | 3 => some 250
  | 4 => some 500
  | 5 => some 1000
  | 6 => some 2000
  | _ => some 1000

/-- The frame's RSSI: the floor of the mean of the six clamped samples (R3). -/
def frameRssi (l : Levels) : Nat :=
  (clampLevel l.l0 + clampLevel l.l1 + clampLevel l.l2 + clampLevel l.l3 + clampLevel l.l4 + clampLevel l.l5) / 6

/-! ### Receive tests (R7, R8) -/

/-- Drop reasons (R7). -/
inductive DropReason where
  | header
  | layout
  | kind
  | length
  | crc
deriving DecidableEq, Repr

/-- Test 1 fails (R7). -/
def headerFails (own : Nat) (h : HeaderBytes) : Bool :=
  h.b5 != headerCheck h || headerSource h == 0 || (4000 ≤ headerSource h && headerSource h ≤ 4095)
    || (headerKind h == 4 && headerSource h == own)

/-- The least payload of a kind, in words (R8). -/
def leastWords (kind : Nat) (p : List Byte) : Nat :=
  match kind with
  | 1 => 3
  | 2 => if p.length < 2 then 1 else 1 + min (byteAt p 1 % 16) 6
  | 3 => 4
  | 4 => 9
  | _ => if p.length < 4 then 2 else if byteAt p 0 = 1 then (4 + byteAt p 3 + 1) / 2 else 2

/-- Tests 2 to 5, the first failing one naming the reason (R7). -/
def dropReason (layout : Nat) (h : HeaderBytes) (p : List Byte) (crc : BitVec 16) : Option DropReason :=
  if headerLayout h ≠ layout then some .layout
  else if headerKind h < 1 ∨ 5 < headerKind h then some .kind
  else if p.length < 2 * leastWords (headerKind h) p then some .length
  else if crc ≠ crc16 (headerList h ++ p) then some .crc
  else none

/-! ### Decoded payloads (R10, R11) -/

/-- THROTTLE (R10): speed step 127 is handed on as 126 (R11). -/
structure ThrottleData where
  step : Nat
  dir : Direction
  emergency : Bool
  release : Bool
  funcs : FuncSet
deriving DecidableEq, Repr

def throttleData (p : List Byte) : ThrottleData where
  step := min (byteAt p 0 % 128) 126
  dir := if byteAt p 0 / 128 = 1 then .forward else .reverse
  emergency := byteAt p 1 / 128 == 1
  release := byteAt p 1 / 64 % 2 == 1
  funcs := BitVec.ofNat 32 (word32 p 2)

/-- CONSIST (R10): member count 7..15 is handed on as 6 (R11). -/
structure ConsistData where
  consistId : Nat
  members : List Member
deriving DecidableEq, Repr

def consistData (p : List Byte) : ConsistData where
  consistId := word16 p 0 / 16
  members := (List.range (min (byteAt p 1 % 16) 6)).map fun k =>
    { id := word16 p (2 + 2 * k) / 16, reversed := byteAt p (3 + 2 * k) / 8 % 2 == 1 }

/-- Beacon kinds 0 and 4..15 are handed on as MARKER (R11). -/
def beaconKindOf : Nat → BeaconKind
  | 1 => .signal
  | 2 => .station
  | _ => .marker

/-- Aspects 4..15 are handed on as STOP (R11). -/
def aspectOf : Nat → Aspect
  | 0 => .clear
  | 1 => .approach
  | 2 => .restricted
  | _ => .stop

/-- BEACON (R10): limit step 127 is handed on as 126 (R11). -/
structure BeaconData where
  sect : Nat
  nextSect : Nat
  kind : BeaconKind
  aspect : Aspect
  limitStep : Nat
  dwell : Nat
  flags : ZoneFlags
deriving DecidableEq, Repr

def beaconData (p : List Byte) : BeaconData where
  sect := word16 p 0 / 16
  nextSect := word16 p 2 / 16
  kind := beaconKindOf (word16 p 0 % 16)
  aspect := aspectOf (word16 p 2 % 16)
  limitStep := min (byteAt p 4 % 128) 126
  dwell := byteAt p 5
  flags :=
    { noSmoke := byteAt p 6 % 2 == 1
      hornPoint := byteAt p 6 / 2 % 2 == 1
      bellZone := byteAt p 6 / 4 % 2 == 1
      quiet := byteAt p 6 / 8 % 2 == 1 }

/-- LOCO (R10), with the normalisation of R11. -/
structure LocoData where
  sect : Nat
  aspect : Nat
  nextSect : Nat
  level : Nat
  dir : Direction
  refSpeed : Nat
  stopped : Bool
  zeroLock : Bool
  lead : Bool
  follower : Bool
  smokeReady : Bool
  speed : Nat
  supply : Nat
  status : Nat
  consistId : Nat
  position : Nat
  faults : Nat
deriving DecidableEq, Repr

def locoData (p : List Byte) : LocoData where
  sect := word16 p 0 / 16
  aspect := if 4 ≤ word16 p 0 % 16 then 15 else word16 p 0 % 16
  nextSect := word16 p 2 / 16
  level := min (word16 p 2 / 2 % 8) 4
  dir := if word16 p 2 % 2 = 1 then .forward else .reverse
  refSpeed := word16 p 4 / 64
  stopped := word16 p 4 / 32 % 2 == 1
  zeroLock := word16 p 4 / 16 % 2 == 1
  lead := word16 p 4 / 8 % 2 == 1
  follower := word16 p 4 / 4 % 2 == 1
  smokeReady := word16 p 4 / 2 % 2 == 1
  speed := word16 p 6 / 64
  supply := min (word16 p 6 / 16 % 4) 2
  status := word16 p 6 % 16
  consistId := word16 p 8 / 16
  position := if word16 p 8 / 2 % 8 = 6 then 7 else word16 p 8 / 2 % 8
  faults := byteAt p 10

/-- SERVICE (R10), handed on as received (R11). -/
structure ServiceData where
  op : Nat
  offset : Nat
  count : Nat
  data : List Byte
deriving DecidableEq, Repr

def serviceData (p : List Byte) : ServiceData where
  op := byteAt p 0
  offset := word16 p 1
  count := byteAt p 3
  data := (p.drop 4).take (byteAt p 3)

/-- What every accepted frame carries to the blocks besides its payload (R6). -/
structure FrameInfo where
  source : Nat
  dest : Nat
  period : Option Nat
  rssi : Nat
deriving DecidableEq, Repr

def frameInfo (c : Collected) : FrameInfo where
  source := headerSource c.bytes
  dest := headerDest c.bytes
  period := periodOfCode (headerCode c.bytes)
  rssi := frameRssi c.levels

end Sys2Proof.Machine
end

