-- ==== Sys2Proof/Machine/Ops.lean ====
section
/-! DEFINITION. Operations shared by the blocks: signalling a diagnostic event (R30, R31), sampling an occupancy event (R32), making
a report due (R21, R22), the pinned standing (R38), the peer table's inserts and refreshes (R35 to R37), and the causes of
FAILSAFE as raw changes of the claim list (R52, R55, R67, R68). -/

namespace Sys2Proof.Machine

/-! ### Diagnostic counters (R30 to R33) -/

/-- Owner classes (R31). -/
inductive OwnerClass where
  | function
  | chuff
  | system
  | zone
  | action
deriving DecidableEq, Repr

/-- The ten count events (R31). -/
inductive DiagEvent where
  | rxAccept (kind : Nat)
  | rxDrop (reason : DropReason)
  | txSent
  | ccaBusy
  | peerEvict (role : PeerRole)
  | voicePreempt (cls : OwnerClass)
  | triggerDrop (cls : OwnerClass)
  | claim (level : Level)
  | motorTrip
  | contention
deriving DecidableEq, Repr

/-- The event code of a count event (R31). -/
def diagCode : DiagEvent → Nat
  | .rxAccept _ => 1
  | .rxDrop _ => 2
  | .txSent => 3
  | .ccaBusy => 5
  | .peerEvict _ => 7
  | .voicePreempt _ => 9
  | .triggerDrop _ => 10
  | .claim _ => 11
  | .motorTrip => 13
  | .contention => 14

def dropReasonBit : DropReason → Nat
  | .header => 0
  | .layout => 1
  | .kind => 2
  | .length => 3
  | .crc => 4

def peerRoleBit : PeerRole → Nat
  | .throttle => 0
  | .beacon => 1
  | .loco => 2
  | .tool => 3

def ownerClassBit : OwnerClass → Nat
  | .function => 0
  | .chuff => 1
  | .system => 2
  | .zone => 3
  | .action => 4

/-- The class of an owner: all FUNCTION(n) are FUNCTION (R31). -/
def ownerClass : Owner → OwnerClass
  | .function _ => .function
  | .chuff => .chuff
  | .system => .system
  | .zone => .zone
  | .action => .action

/-- The mask bit an event's qualifying value reads, none for an event without a qualifier (R31). -/
def qualifierBit : DiagEvent → Option Nat
  | .rxAccept kind => some (kind - 1)
  | .rxDrop r => some (dropReasonBit r)
  | .txSent => none
  | .ccaBusy => none
  | .peerEvict r => some (peerRoleBit r)
  | .voicePreempt c => some (ownerClassBit c)
  | .triggerDrop c => some (ownerClassBit c)
  | .claim l => some l.code
  | .motorTrip => none
  | .contention => none

/-- Whether a counter counts an occurrence (R31). -/
def counterTakes (c : CounterConfig) (e : DiagEvent) : Bool :=
  c.event == diagCode e &&
    match qualifierBit e with
    | none => true
    | some k => c.mask.getLsbD k

/-- One occurrence at one counter, saturating at 65535 (R30). -/
def countEvent (c : CounterConfig) (e : DiagEvent) (n : Nat) : Nat :=
  if counterTakes c e then satAdd n 1 65535 else n

/-- A count event reaches both counters (R30, R31). -/
def State.signal (e : DiagEvent) (s : State) : State :=
  s.onRpt fun r =>
    { r with
      counterA := countEvent s.image.counterA e r.counterA
      counterB := countEvent s.image.counterB e r.counterB }

/-! ### Reports falling due (R21, R22) -/

/-- An urgent change sets the report-due flag (R22). -/
def State.makeDue (s : State) : State := s.onRpt fun r => { r with due := true }

/-- The report-due flag is set when the since-start clock has reached the period in force (R21). -/
def State.periodTest (s : State) : State :=
  match s.rpt.sinceStart with
  | some c => if s.period ≤ c then s.makeDue else s
  | none => s

/-- Whether an event changed one of the four urgent values compared before and after it (R22). The fifth, the service status, is urgent at
every answer. The fault summary is compared as a byte: DRY entered or left while SMOKE_OVERTEMP holds bit 5, and SMOKE_OVERTEMP set while
DRY holds bit 5 and OVERCURRENT bit 7, make no report due, DESIGN CHOICE (entry 45). -/
def urgentChange (s0 s : State) : Bool :=
  s0.head != s.head || s0.publishedSection != s.publishedSection || s0.faultSummary != s.faultSummary
    || s0.position != s.position

/-- The report schedule at the end of an event: urgent changes (R22) and the period test (R21). -/
def State.reportTest (s s0 : State) : State :=
  (if urgentChange s0 s then s.makeDue else s).periodTest

/-- CFG sets a service status in answer to a SERVICE frame; the report is due even where the value repeats (R22, R169). -/
def State.answer (st : ServiceStatus) (s : State) : State :=
  (s.onCfg fun c => { c with status := st }).makeDue

/-! ### Timers -/

/-- A running count is at its last ms. -/
def lastMs (t : Option Nat) : Bool :=
  match t with
  | some n => n ≤ 1
  | none => false

/-! ### The peer table (R34 to R39) -/

/-- Whether a station's entry is pinned (R38): DRIVER's source, a listed member, the last-passed beacon. -/
def State.pinned (s : State) (id : Nat) : Bool :=
  (s.aut.driver.claimed && s.aut.driver.source == some id)
    || (match s.csu.record with
        | some k => k.members.any fun e => e.id == id && id != s.ownId
        | none => false)
    || (match s.tkm.record with
        | some r => r.beacon == id
        | none => false)

/-- The index of the entry a station has. -/
def entryOf (id : Nat) : List (Option Peer) → Option Nat
  | [] => none
  | some p :: es => if p.station = id then some 0 else (entryOf id es).map (· + 1)
  | none :: es => (entryOf id es).map (· + 1)

/-- The entry a station has. -/
def peerOf (id : Nat) : List (Option Peer) → Option Peer
  | [] => none
  | some p :: es => if p.station = id then some p else peerOf id es
  | none :: es => peerOf id es

/-- The EMPTY entry of lowest index (R37). -/
def firstEmpty : List (Option Peer) → Option Nat
  | [] => none
  | none :: _ => some 0
  | some _ :: es => (firstEmpty es).map (· + 1)

/-- The index and age of the oldest entry that may be evicted with the wanted staleness; the lower index among equals (R37). -/
def oldest (pinned : Nat → Bool) (stale : Bool) : List (Option Peer) → Option (Nat × Nat)
  | [] => none
  | e :: es =>
    let rest := (oldest pinned stale es).map fun x => (x.1 + 1, x.2)
    match e with
    | none => rest
    | some p =>
      if p.stale == stale && !pinned p.station then
        match rest with
        | none => some (0, p.age)
        | some x => if p.age < x.2 then some x else some (0, p.age)
      else rest

/-- The entry to evict: the oldest unpinned STALE entry, failing that the oldest unpinned HEARD one (R37). -/
def evictIndex (pinned : Nat → Bool) (es : List (Option Peer)) : Option Nat :=
  match oldest pinned true es with
  | some x => some x.1
  | none => (oldest pinned false es).map (·.1)

/-- The fresh entry of a frame: HEARD, age 0 (R36, R37). -/
def freshPeer (info : FrameInfo) (role : PeerRole) (rec : Option LocoRecord) : Peer where
  stale := false
  station := info.source
  role := role
  age := 0
  period := info.period
  record := rec

/-- A frame is handed to PTB: refresh in place (R36), or insert, evicting where no entry is EMPTY (R37). -/
def State.takePeer (info : FrameInfo) (role : PeerRole) (rec : Option LocoRecord) (s : State) : State :=
  match entryOf info.source s.ptb.entries with
  | some i => s.onPtb fun t => { t with entries := t.entries.set i (some (freshPeer info role rec)) }
  | none =>
    match firstEmpty s.ptb.entries with
    | some i => s.onPtb fun t => { t with entries := t.entries.set i (some (freshPeer info role rec)) }
    | none =>
      match evictIndex s.pinned s.ptb.entries with
      | some i =>
        (match s.ptb.entries.getD i none with
          | some p => s.signal (.peerEvict p.role)
          | none => s).onPtb fun t => { t with entries := t.entries.set i (some (freshPeer info role rec)) }
      | none => s

/-- The role of the entry that an insert for this station would evict (R37, R46). -/
def State.evictedRole (id : Nat) (s : State) : Option PeerRole :=
  match entryOf id s.ptb.entries, firstEmpty s.ptb.entries, evictIndex s.pinned s.ptb.entries with
  | none, none, some i => (s.ptb.entries.getD i none).map Peer.role
  | _, _, _ => none

/-! ### Occupancy (R46) -/

/-- Whether one entry occupies the section ahead (R46). -/
def occupies (nextSect ownConsist : Nat) (e : Option Peer) : Bool :=
  match e with
  | some p =>
    !p.stale && p.role == .loco &&
      match p.record with
      | some r => r.sect == nextSect && nextSect != 0 && (ownConsist == 0 || r.consistId != ownConsist)
      | none => false
  | none => false

/-- TKM makes the occupancy test afresh (R46). -/
def State.occupancyTest (s : State) : State :=
  s.onTkm fun t =>
    { t with
      occupancyLimit :=
        if s.ptb.entries.any (occupies s.publishedNext s.consistId) then some s.image.windows.occupancyStep else none }

/-! ### The claim list, changed raw

An event's changes are made on the records first. `settle` (Machine/Authority.lean) then takes them as one change from the list
before the event to the list after it (R55). -/

/-- A claim of a level that is not claimed: claimed, not started, with its source, and one CLAIM event (R52). -/
def State.claim (l : Level) (src : Option Nat) (s : State) : State :=
  (s.onAut fun a =>
    autSetCtx a l { claimed := true, source := src, started := false, saved := (autCtx a l).saved }).signal (.claim l)

/-- A level's live data back at its start values (R49). -/
def clearLive (l : Level) (a : Aut) : Aut :=
  match l with
  | .failsafe => { a with causes := {}, hold := none }
  | .signal => { a with signalLive := {} }
  | .consist => { a with consistLive := {} }
  | .driver => { a with driverLive := {} }
  | .parked => a

/-- A release returns the record to its start values; PARKED is not released, and a release of a context that is not claimed
changes nothing (R49, R55). -/
def State.release (l : Level) (s : State) : State :=
  if l = .parked ∨ (autCtx s.aut l).claimed = false then s
  else s.onAut fun a => clearLive l (autSetCtx a l {})

/-- A cause enters the set: FAILSAFE is claimed, or its hold timer stopped (R67). -/
def State.addCause (c : Cause) (s : State) : State :=
  if causeIn c s.aut.causes then s
  else
    (if s.aut.failsafe.claimed then s else s.claim .failsafe none).onAut fun a =>
      { a with causes := causePut c true a.causes, hold := none }

/-- A cause leaves the set; where it was the last one the hold timer starts (R68). -/
def State.removeCause (c : Cause) (s : State) : State :=
  if causeIn c s.aut.causes then
    s.onAut fun a =>
      { a with
        causes := causePut c false a.causes
        hold := if causesEmpty (causePut c false a.causes) then some s.image.windows.failsafeHold else a.hold }
  else s

/-! ### Supervision records (R15 to R20) -/

def linkRecord (l : Link) (r : Rxc) : LinkRecord :=
  match l with
  | .driver => r.driverLink
  | .lead => r.leadLink

def setLinkRecord (l : Link) (k : LinkRecord) (r : Rxc) : Rxc :=
  match l with
  | .driver => { r with driverLink := k }
  | .lead => { r with leadLink := k }

/-- The cause of a link (R18). -/
def linkCause : Link → Cause
  | .driver => .linkLost
  | .lead => .leadLost

/-- The window of a link in ms (R15). -/
def State.linkWindow (s : State) : Link → Nat
  | .driver => s.image.windows.window
  | .lead => s.image.windows.consistWindow

/-- A record set up by its owner (R19, R20). -/
def State.setLink (l : Link) (src : Option Nat) (st : LinkState) (s : State) : State :=
  s.onRxc (setLinkRecord l { source := src, state := st, age := 0 })

/-- A valid frame for a link (R17, R18): the age is cleared; LOST becomes REGAINING, REGAINING becomes UP and loses its cause. -/
def State.validFrame (l : Link) (s : State) : State :=
  match (linkRecord l s.rxc).state with
  | .up => s.setLink l (linkRecord l s.rxc).source .up
  | .lost => s.setLink l (linkRecord l s.rxc).source .regaining
  | .regaining => (s.setLink l (linkRecord l s.rxc).source .up).removeCause (linkCause l)

end Sys2Proof.Machine
end

