-- ==== Sys2Proof/Machine/Lamps.lean ====
section
/-! DEFINITION. The lamp unit (section 10.2): lit conditions, effects, blinks, the flare and the output brightness. -/

namespace Sys2Proof.Machine

/-- Whether a lamp is forced by the active context's lamp override (R155). -/
def State.lampForced (s : State) (n : Nat) : Bool := (s.image.ctx s.head).lampMask.getLsbD n

/-- A lamp's record in the image in use. -/
def State.lampConfig (s : State) (n : Nat) : LampConfig := s.image.lamps.getD n (defaultLamp .aux)

/-- A lamp's state. -/
def State.lamp (s : State) (n : Nat) : LampState := s.lmp.lamps.getD n {}

/-- The effect in force: the forced effect for a lamp of the mask, its own otherwise (R155). -/
def State.lampEffect (s : State) (n : Nat) : LampEffect :=
  if s.lampForced n then (s.image.ctx s.head).lampEffect else (s.lampConfig n).effect

/-- The direction rule holds (R155). -/
def directionHolds (r : DirectionRule) (d : Direction) : Bool :=
  match r with
  | .fwd => d == .forward
  | .rev => d == .reverse
  | .both => true

/-- The consist rule holds (R85). -/
def consistHolds (r : ConsistRule) (role : ConsistRole) (endFlag : Bool) : Bool :=
  match r with
  | .always => true
  | .leadOnly => role != .follower
  | .endOnly => endFlag

/-- A lamp is lit when each of its three rules holds, on the set FNM last handed over (R119, R155). -/
def State.lampLit (s : State) (n : Nat) : Bool :=
  (s.lampForced n || s.fnm.last.getLsbD (s.lampConfig n).enable)
    && directionHolds (s.lampConfig n).dirRule s.spr.running
    && consistHolds (s.lampConfig n).consistRule s.role s.endFlag

/-- Whether a lamp's strobe phase counts: it is the time since the lamp was last switched on, lit or dark since (R154; entry 32). -/
def strobeCounts (l : LampState) : Bool := l.lit || l.switchedOn

/-- The next step of a lit lamp's fade count falls in this ms (R156; entry 12). -/
def fadeDue (l : LampState) : Bool := l.lit && l.fade < 16 && 31250 * (l.fade + 1) ≤ l.fadeAge + 1000

/-- A counting strobe phase comes to 50 ms, or to 1000 ms, in this ms (R154, R156). -/
def strobeDue (l : LampState) : Bool := strobeCounts l && (l.strobe == 49 || 999 ≤ l.strobe)

/-- A blink's phase is in its last ms (R157). -/
def blinkDue (b : Blink) : Bool := b.left ≤ 1

/-- A lamp's state with its lit condition recomputed; switching on restarts its phases (R155). -/
def relit (lit : Bool) (effect : LampEffect) (l : LampState) : LampState :=
  if lit && !l.lit then
    { l with lit := true, switchedOn := true, strobe := 0, fade := if effect = .fade then 0 else 16, fadeAge := 0 }
  else { l with lit := lit }

/-- The lamps from an index on, with their lit conditions recomputed. -/
def relitFrom (lit : Nat → Bool) (effect : Nat → LampEffect) : Nat → List LampState → List LampState
  | _, [] => []
  | n, l :: ls => relit (lit n) (effect n) l :: relitFrom lit effect (n + 1) ls

/-- LMP recomputes the lit condition of every lamp (R155). -/
def State.lampsRefresh (s : State) : State :=
  s.onLmp fun u => { u with lamps := relitFrom s.lampLit s.lampEffect 0 u.lamps }

/-- The ditch phase follows the ditch function: L at its going on, stopped while it is off (R156). -/
def State.ditchChange (before after : Bool) (s : State) : State :=
  s.onLmp fun u =>
    { u with
      ditchRight := if after && !before then false else u.ditchRight
      ditchLeft := if after then (if before then u.ditchLeft else some 500) else none }

/-- A blink set on a lamp of a mask (R157). -/
def blinkFrom (mask : BitVec 8) (count : Nat) : Nat → List LampState → List LampState
  | _, [] => []
  | n, l :: ls =>
    (if mask.getLsbD n then { l with blink := some { count := count, on := true, left := 250 } } else l)
      :: blinkFrom mask count (n + 1) ls

/-- A LAMP_BLINK entry action (R56, R157). -/
def State.blink (mask : BitVec 8) (count : Nat) (s : State) : State :=
  s.onLmp fun u => { u with lamps := blinkFrom mask count 0 u.lamps }

/-- The next phase of a blink: ON to OFF; at the end of OFF the count falls by 1 and at 0 the blink ends (R157). -/
def nextBlink (b : Blink) : Option Blink :=
  if b.on then some { b with on := false, left := 250 }
  else if b.count ≤ 1 then none
  else some { count := b.count - 1, on := true, left := 250 }

/-- A firebox flare from CHG starts the flare timer, or starts it again (R156). -/
def State.flare (s : State) : State := s.onLmp fun u => { u with flare := some 64 }

/-- Change one lamp's state. -/
def State.onLamp (n : Nat) (f : LampState → LampState) (s : State) : State :=
  s.onLmp fun u => { u with lamps := u.lamps.set n (f (u.lamps.getD n {})) }

/-! ### Output (R156, R158) -/

/-- The factor 0..256 of a lit lamp (R156). -/
def State.lampFactor (s : State) (n : Nat) : Nat :=
  match s.lampEffect n with
  | .steady => 256
  | .dim => 128
  | .flicker =>
    if s.lmp.flare.isSome ∧ (s.lampConfig n).role = .firebox then 255 else 128 + s.lmp.lfsr.toNat % 128
  | .strobe => if (s.lamp n).strobe < 50 then 256 else 0
  | .ditchAlt =>
    if s.fnm.last.getLsbD s.image.ditch then
      (if ((s.lampConfig n).role == .ditchR) == s.lmp.ditchRight then 256 else 0)
    else 256
  | .fade => 16 * (s.lamp n).fade

/-- The base level: the blink's while one runs, the effect's for a lit lamp, 0 for a dark one (R157, R158). -/
def State.lampBase (s : State) (n : Nat) : Nat :=
  match (s.lamp n).blink with
  | some b => if b.on then (s.lampConfig n).brightness else 0
  | none => if (s.lamp n).lit then (s.lampConfig n).brightness * s.lampFactor n / 256 else 0

/-- The level written to a lamp's output under the supply state (R158). -/
def State.lampOutput (s : State) (n : Nat) : Nat :=
  match s.power, s.sup.state with
  | .running, .normal => s.lampBase n
  | .running, .bridging => s.lampBase n / 2
  | .running, .depleted => if (s.lampConfig n).role = .marker then s.lampBase n / 2 else 0
  | _, _ => 0

end Sys2Proof.Machine
end

