-- ==== Sys2Proof/Machine/Smoke.lean ====
section
/-! DEFINITION. The smoke unit (section 10.1): temperature, state moves and their settling, heater and fan. -/

namespace Sys2Proof.Machine

/-! ### Fan (R152) -/

/-- The fan duty of a state (R152). -/
def fanDuty (k : SmokeConfig) (stopped : Bool) (st : SmokeState) (b : Option Burst) : Nat :=
  match st with
  | .ready =>
    match b with
    | some x => x.duty
    | none => if stopped then k.fIdle else k.baseFan
  | .idleHold => k.fIdle
  | _ => 0

/-- The fan takes the duty of the state, the burst and the motion as they stand (R152). -/
def State.fanRefresh (s : State) : State :=
  s.onSmk fun k => { k with fan := fanDuty s.image.smoke s.spr.stopped k.state k.burst }

/-- A fan burst is in its last ms (R152). -/
def burstDue (b : Option Burst) : Bool :=
  match b with
  | some x => x.left ≤ 1
  | none => false

/-- A burst request is merged with a running burst: the greater duty and the greater time (R152). -/
def mergeBurst (duty ms : Nat) (b : Option Burst) : Burst :=
  match b with
  | none => { duty := duty, left := ms }
  | some x => { duty := max x.duty duty, left := max x.left ms }

/-- An entry-action burst at full duty, taken only in READY (R56, R152). -/
def State.entryBurst (ms : Nat) (s : State) : State :=
  if s.smk.state = .ready then
    (s.onSmk fun k => { k with burst := some (mergeBurst 1000 ms k.burst) }).fanRefresh
  else s

/-- A chuff burst, taken only in READY while STOPPED does not hold (R152). -/
def State.chuffBurst (s : State) : State :=
  if s.smk.state = .ready ∧ s.spr.stopped = false then
    (s.onSmk fun k =>
      { k with burst := some (mergeBurst s.image.smoke.fBurst s.image.smoke.burstMs k.burst) }).fanRefresh
  else s

/-! ### States (R149, R150) -/

/-- READY settled: ZONE_HOLD under NO_SMOKE, IDLE_HOLD after a long standstill (R150). -/
def settleReady (noSmoke long : Bool) : SmokeState :=
  if noSmoke then .zoneHold else if long then .idleHold else .ready

/-- A state is entered: the heater goes off outside the heating states, a burst is cancelled outside READY, and the fan takes
its new duty (R149, R152). -/
def State.smokeEnter (st : SmokeState) (s : State) : State :=
  (s.onSmk fun k =>
    { k with
      state := st
      heater := k.heater && smokeHeats st
      burst := if st = .ready then k.burst else none }).fanRefresh

/-- READY is reached and settled in the same event (R150). -/
def State.smokeReach (s : State) : State := s.smokeEnter (settleReady s.tkm.noSmoke s.smk.long)

/-- The combined smoke enable goes on or off (R122, R149). -/
def State.smokeEnabled (on : Bool) (s : State) : State :=
  if on then
    if s.smk.state = .off then s.smokeEnter (if s.sup.state = .normal then .warming else .shed) else s
  else if s.smk.state = .off then s
  else s.smokeEnter .off

/-- NO_SMOKE as it now stands (R47, R149): set takes READY and IDLE_HOLD to ZONE_HOLD, cleared takes ZONE_HOLD to READY. -/
def State.smokeZone (s : State) : State :=
  if s.tkm.noSmoke then
    if s.smk.state = .ready ∨ s.smk.state = .idleHold then s.smokeEnter .zoneHold else s
  else if s.smk.state = .zoneHold then s.smokeReach
  else s

/-- The supply state as it now stands (R149): away from NORMAL the enabled states shed, on return SHED warms. -/
def State.smokeSupply (s : State) : State :=
  if s.sup.state = .normal then
    if s.smk.state = .shed then s.smokeEnter .warming else s
  else if smokeHeats s.smk.state then s.smokeEnter .shed
  else s

/-- The beginning of STOPPED: the standstill timer starts and long standstill is cleared (R146). -/
def State.smokeStopBegins (s : State) : State :=
  (s.onSmk fun k => { k with standstill := some 30000, long := false }).fanRefresh

/-- The ending of STOPPED: the timer stops, long standstill is cleared, and IDLE_HOLD goes to READY (R146, R149). -/
def State.smokeStopEnds (s : State) : State :=
  let s1 := s.onSmk fun k => { k with standstill := none, long := false }
  if s1.smk.state = .idleHold then s1.smokeReach else s1.fanRefresh

/-- The standstill timer expires: long standstill is set and READY goes to IDLE_HOLD (R146, R149). -/
def State.standstillDone (s : State) : State :=
  let s1 := s.onSmk fun k => { k with standstill := none, long := true }
  if s1.smk.state = .ready then s1.smokeEnter .idleHold else s1

/-! ### The thermostat (R147, R148, R151) -/

/-- The temperature of a raw reading (R147). -/
def temperature (k : SmokeConfig) (raw : Nat) : Nat :=
  (clampInt
    ((k.tA : Int) + floorDiv (((raw : Int) - k.rA) * ((k.tB : Int) - k.tA)) ((k.rB : Int) - k.rA)) 0 400).toNat

/-- The budget holds: average motor current plus heater plus base current is at most the budget (R151). -/
def State.budgetHolds (s : State) : Bool :=
  averageCurrent s.mrg.window + s.image.smoke.iHeater + s.image.smoke.iBase ≤ s.image.smoke.iBudget

/-- The four conditions of the heater (R151). -/
def State.heaterAllowed (s : State) : Bool :=
  s.sup.state == .normal && smokeHeats s.smk.state && !s.cfg.overtemp && s.budgetHolds

/-- The setpoint (R147). -/
def State.setpoint (s : State) : Nat :=
  if s.smk.state = .zoneHold ∨ s.smk.long = true then s.image.smoke.tIdle else s.image.smoke.tRun

/-- The heater decision of a tick (R151). -/
def State.heaterDecision (s : State) : State :=
  s.onSmk fun k =>
    { k with
      heater :=
        if s.heaterAllowed then
          if k.temp + 5 < s.setpoint then true else if k.temp < s.setpoint then k.heater else false
        else false }

/-- Step 1 of a tick: 350 °C or above sets the SMOKE_OVERTEMP latch, and the heater is switched off (R148). -/
def State.overtempTest (s : State) : State :=
  if 350 ≤ s.smk.temp then
    (s.onCfg fun c => { c with overtemp := true }).onSmk fun k => { k with heater := false }
  else s

/-- Step 2: above T_dry the enabled states go to DRY (R149). -/
def State.dryTest (s : State) : State :=
  if s.image.smoke.tDry < s.smk.temp ∧ (smokeHeats s.smk.state = true ∨ s.smk.state = .shed) then
    s.smokeEnter .dry
  else s

/-- Step 3: WARMING at or above T_run - 5 becomes READY and is settled (R147, R150). -/
def State.warmTest (s : State) : State :=
  if s.smk.state = .warming ∧ s.image.smoke.tRun ≤ s.smk.temp + 5 then s.smokeReach else s

/-- One thermostat tick (R147). -/
def State.thermostat (raw : Nat) (s : State) : State :=
  (s.onSmk fun k => { k with temp := temperature s.image.smoke raw }).overtempTest.dryTest.warmTest.heaterDecision

/-- MRG publishes an average current that breaks the budget: the heater goes off at once (R151). -/
def State.budgetCut (s : State) : State :=
  if s.budgetHolds then s else s.onSmk fun k => { k with heater := false }

end Sys2Proof.Machine
end

