-- ==== Sys2Proof/Machine/Sound.lean ====
section
/-! DEFINITION. The sound engine (chapter 9): requests and the trigger queue (R130, R131), the flash port and its arbiter (R129, R132 to
R136), the voices and the mixer (R137 to R141), and the system sounds' own triggers (R142 to R144). -/

namespace Sys2Proof.Machine

/-! ### Voices -/

/-- A clip's loop region is valid (R128). -/
def loopValid (c : Clip) : Bool := c.loopStart < c.loopEnd && c.loopEnd ≤ c.length

/-- Samples remain to be fetched (R135). -/
def samplesRemain (v : Voice) : Bool := v.fetch < v.clip.length

/-- A voice needs a refill (R133). -/
def needsRefill (v : Voice) : Bool := v.state != .free && v.buffer.length ≤ 32 && samplesRemain v

/-- The number of samples a refill reads: to the clip end, to the loop end while held in a valid loop, at most 32 (R135). -/
def refillCount (v : Voice) : Nat :=
  if v.held && loopValid v.clip && v.fetch < v.clip.loopEnd then
    min 32 (min (v.clip.length - v.fetch) (v.clip.loopEnd - v.fetch))
  else min 32 (v.clip.length - v.fetch)

def State.voice (s : State) (i : Nat) : Voice := s.snd.voices.getD i {}

def State.setVoice (i : Nat) (v : Voice) (s : State) : State :=
  s.onSnd fun d => { d with voices := d.voices.set i v }

/-- Whether a voice gives samples (R138). -/
def voicePlays (v : Voice) : Bool := v.state == .playing || v.state == .looping || v.state == .releasing

/-! ### The arbiter (R133) -/

/-- Round-robin order after a pointer (R133). -/
def roundRobin (p : Nat) : List Nat := (List.range 6).map fun k => (p + 1 + k) % 6

/-- The first voice in an order that needs a refill (R133). -/
def firstNeedy (vs : List Voice) (order : List Nat) : Option Nat :=
  order.find? fun i => needsRefill (vs.getD i {})

/-- With the port idle: a refill in round-robin order, otherwise the head trigger's lookup, otherwise nothing (R133). -/
def arbitrateSnd (d : Snd) : Snd :=
  match d.port with
  | .idle =>
    match firstNeedy d.voices (roundRobin d.pointer) with
    | some i =>
      { d with
        port := .refill i (d.voices.getD i {}).fetch (refillCount (d.voices.getD i {}))
        pointer := i }
    | none =>
      match d.queue with
      | t :: ts => { d with port := .lookup t false, queue := ts }
      | [] => d
  | _ => d

def State.arbitrate (s : State) : State := s.onSnd arbitrateSnd

/-! ### Requests (R130, R131) -/

/-- The pending chuff takes the new group and index in place (R130). -/
def coalesceChuff (t : Trigger) : List Trigger → List Trigger
  | [] => []
  | q :: qs =>
    if q.owner = .chuff then { q with group := t.group, index := t.index } :: qs else q :: coalesceChuff t qs

/-- The lowest priority in a queue, with the position of its oldest holder (R130). -/
def lowestTrigger : List Trigger → Option (Nat × Nat)
  | [] => none
  | q :: qs =>
    match lowestTrigger qs with
    | none => some (0, q.prio)
    | some x => if x.2 < q.prio then some (x.1 + 1, x.2) else some (0, q.prio)

/-- A one-shot or hold request arrives: coalesced, appended, displacing or dropped, then the arbiter chooses (R130, R133). -/
def State.request (t : Trigger) (s : State) : State :=
  if t.owner = .chuff ∧ s.snd.queue.any (fun q => q.owner == .chuff) then
    (s.onSnd fun d => { d with queue := coalesceChuff t d.queue }).signal (.triggerDrop .chuff)
  else if s.snd.queue.length < 8 then
    (s.onSnd fun d => { d with queue := d.queue ++ [t] }).arbitrate
  else
    match lowestTrigger s.snd.queue with
    | some x =>
      if x.2 < t.prio then
        ((s.onSnd fun d => { d with queue := d.queue.eraseIdx x.1 ++ [t] }).signal
          (.triggerDrop (ownerClass ((s.snd.queue.getD x.1 t).owner)))).arbitrate
      else s.signal (.triggerDrop (ownerClass t.owner))
    | none => s

/-- What a stop request does to one voice (R131). -/
def stopVoice (o : Owner) (v : Voice) : Voice :=
  if v.owner = some o then
    match v.state with
    | .loading => {}
    | .playing => { v with held := false, state := .releasing }
    | .looping => { v with held := false, state := .releasing }
    | .free => v
    | .releasing => v
  else v

/-- What a stop request does to the port: the owner's lookup in flight is void (R131). -/
def stopPort (o : Owner) (p : Port) : Port :=
  match p with
  | .lookup t v => .lookup t (v || t.owner == o)
  | .idle => .idle
  | .refill i k n => .refill i k n

/-- A stop request for an owner (R131). -/
def State.stopOwner (o : Owner) (s : State) : State :=
  s.onSnd fun d =>
    { d with
      queue := d.queue.filter fun q => q.owner != o
      port := stopPort o d.port
      voices := d.voices.map (stopVoice o) }

/-- A request of the system sounds: owner SYSTEM, the system priority, group 4 (R142 to R144). -/
def State.systemRequest (hold : Bool) (index : Nat) (s : State) : State :=
  s.request { hold := hold, owner := .system, prio := s.image.sound.systemPrio, group := 4, index := index }

/-! ### Lookups (R129, R134) -/

/-- The address of a group's clip table, 0 for an empty group (R128). -/
def groupEntry (flash : List Host.Cell) (group : Nat) : Nat :=
  word32 (flashBytes flash (4 * (group % 32)) 4) 0

/-- The clip of a record's 16 bytes (R128). Its fields of more than one byte are read big-endian, as R128 has it of the group entry alone:
DESIGN CHOICE (entry 47). -/
def clipOf (bs : List Byte) : Clip where
  start := word32 bs 0
  gain := byteAt bs 4
  length := byteAt bs 5 * 65536 + word16 bs 6
  loopStart := word32 bs 8
  loopEnd := word32 bs 12

/-- The clip a lookup finds, none for an empty group or a length of 0 (R129). -/
def lookupClip (flash : List Host.Cell) (t : Trigger) : Option Clip :=
  if groupEntry flash t.group = 0 then none
  else
    let c := clipOf (flashBytes flash (groupEntry flash t.group + 16 * (t.index % 16)) 16)
    if c.length = 0 then none else some c

/-- The allocation order of a voice taken now: later than every voice allocated (R134). -/
def nextOrder (vs : List Voice) : Nat := vs.foldl (fun m v => max m v.order) 0 + 1

/-- The voice a trigger and its clip fill (R134). -/
def loadedVoice (t : Trigger) (c : Clip) (order : Nat) : Voice where
  state := .loading
  owner := some t.owner
  prio := t.prio
  clip := c
  fetch := 0
  held := t.hold
  buffer := []
  order := order

/-- The index of the earliest-allocated voice among those that hold a test, with its order. -/
def earliest (p : Voice → Bool) : List Voice → Option (Nat × Nat)
  | [] => none
  | v :: vs =>
    let rest := (earliest p vs).map fun x => (x.1 + 1, x.2)
    if p v then
      match rest with
      | none => some (0, v.order)
      | some x => if x.2 < v.order then some x else some (0, v.order)
    else rest

/-- The lowest priority strictly below a bound among the voices (R134). -/
def lowestPrio (bound : Nat) (vs : List Voice) : Option Nat :=
  vs.foldl (fun m v =>
    if v.prio < bound then
      match m with
      | none => some v.prio
      | some p => some (min p v.prio)
    else m) none

/-- Whether CHUFF owns a voice (R134). -/
def ownedByChuff (v : Voice) : Bool := v.owner == some .chuff

/-- How a found clip gets a voice (R134). -/
inductive Grant where
  /-- The chuff cap: take over the older chuff voice. -/
  | cap (voice : Nat)
  /-- The FREE voice of lowest index. -/
  | free (voice : Nat)
  /-- Preempt a voice of lower priority. -/
  | preempt (voice : Nat)
  /-- No voice: the trigger is dropped. -/
  | drop
deriving DecidableEq, Repr

/-- The first of R134's four cases that applies. -/
def grantVoice (t : Trigger) (vs : List Voice) : Grant :=
  if t.owner = .chuff ∧ 2 ≤ vs.countP ownedByChuff then
    match earliest ownedByChuff vs with
    | some x => .cap x.1
    | none => .drop
  else
    match vs.findIdx? fun v => v.state == .free with
    | some i => .free i
    | none =>
      match lowestPrio t.prio vs with
      | some p =>
        match earliest (fun v => v.prio == p) vs with
        | some x => .preempt x.1
        | none => .drop
      | none => .drop

/-- The class of the owner a voice is taken from. -/
def voiceClass (v : Voice) : OwnerClass :=
  match v.owner with
  | some o => ownerClass o
  | none => .function

/-- Give a trigger a voice, or drop it (R134). -/
def State.allocate (t : Trigger) (c : Clip) (s : State) : State :=
  match grantVoice t s.snd.voices with
  | .cap i => (s.setVoice i (loadedVoice t c (nextOrder s.snd.voices))).signal (.voicePreempt .chuff)
  | .free i => s.setVoice i (loadedVoice t c (nextOrder s.snd.voices))
  | .preempt i =>
    (s.setVoice i (loadedVoice t c (nextOrder s.snd.voices))).signal (.voicePreempt (voiceClass (s.voice i)))
  | .drop => s.signal (.triggerDrop (ownerClass t.owner))

/-- The completion of a lookup (R129, R131, R134); the arbiter then chooses afresh. -/
def State.lookupDone (t : Trigger) (void : Bool) (s : State) : State :=
  let s1 := s.onSnd fun d => { d with port := .idle }
  (if void then s1
   else
    match lookupClip s.flash t with
    | some c => s1.allocate t c
    | none => s1.signal (.triggerDrop (ownerClass t.owner))).arbitrate

/-! ### Refills (R136) -/

/-- A voice after a refill of `n` samples read from position `pos` (R136). -/
def refilledVoice (v : Voice) (pos n : Nat) (samples : List (BitVec 8)) : Voice :=
  let reached := pos + n
  let looping := v.held && loopValid v.clip
  let wraps := looping && reached == v.clip.loopEnd
  { v with
    buffer := v.buffer ++ samples
    fetch := if wraps then v.clip.loopStart else reached
    state :=
      match v.state with
      | .loading => if looping && (v.clip.loopStart < reached || wraps) then .looping else .playing
      | .playing => if looping && (v.clip.loopStart < reached || wraps) then .looping else .playing
      | .looping => .looping
      | .releasing => .releasing
      | .free => .free }

/-- The completion of a refill: samples for a voice freed meanwhile are discarded; the arbiter then chooses afresh (R136). -/
def State.refillDone (i pos n : Nat) (s : State) : State :=
  let s1 := s.onSnd fun d => { d with port := .idle }
  (if (s.voice i).state = .free then s1
   else s1.setVoice i (refilledVoice (s.voice i) pos n (flashBytes s.flash ((s.voice i).clip.start + pos) n))).arbitrate

/-! ### Sample events and the mixer (R138, R140, R141) -/

/-- Whether a refill of voice `i` is in flight (R138). -/
def refillInFlight (i : Nat) (p : Port) : Bool :=
  match p with
  | .refill v _ _ => v == i
  | .idle => false
  | .lookup _ _ => false

/-- The sample a playing voice gives: its oldest buffered one, 0 when it is stalled (R138). -/
def voiceSample (v : Voice) : Int :=
  match v.buffer with
  | b :: _ => b.toInt
  | [] => 0

/-- A voice after a sample event: the sample taken, and FREE at the end of its sound (R138). -/
def sampledVoice (port : Port) (i : Nat) (v : Voice) : Voice :=
  if voicePlays v then
    if v.buffer.tail = [] ∧ samplesRemain v = false ∧ refillInFlight i port = false then {}
    else { v with buffer := v.buffer.tail }
  else v

/-- The owner gain of CHUFF (R141). -/
def chuffGain (k : SoundConfig) (duty : Nat) : Int :=
  clampInt ((k.gBase : Int) + floorDiv (((duty : Int) - k.uCruise) * k.kLoad) 64) k.gMin 255

/-- The owner gain: 255 for every owner except CHUFF (R140). -/
def ownerGain (k : SoundConfig) (duty : Nat) (o : Option Owner) : Int :=
  if o = some .chuff then chuffGain k duty else 255

/-- A voice's contribution (R140, step 1). -/
def contribution (k : SoundConfig) (duty : Nat) (v : Voice) : Int :=
  if voicePlays v then voiceSample v * floorDiv ((v.clip.gain : Int) * ownerGain k duty v.owner) 256 else 0

/-- The master factor m_eff (R140). -/
def State.masterFactor (s : State) : Nat :=
  if s.fnm.mute then 0
  else if s.tkm.quiet then s.image.sound.volume / 2
  else s.image.sound.volume

/-- The supply factor k (R140). -/
def supplyFactor : SupplyState → Nat
  | .normal => 256
  | .bridging => 128
  | .depleted => 0

/-- The speaker output of the voices' samples (R140). -/
def State.mixed (s : State) : Int :=
  clampInt
    (floorDiv
      ((s.snd.voices.map (contribution s.image.sound s.mrg.duty)).sum * s.masterFactor * supplyFactor s.sup.state)
      4194304)
    (-2048) 2047

/-- A voice list after a sample event, from an index on. -/
def sampledVoices (port : Port) : Nat → List Voice → List Voice
  | _, [] => []
  | i, v :: vs => sampledVoice port i v :: sampledVoices port (i + 1) vs

/-- A sample event: the mixer writes the output from the samples given, voices advance or end, the arbiter chooses (R138, R140). -/
def State.sampleEvent (s : State) : State :=
  (s.onSnd fun d => { d with output := s.mixed, voices := sampledVoices d.port 0 d.voices }).arbitrate

/-! ### Brake squeal (R143) -/

/-- In the event of a BEMF sample: one squeal where y falls through the brake speed while braking with the latch clear (R143). -/
def State.squealTest (s : State) : State :=
  if s.spr.braking && !s.snd.squealLatch && (s.image.sound.brakeSpeed ≤ s.snd.prevY && s.mrg.y < s.image.sound.brakeSpeed) then
    ((s.onSnd fun d => { d with squealLatch := true }).systemRequest false 0).onSnd fun d => { d with prevY := s.mrg.y }
  else s.onSnd fun d => { d with prevY := s.mrg.y }

end Sys2Proof.Machine
end

