-- ==== Sys2Proof/Machine/Functions.lean ====
section
/-! DEFINITION. The function map (sections 8.1 to 8.4): which actions are held, the requests of one evaluation in its two passes, and
the combined states handed to SMK, SPR and SND. -/

namespace Sys2Proof.Machine

/-- The map entry of Fn. -/
def mapEntry (im : Image) (n : Nat) : MapEntry := im.funcMap.getD n defaultMapEntry

/-- An entry is active while its scope holds (R85, R117). -/
def entryActive (e : MapEntry) (role : ConsistRole) : Bool := e.scope == .all || role != .follower

/-- Entries evaluated as LEVEL: mode LEVEL, and every state action (R117). -/
def takenAsLevel (e : MapEntry) : Bool :=
  e.mode == .level || e.action == .smokeEnable || e.action == .shunting || e.action == .mute

/-- The LEVEL action of an entry is held: active, its function on, a LEVEL entry with an action (R118). -/
def levelHeld (e : MapEntry) (role : ConsistRole) (on : Bool) : Bool :=
  entryActive e role && on && takenAsLevel e && e.action != .none

/-- A request to SND (R121). -/
inductive SoundAsk where
  | stop (o : Owner)
  | play (t : Trigger)
deriving DecidableEq, Repr

/-- The trigger of an entry with action SOUND, owner FUNCTION(n) (R121). -/
def entryTrigger (hold : Bool) (n : Nat) (e : MapEntry) : Trigger where
  hold := hold
  owner := .function n
  prio := e.prio
  group := e.group
  index := e.index

/-- An entry's condition before and after an evaluation (R119). -/
structure EntryChange where
  entry : MapEntry
  heldBefore : Bool
  heldAfter : Bool
  onBefore : Bool
  onAfter : Bool
  activeThroughout : Bool
deriving DecidableEq, Repr

/-- Entry n's change from FNM's last evaluation to a new set and role (R119). -/
def entryChange (im : Image) (m : Fnm) (f : FuncSet) (role : ConsistRole) (n : Nat) : EntryChange where
  entry := mapEntry im n
  heldBefore := m.held.getLsbD n
  heldAfter := levelHeld (mapEntry im n) role (f.getLsbD n)
  onBefore := m.last.getLsbD n
  onAfter := f.getLsbD n
  activeThroughout := entryActive (mapEntry im n) m.lastRole && entryActive (mapEntry im n) role

/-- The request of entry n in the goings-off pass (R119, R120). -/
def goingOff (n : Nat) (c : EntryChange) : Option SoundAsk :=
  if c.entry.action = .sound then
    if takenAsLevel c.entry then
      if c.heldBefore && !c.heldAfter then some (.stop (.function n)) else none
    else if c.entry.mode = .both ∧ c.onBefore = true ∧ c.onAfter = false ∧ c.activeThroughout = true then
      some (.play (entryTrigger false n c.entry))
    else none
  else none

/-- The request of entry n in the goings-on pass (R119, R120). -/
def goingOn (n : Nat) (c : EntryChange) : Option SoundAsk :=
  if c.entry.action = .sound then
    if takenAsLevel c.entry then
      if !c.heldBefore && c.heldAfter then some (.play (entryTrigger true n c.entry)) else none
    else if c.onBefore = false ∧ c.onAfter = true ∧ c.activeThroughout = true then
      some (.play (entryTrigger false n c.entry))
    else none
  else none

/-- The requests of one evaluation: goings-off, then goings-on, each in ascending order of n (R120). -/
def evaluationAsks (im : Image) (m : Fnm) (f : FuncSet) (role : ConsistRole) : List SoundAsk :=
  (List.range 32).filterMap (fun n => goingOff n (entryChange im m f role n))
    ++ (List.range 32).filterMap fun n => goingOn n (entryChange im m f role n)

/-- The held flags after an evaluation (R119). -/
def heldFlags (im : Image) (f : FuncSet) (role : ConsistRole) : BitVec 32 :=
  BitVec.ofNat 32 (packBits ((List.range 32).map fun n => levelHeld (mapEntry im n) role (f.getLsbD n)))

/-- A combined state is on while any entry with its action is held (R122). -/
def combinedState (im : Image) (f : FuncSet) (role : ConsistRole) (a : MapAction) : Bool :=
  (List.range 32).any fun n => (mapEntry im n).action == a && levelHeld (mapEntry im n) role (f.getLsbD n)

/-- SND takes one request. -/
def State.ask (s : State) (k : SoundAsk) : State :=
  match k with
  | .stop o => s.stopOwner o
  | .play t => s.request t

/-- FNM's own state after an evaluation (R118, R119). -/
def evaluatedFnm (im : Image) (f : FuncSet) (role : ConsistRole) : Fnm where
  last := f
  lastRole := role
  held := heldFlags im f role
  smokeEnable := combinedState im f role .smokeEnable
  shunting := combinedState im f role .shunting
  mute := combinedState im f role .mute

/-- One evaluation: the sound requests of both passes, FNM's new state, then the combined states handed on where they changed
(R119, R120, R122). -/
def State.evaluate (s : State) : State :=
  let next := evaluatedFnm s.image s.fEff s.role
  let s1 := (evaluationAsks s.image s.fnm s.fEff s.role).foldl State.ask s
  let s2 := (s1.onFnm fun _ => next).onSpr fun r => { r with shunting := next.shunting }
  let s3 := if next.smokeEnable = s.fnm.smokeEnable then s2 else s2.smokeEnabled next.smokeEnable
  s3.ditchChange (s.fnm.last.getLsbD s.image.ditch) (next.last.getLsbD s.image.ditch)

/-- FNM evaluates where F_eff or the role differs from its last evaluation, and LMP recomputes from what it is handed (R57, R119,
R155). -/
def State.functionsRefresh (s : State) : State :=
  (if s.fEff = s.fnm.last ∧ s.role = s.fnm.lastRole then s else s.evaluate).lampsRefresh

end Sys2Proof.Machine
end

