-- ==== Sys2Proof/Machine/Authority.lean ====
section
/-! DEFINITION. How one event's changes of the claim list end (R55): SIGNAL's stop state and release condition (R71, R72), the rule for
STALL (R69), the end of the FAILSAFE hold (R68), then one change of head, with the old head saved (R54) and the new one started or
resumed (R53), its functions, entry actions and alarm (R56, R57, R142), and the reports that fall due (R22). -/

namespace Sys2Proof.Machine

/-! ### Current data of a context

`h0` is the head before the event. A context that was the head then has its data in its live part during the event, any other in
its saved part (R54). -/

/-- SIGNAL's stop state as it stands (R54, R71). -/
def stopNow (h0 : Level) (a : Aut) : StopState := if h0 = .signal then a.signalLive else a.signal.saved.stop

/-- Put SIGNAL's stop state where it stands. -/
def putStop (h0 : Level) (k : StopState) (a : Aut) : Aut :=
  if h0 = .signal then { a with signalLive := k }
  else { a with signal := { a.signal with saved := { a.signal.saved with stop := k } } }

/-- The one zero-lock flag, live while DRIVER is the head and saved while it waits (R64). -/
def zeroLockNow (h0 : Level) (a : Aut) : Bool :=
  if h0 = .driver then a.driverLive.zeroLock else a.driver.saved.zeroLock

/-- CONSIST's follow speed as it stands (R54, R66). -/
def followNow (h0 : Level) (a : Aut) : Nat :=
  if h0 = .consist then a.consistLive.speed else a.consist.saved.target

/-! ### SIGNAL (R71, R72) -/

/-- The release condition of SIGNAL (R72). -/
def signalDone (k : StopState) (aspect : Option Aspect) : Bool :=
  (match k.dwell with
    | none => true
    | some n => k.reached && n == 0)
    && (!k.waitClear || aspect != some .stop)

/-- The current aspect of the last-passed beacon record. -/
def State.currentAspect (s : State) : Option Aspect := s.tkm.record.map BeaconRecord.aspect

/-- SIGNAL is released where its condition holds, head or waiting (R72). -/
def State.signalTest (h0 : Level) (s : State) : State :=
  if s.aut.signal.claimed && signalDone (stopNow h0 s.aut) s.currentAspect then s.release .signal else s

/-- Stop-reached becomes set while SIGNAL is the head and STOPPED holds (R71). The head is the one after the event's claims: an event that
begins STOPPED and claims FAILSAFE above SIGNAL does not set it, DESIGN CHOICE (entry 43). -/
def State.stopReachedTest (h0 : Level) (s : State) : State :=
  if s.head = .signal ∧ s.spr.stopped = true then
    s.onAut fun a => putStop h0 { stopNow h0 a with reached := true } a
  else s

/-! ### STALL and the hold (R68, R69) -/

/-- Whether the highest claimed context below FAILSAFE would hand a target of 0 (R69). -/
def State.targetBelowZero (h0 : Level) (s : State) : Bool :=
  match headBelow s.aut with
  | .driver => zeroLockNow h0 s.aut || s.aut.driverLive.step == 0
  | .consist => followNow h0 s.aut == 0
  | _ => true

/-- STALL leaves the set where that target is 0 (R69). -/
def State.stallTest (h0 : Level) (s : State) : State :=
  if s.aut.causes.stall && s.targetBelowZero h0 then s.removeCause .stall else s

/-- FAILSAFE is released where its hold has run out (R68). -/
def State.holdTest (s : State) : State :=
  if s.aut.failsafe.claimed = true ∧ s.aut.hold = some 0 then s.release .failsafe else s

/-! ### The change of head (R53, R54) -/

/-- The saved part of the context that lost the head, written from its live data (R54). -/
def savedOf (l : Level) (a : Aut) : SavedPart :=
  match l with
  | .driver =>
    { dir := a.driverLive.dir, target := a.driverLive.step, stop := {}, zeroLock := a.driverLive.zeroLock }
  | .consist => { dir := a.consistLive.dir, target := a.consistLive.speed, stop := {}, zeroLock := false }
  | .signal => { dir := .forward, target := 0, stop := a.signalLive, zeroLock := false }
  | _ => { dir := a.requested, target := 0, stop := {}, zeroLock := false }

/-- Write a level's saved part. -/
def putSaved (l : Level) (k : SavedPart) (a : Aut) : Aut := autSetCtx a l { autCtx a l with saved := k }

/-- The requested direction while a level is the head: DRIVER's and CONSIST's live direction; FAILSAFE, SIGNAL and PARKED leave it
unchanged (R73). -/
def requestedBy (l : Level) (a : Aut) : Direction :=
  match l with
  | .driver => a.driverLive.dir
  | .consist => a.consistLive.dir
  | _ => a.requested

/-- The old head, still claimed, is preempted: its saved part is written, what it requested last stays requested for a head that leaves
the direction unchanged, and DRIVER's zero-lock moves into its saved part (R54, R64, R73). -/
def preempt (l : Level) (a : Aut) : Aut :=
  if (autCtx a l).claimed then
    match l with
    | .driver =>
      { putSaved .driver (savedOf .driver a) a with
        driverLive := { a.driverLive with zeroLock := false }, requested := requestedBy .driver a }
    | _ => { putSaved l (savedOf l a) a with requested := requestedBy l a }
  else a

/-- The new head's live data is taken from its saved part; DRIVER's zero-lock is set where it becomes the head by the release of
FAILSAFE or CONSIST (R53, R64). -/
def loadSaved (h0 l : Level) (a : Aut) : Aut :=
  match l with
  | .driver =>
    { a with
      driver := { a.driver with saved := { a.driver.saved with zeroLock := false } }
      driverLive :=
        { a.driverLive with
          step := a.driver.saved.target
          dir := a.driver.saved.dir
          zeroLock := a.driver.saved.zeroLock || h0 == .failsafe || h0 == .consist } }
  | .consist =>
    { a with
      consistLive := { a.consistLive with speed := a.consist.saved.target, dir := a.consist.saved.dir } }
  | .signal => { a with signalLive := a.signal.saved.stop }
  | _ => a

/-- The started flag of a level set (R53). -/
def markStarted (l : Level) (a : Aut) : Aut := autSetCtx a l { autCtx a l with started := true }

/-- Whether the entry actions run: at a start unless NEVER, at a resume only under ON_START_AND_RESUME (R53). -/
def entryRuns (mode : EntryMode) (resume : Bool) : Bool :=
  match mode with
  | .never => false
  | .onStart => !resume
  | .onStartAndResume => true

/-- One entry action handed to its block (R56). -/
def State.entryAction (s : State) (k : EntryAction) : State :=
  match k with
  | .sound g i p => s.request { hold := false, owner := .action, prio := p, group := g, index := i }
  | .lampBlink m c => s.blink m c
  | .fanBurst ms => s.entryBurst ms

/-- A level's entry action list, run where its mode says so (R53, R56). -/
def State.entryActions (l : Level) (resume : Bool) (s : State) : State :=
  if entryRuns (s.image.ctx l).mode resume then (s.image.ctx l).actions.foldl State.entryAction s else s

/-- The requested direction follows the active context (R73). -/
def State.requestedRefresh (s : State) : State := s.onAut fun a => { a with requested := requestedBy s.head a }

/-- The new head is activated: saved part, started flag, functions and overrides, entry actions, and the alarm for FAILSAFE
(R53, R142). -/
def State.activate (h0 l : Level) (s : State) : State :=
  let resume := (autCtx s.aut l).started
  let s1 := (s.onAut fun a => markStarted l (loadSaved h0 l a)).functionsRefresh.entryActions l resume
  if l = .failsafe then s1.systemRequest true 2 else s1

/-- One change of head from before the event to after it; the end of FAILSAFE stops the sounds of SYSTEM (R55, R142). -/
def State.changeHead (h0 : Level) (s : State) : State :=
  if s.head = h0 then s.functionsRefresh
  else
    let s1 := s.onAut (preempt h0)
    (if h0 = .failsafe then s1.stopOwner .system else s1).activate h0 s.head

/-- The claim-list side of the end of an event (R55, R68, R69, R71, R72). -/
def State.settleClaims (h0 : Level) (s : State) : State :=
  (((((s.signalTest h0).stallTest h0).holdTest).stopReachedTest h0).signalTest h0)

/-- The end of an event at AUT, from the state before the event: one change of the claim list, one activation, the functions, the
lamps, the requested direction, and the reports that fall due. -/
def State.settle (s s0 : State) : State :=
  (((s.settleClaims s0.head).changeHead s0.head).requestedRefresh).reportTest s0

end Sys2Proof.Machine
end

