-- ==== Sys2Proof/Machine/Event.lean ====
section
/-! DEFINITION. The frame of every event: which commands act in which condition of power, and how an event ends at AUT and RPT. -/

namespace Sys2Proof.Machine

/-- An event's end: AUT settles and the reports fall due, while the part runs (R55, R22). -/
def State.close (s s0 : State) : State :=
  match s.power with
  | .running => s.settle s0
  | .starting => s
  | .off => s

/-- The answer of a command whose event can occur only while the part runs (R165, R167; entry 8). -/
def whenRunning (s t : State) : Host.Outcome State Fault Refusal :=
  match s.power with
  | .running => .next t
  | .starting => .next s
  | .off => .next s

/-- The answer of a command whose event ends at AUT. -/
def whenRunningClose (s t : State) : Host.Outcome State Fault Refusal := whenRunning s (t.close s)

end Sys2Proof.Machine
end

