-- ==== Sys2Proof/Machine/Audible.lean ====
section
/-! DEFINITION. The commands of the sound engine and the smoke unit (chapters 9 and 10). -/

namespace Sys2Proof.Machine

/-- LOOKUP_COMPLETE: with a lookup in flight (R129, R134). -/
def execLookupComplete (s : State) : Host.Outcome State Fault Refusal :=
  match s.snd.port with
  | .lookup t void => whenRunning s (s.lookupDone t void)
  | .idle => .next s
  | .refill _ _ _ => .next s

/-- REFILL_COMPLETE: with a refill in flight (R136). -/
def execRefillComplete (s : State) : Host.Outcome State Fault Refusal :=
  match s.snd.port with
  | .refill i pos n => whenRunning s (s.refillDone i pos n)
  | .idle => .next s
  | .lookup _ _ => .next s

/-- SOUND_SAMPLE_EVENT (R138, R140). -/
def execSoundSampleEvent (s : State) : Host.Outcome State Fault Refusal := whenRunning s s.sampleEvent

/-- The valve timer starts again with 60 s; the valve sounds with steam up (R144). -/
def State.valveDone (s : State) : State :=
  let s1 := s.onSnd fun d => { d with valve := some 60000 }
  if smokeReady s.smk.state then s1.systemRequest false 3 else s1

/-- VALVE_TIMER_EXPIRES: in the timer's last ms (R144; entry 7). -/
def execValveTimerExpires (s : State) : Host.Outcome State Fault Refusal :=
  if lastMs s.snd.valve then whenRunning s s.valveDone else .next s

/-- THERMOSTAT_TICK (R147 to R151). -/
def execThermostatTick (raw : BitVec 10) (s : State) : Host.Outcome State Fault Refusal :=
  whenRunningClose s (s.thermostat raw.toNat)

/-- STANDSTILL_TIMER_EXPIRES: in the timer's last ms (R146, R149; entry 7). -/
def execStandstillTimerExpires (s : State) : Host.Outcome State Fault Refusal :=
  if lastMs s.smk.standstill then whenRunning s s.standstillDone else .next s

/-- A burst's time runs out, and the fan returns to the duty of its state (R152). -/
def State.burstDone (s : State) : State := (s.onSmk fun k => { k with burst := none }).fanRefresh

/-- FAN_BURST_ENDS: in the burst's last ms (R152; entry 7). -/
def execFanBurstEnds (s : State) : Host.Outcome State Fault Refusal :=
  if burstDue s.smk.burst then whenRunning s s.burstDone else .next s

end Sys2Proof.Machine
end

