-- ==== Sys2Proof/Machine/Chuff.lean ====
section
/-! DEFINITION. The chuff generator (sections 8.5, 8.6): the phase accumulator, the cam debounce and the fan-out of a chuff event. -/

namespace Sys2Proof.Machine

/-- The speed band of y (R126). -/
def speedBand (k : ChuffConfig) (y : Nat) : Nat :=
  if y < k.b1 then 0 else if y < k.b2 then 1 else if y < k.b3 then 2 else 3

/-- The chuff trigger: owner CHUFF, the chuff priority, the band's group, the count's index (R126, step 1). -/
def State.chuffTrigger (s : State) : Trigger where
  hold := false
  owner := .chuff
  prio := s.image.sound.chuffPrio
  group := speedBand s.image.chuff s.mrg.y
  index := s.chg.count % 4

/-- A chuff event: sound, count, smoke and lamps in this order (R126). -/
def State.chuffEvent (s : State) : State :=
  (((s.request s.chuffTrigger).onChg fun c => { c with count := (c.count + 1) % 65536 }).chuffBurst).flare

/-- The increment of one sample (R124). -/
def State.chuffIncrement (s : State) : Nat := s.mrg.y * s.image.chuff.chuffK / 16

/-- Under SYNTHETIC the accumulator advances in the event of a BEMF sample, unless STOPPED holds; its wrap is a chuff (R124). -/
def State.syntheticChuff (s : State) : State :=
  if s.image.chuff.source = .synthetic ∧ s.spr.stopped = false then
    if s.chg.phase + s.chuffIncrement < 65536 then
      s.onChg fun c => { c with phase := c.phase + s.chuffIncrement }
    else (s.onChg fun c => { c with phase := (c.phase + s.chuffIncrement) % 65536 }).chuffEvent
  else s

/-- The debounced level takes the input's level and the window starts; low to high is a chuff (R125). -/
def State.camTake (s : State) : State :=
  let s1 := s.onChg fun c => { c with cam := c.sensor, camWindow := some 8 }
  if s.chg.cam = false ∧ s.chg.sensor = true then s1.chuffEvent else s1

/-- The sensor's level is judged with the window stopped (R125). -/
def State.camEdge (s : State) : State :=
  if s.image.chuff.source = .cam ∧ s.chg.camWindow = none ∧ s.chg.sensor ≠ s.chg.cam then s.camTake else s

/-- The window expires: it stops, and a differing level is taken (R125). -/
def State.camExpiry (s : State) : State := (s.onChg fun c => { c with camWindow := none }).camEdge

end Sys2Proof.Machine
end

