-- ==== Sys2Proof/Machine/Consist.lean ====
section
/-! DEFINITION. The consist unit (chapter 5): a CONSIST frame's list normalised and judged (R75, R76), a membership applied (R77 to R80),
the lead followed (R81) and the members watched (R82, R83).

`h0` is the head of the claim list before the event: CONSIST's data stands in its live part where CONSIST was the head, in its saved
part where it waited (R54). -/

namespace Sys2Proof.Machine

/-! ### CONSIST frames (R75) -/

/-- An entry stays unless its ID is 0 or in 4000..4095 (R75). -/
def memberKept (m : Member) : Bool := !(m.id == 0 || (4000 ≤ m.id && m.id ≤ 4095))

/-- Entries whose ID repeats an earlier one are dropped (R75). -/
def dropRepeats : List Nat → List Member → List Member
  | _, [] => []
  | seen, m :: ms => if seen.contains m.id then dropRepeats seen ms else m :: dropRepeats (m.id :: seen) ms

/-- The normalised member list (R75). -/
def normalMembers (ms : List Member) : List Member := dropRepeats [] (ms.filter memberKept)

/-- The consist ID of the membership in the slot (R75). -/
def slotConsist : Slot → Option Nat
  | .holds (some k) => some k.consistId
  | .holds none => none
  | .empty => none

/-- A frame concerns the locomotive (R75). -/
def State.consistConcerns (s : State) (cid : Nat) (ms : List Member) : Bool :=
  (memberIndex s.ownId ms).isSome || (s.consistId != 0 && cid == s.consistId) || slotConsist s.csu.slot == some cid

/-- The resulting membership of a frame that concerns the locomotive (R75). -/
def State.resulting (s : State) (cid : Nat) (ms : List Member) : Option Membership :=
  if (memberIndex s.ownId ms).isSome then some { consistId := cid, members := ms }
  else if cid = s.consistId then none
  else s.csu.record

/-! ### Member watches (R82, R83) -/

/-- What a watch says of its member (R82). -/
inductive MemberState where
  | heard
  | inFailsafe
  | missing
  | waiting
deriving DecidableEq, Repr

/-- A member without a HEARD LOCO entry younger than W_c: missing once the grace timer has expired (R82). -/
def unheardMember (w : Watch) : MemberState := if w.grace = none then .missing else .waiting

/-- The state of a watched member, from its watch and its peer entry (R82). -/
def State.memberState (s : State) (w : Watch) : MemberState :=
  match peerOf w.member s.ptb.entries with
  | none => unheardMember w
  | some p =>
    if !p.stale && p.role == .loco && p.age < s.image.windows.consistWindow then
      match p.record with
      | some r => if r.level = 0 then .inFailsafe else .heard
      | none => .heard
    else unheardMember w

/-- The MEMBER test, made while the own position is 0 (R83). -/
def State.memberTest (s : State) : State :=
  if s.role = .lead then
    if s.csu.watches.any fun w => s.memberState w == .missing || s.memberState w == .inFailsafe then s.addCause .member
    else if s.csu.watches.all fun w => s.memberState w == .heard then s.removeCause .member
    else s
  else s

/-- The listed members other than the locomotive itself (R82). -/
def otherMembers (own : Nat) (m : Option Membership) : List Member :=
  match m with
  | some k => k.members.filter fun e => e.id != own
  | none => []

/-- The watch of a member under a new list: kept as it was, or set up with a running grace timer (R82). -/
def watchFor (old : List Watch) (window : Nat) (m : Member) : Watch :=
  match old.find? fun w => w.member == m.id with
  | some w => w
  | none => { member := m.id, grace := some window }

/-- Some watch is set up or removed by a new list (R82). -/
def watchesChange (old : List Watch) (ms : List Member) : Bool :=
  (ms.any fun m => !(old.any fun w => w.member == m.id)) || old.any fun w => !(ms.any fun m => m.id == w.member)

/-- The watches follow the list in force; the test is made where one is set up or removed, or at taking the lead (R79, R82, R83). -/
def State.watchMembers (always : Bool) (s : State) : State :=
  let ms := otherMembers s.ownId s.csu.record
  let s1 := s.onCsu fun c => { c with watches := ms.map (watchFor c.watches s.image.windows.consistWindow) }
  if always || watchesChange s.csu.watches ms then s1.memberTest else s1

/-! ### Follow speed and direction (R81) -/

/-- A follow speed and direction handed to CONSIST: live while it is the head, saved while it waits (R54, R66, R81). -/
def State.putFollow (h0 : Level) (speed : Nat) (dir : Direction) (s : State) : State :=
  s.onAut fun a =>
    if h0 = .consist then { a with consistLive := { a.consistLive with speed := speed, dir := dir } }
    else
      { a with consist := { a.consist with saved := { a.consist.saved with target := speed, dir := dir } } }

/-- The follow direction of a reported direction (R81). -/
def State.followDirection (s : State) (d : Direction) : Direction :=
  if ownReversed s.ownId s.csu.record then d.flip else d

/-- The lead's report reaches a follower (R81). -/
def State.followReport (h0 : Level) (d : LocoData) (s : State) : State :=
  (s.onCsu fun c => { c with lastReported := some d.dir }).putFollow h0 d.refSpeed (s.followDirection d.dir)

/-- The follow speed as it stands (R54). -/
def followSpeedNow (h0 : Level) (a : Aut) : Nat :=
  if h0 = .consist then a.consistLive.speed else a.consist.saved.target

/-! ### Applying a membership (R77 to R80) -/

/-- Leaving the follower's side (R80, R20). -/
def State.leaveFollower (s : State) : State :=
  ((((s.release .consist).setLink .lead none .up).removeCause .leadLost).removeCause .member).onCsu fun c =>
    { c with lastReported := none }

/-- Leaving the lead's side (R80). -/
def State.leaveLead (s : State) : State := (s.onCsu fun c => { c with watches := [] }).removeCause .member

/-- Joining as follower (R78): CONSIST claimed at follow speed 0 in SPR's running direction, SIGNAL released, the LEAD record set to
REGAINING on member 0. -/
def State.joinFollower (s : State) : State :=
  (((((s.claim .consist (leadOf s.csu.record)).onAut fun a =>
    { a with
      consistLive := { funcs := 0#32, speed := 0, dir := s.spr.running }
      consist := { a.consist with saved := { dir := s.spr.running, target := 0 } } }).release .signal).setLink .lead
        (leadOf s.csu.record) .regaining).onCsu fun c => { c with lastReported := none })

/-- Staying a follower (R78): a new member 0 is followed and watched afresh; a new orientation turns the last reported direction. -/
def State.stayFollower (h0 : Level) (before : Option Membership) (s : State) : State :=
  if leadOf before = leadOf s.csu.record then
    if ownReversed s.ownId before = ownReversed s.ownId s.csu.record then s
    else
      match s.csu.lastReported with
      | some d => s.putFollow h0 (followSpeedNow h0 s.aut) (s.followDirection d)
      | none => s
  else
    ((s.onAut fun a => { a with consist := { a.consist with source := leadOf s.csu.record } }).setLink .lead
      (leadOf s.csu.record) .regaining).onCsu fun c => { c with lastReported := none }

/-- The effects at AUT, RXC and CSU by the role before and after (R77). -/
def State.roleEffects (h0 : Level) (before : Option Membership) (old new : ConsistRole) (s : State) : State :=
  match old, new with
  | .none, .follower => s.joinFollower
  | .none, .lead => s.watchMembers true
  | .follower, .none => s.leaveFollower
  | .lead, .none => s.leaveLead
  | .follower, .lead => s.leaveFollower.watchMembers true
  | .lead, .follower => s.leaveLead.joinFollower
  | .follower, .follower => s.stayFollower h0 before
  | .lead, .lead => s.watchMembers false
  | .none, .none => s

/-- A resulting membership is applied: one event at CSU (R77). -/
def State.applyMembership (h0 : Level) (m : Option Membership) (s : State) : State :=
  let s1 := s.onCsu fun c => { c with record := m }
  let s2 := s1.roleEffects h0 s.csu.record s.role s1.role
  if s.consistId = s1.consistId then s2 else s2.occupancyTest

/-- A resulting membership is compared with the current one: identical clears the slot, a change waits in it while the locomotive is
not STOPPED (R76). -/
def State.takeMembership (h0 : Level) (m : Option Membership) (s : State) : State :=
  if m = s.csu.record then s.onCsu fun c => { c with slot := .empty }
  else if s.spr.stopped then (s.onCsu fun c => { c with slot := .empty }).applyMembership h0 m
  else s.onCsu fun c => { c with slot := .holds m }

/-- At the beginning of STOPPED the membership in the slot is applied (R76). -/
def State.applySlot (h0 : Level) (s : State) : State :=
  match s.csu.slot with
  | .empty => s
  | .holds m => (s.onCsu fun c => { c with slot := .empty }).applyMembership h0 m

/-- CSU takes an accepted CONSIST frame whose consist ID field is in 4000..4094 (R14, R75). -/
def State.takeConsist (h0 : Level) (d : ConsistData) (s : State) : State :=
  if 4000 ≤ d.consistId ∧ d.consistId ≤ 4094 ∧ s.consistConcerns d.consistId (normalMembers d.members) = true then
    s.takeMembership h0 (s.resulting d.consistId (normalMembers d.members))
  else s

end Sys2Proof.Machine
end

