-- ==== Sys2Proof/Machine/Motion.lean ====
section
/-! DEFINITION. The speed reference's five stages and STOPPED (chapter 6), the motor regulator's computation, its drive phase and its
sample (chapter 7), and the stops outside the ramp (R96, R97, R107, R108). -/

namespace Sys2Proof.Machine

/-! ### Stages 1 and 2: target and limit (R89 to R92) -/

/-- The speed curve (R90). The knots in use never fall (R91). -/
def curve (knots : List Nat) (step : Nat) : Nat :=
  if step = 0 then 0
  else if step % 9 = 0 then knots.getD (step / 9) 0
  else
    knots.getD (step / 9) 0 + ((knots.getD (step / 9 + 1) 0 - knots.getD (step / 9) 0) * (step % 9) + 4) / 9

/-- A target as a speed: a step through the curve, a follow speed clamped (R90, R91). -/
def targetSpeed (knots : List Nat) : Target → Nat
  | .step n => curve knots n
  | .speed v => clampNat v 0 1023

/-- Stage 1: the target speed, 0 while the requested direction differs from the running one (R91). -/
def State.stageTarget (s : State) : Nat :=
  if s.aut.requested = s.spr.running then targetSpeed s.image.traction.knots s.target else 0

/-- A limit in steps taken into a limit speed; a limit of none is left out (R92). -/
def withLimit (knots : List Nat) (limit : Option Nat) (v : Nat) : Nat :=
  match limit with
  | some n => min v (curve knots n)
  | none => v

/-- The effective limit L (R92). -/
def State.effectiveLimit (s : State) : Nat :=
  if s.role = .follower then s.image.traction.vMax
  else
    withLimit s.image.traction.knots s.tkm.occupancyLimit
      (withLimit s.image.traction.knots s.tkm.signalLimit s.image.traction.vMax)

/-! ### Stage 3: the ramp (R93) -/

/-- A NORMAL rate, doubled and taken as at most 255 while the shunting flag is set (R93). -/
def shuntRate (shunting : Bool) (rate : Nat) : Nat := if shunting then min (2 * rate) 255 else rate

/-- The up rate of a profile (R93). -/
def upRate (t : TractionConfig) (shunting : Bool) : Profile → Option Nat
  | .normal => some (shuntRate shunting t.aInc)
  | .signal => none
  | .failsafe => none
  | .follow => some t.followInc

/-- The down rate of a profile (R93). -/
def downRate (t : TractionConfig) (shunting : Bool) : Profile → Nat
  | .normal => shuntRate shunting t.dInc
  | .signal => t.sInc
  | .failsafe => t.fInc
  | .follow => t.followInc

/-- One step of `ref` toward an end point (R93). -/
def rampStep (ref goal : Nat) (up : Option Nat) (down : Nat) : Nat :=
  if ref < goal then
    match up with
    | some r => min (ref + r) goal
    | none => ref
  else if goal < ref then max (ref - down) goal
  else ref

/-- The candidate of Stage 3: T is 16 times the limited speed (R92, R93). -/
def State.candidate (s : State) : Nat :=
  rampStep s.spr.ref (16 * min s.stageTarget s.effectiveLimit)
    (upRate s.image.traction s.spr.shunting s.profile) (downRate s.image.traction s.spr.shunting s.profile)

/-! ### Stages 4 and 5 (R94, R95) -/

/-- A rise is refused: supply not NORMAL, FAILSAFE active, COOL, live zero-lock (R94). -/
def State.riseInhibited (s : State) : Bool :=
  s.sup.state != .normal || s.head == .failsafe || 0 < s.mrg.cool || s.aut.driverLive.zeroLock

/-- The `ref` that Stage 4 leaves (R94). -/
def State.nextRef (s : State) : Nat :=
  if s.spr.ref < s.candidate ∧ s.riseInhibited = true then s.spr.ref else s.candidate

/-- The running direction that Stage 5 leaves (R95). -/
def State.nextRunning (s : State) : Direction := if s.nextRef = 0 then s.aut.requested else s.spr.running

/-- SPR's computation: `ref`, the running direction and the braking flag; a rise clears SND's squeal latch (R88 to R95, R143). -/
def State.sprCompute (s : State) : State :=
  (s.onSpr fun r =>
    { r with
      ref := s.nextRef
      running := s.nextRunning
      braking := if s.nextRef < s.spr.ref then true else if s.spr.ref < s.nextRef then false else s.spr.braking }).onSnd
    fun d => { d with squealLatch := if s.spr.ref < s.nextRef then false else d.squealLatch }

/-! ### STOPPED (R98) -/

/-- The STOPPED condition on `ref` and y (R98). -/
def State.standing (s : State) : Bool := s.spr.ref == 0 && s.mrg.y ≤ s.image.traction.stopThreshold

/-- STOPPED judged afresh. Its beginning starts the standstill and valve timers and applies the waiting membership; its ending stops the
timers (R98, R76, R144, R146). SIGNAL's stop-reached is set at the end of the event (R71). -/
def State.judgeStopped (h0 : Level) (s : State) : State :=
  let s1 := s.onSpr fun r => { r with stopped := s.standing }
  if s.standing && !s.spr.stopped then
    ((s1.smokeStopBegins).onSnd fun d => { d with valve := some 20000 }).applySlot h0
  else if !s.standing && s.spr.stopped then (s1.smokeStopEnds).onSnd fun d => { d with valve := none }
  else s1

/-! ### The PI law (R104, R105) -/

/-- The law's integral and duty. -/
structure LawResult where
  integral : Int
  duty : Nat
deriving DecidableEq, Repr

/-- The result u' of R104 for an integral. -/
def lawSum (t : TractionConfig) (ref : Nat) (e integral : Int) : Int :=
  floorDiv ((t.kp : Int) * e + integral) 64 + (ref / 16 * t.feed / 1024 : Nat)

/-- The PI law with anti-windup and the duty clamp (R104, R105). -/
def piLaw (t : TractionConfig) (dMax ref y : Nat) (integral : Int) : LawResult :=
  let e : Int := (ref / 16 : Nat) - (y : Int)
  let next := clampInt (integral + t.ki * e) (-64000) 64000
  let kept := ((dMax : Int) < lawSum t ref e next ∧ 0 < e) ∨ (lawSum t ref e next < 0 ∧ e < 0)
  let taken := if kept then integral else next
  { integral := taken, duty := (clampInt (lawSum t ref e taken) 0 dMax).toNat }

/-! ### The bridge (R102) -/

/-- The bridge state, by the first line of R102 that applies. -/
def bridgeFor (latched : Bool) (cool : Nat) (depleted hold stopBranch brakeAtStop : Bool) (duty : Nat) (d : Direction) : Bridge :=
  if latched then .off
  else if 0 < cool then .cool
  else if depleted then .off
  else if hold then .brake
  else if stopBranch then (if brakeAtStop then .brake else .off)
  else if 1 ≤ duty then
    match d with
    | .forward => .driveFwd
    | .reverse => .driveRev
  else .off

/-- The bridge chosen on the state as it stands. -/
def State.chosenBridge (s : State) (stopBranch : Bool) : Bridge :=
  bridgeFor s.cfg.overcurrent s.mrg.cool (s.sup.state == .depleted) s.mrg.brakeHold stopBranch s.image.traction.brakeAtStop
    s.mrg.duty s.spr.running

/-! ### MRG's computation (R101 to R107, R115) -/

/-- The law is run: no stop branch, no latch, no COOL (R104). -/
def State.lawRuns (s : State) : Bool := !s.standing && !s.cfg.overcurrent && s.mrg.cool == 0

/-- The integral and duty of the computation; 0 where the law is not run (R104, R106). -/
def State.lawResult (s : State) : LawResult :=
  if s.lawRuns then piLaw s.image.traction s.dMaxEff s.spr.ref s.mrg.y s.mrg.integral
  else { integral := 0, duty := 0 }

/-- The duty is near full and the motor does not turn (R115). -/
def State.stallMeets (s : State) : Bool := 9 * s.dMaxEff / 10 ≤ s.mrg.duty && s.mrg.y < s.image.traction.stallSpeed

/-- Integral, duty and emergency brake hold of the period; the hold ends at the stop branch and at a `ref` above 0 (R106, R107). -/
def State.mrgLaw (s : State) : State :=
  s.onMrg fun m =>
    { m with
      integral := s.lawResult.integral
      duty := s.lawResult.duty
      brakeHold := m.brakeHold && !(s.standing || 0 < s.spr.ref) }

/-- The bridge state for the drive phase, which begins (R101, R102). -/
def State.mrgBridge (s : State) : State :=
  s.onMrg fun m =>
    { m with
      bridge := s.chosenBridge s.standing
      inDrive := true
      active := bridgeActive (s.chosenBridge s.standing) }

/-- The stall run after the computation (R115). -/
def State.stallCount (s : State) : State :=
  s.onMrg fun m =>
    { m with stallRun := if bridgeDrives m.bridge && s.stallMeets then m.stallRun + 1 else 0 }

/-- `ref` set to 0 outside the ramp (R96, R97). -/
def State.refStop (s : State) : State :=
  s.onSpr fun r => { r with ref := 0, braking := r.braking || 0 < r.ref }

/-- STOPPED is judged in a stop outside the period that set `ref` to 0 (R99); a stall stop or an entry to DEPLETED
that found `ref` at 0 changes nothing at SPR (R97). -/
def State.judgeAfterStop (h0 : Level) (ref : Nat) (s : State) : State := if ref = 0 then s else s.judgeStopped h0

/-- A stall is detected (R115, R97): STALL, `ref` 0, the integral and duty 0, the bridge afresh for this period. -/
def State.stallStop (h0 : Level) (s : State) : State :=
  let s1 := ((s.addCause .stall).refStop).onMrg fun m => { m with integral := 0, duty := 0, stallRun := 0 }
  (s1.mrgBridge).judgeAfterStop h0 s.spr.ref

/-- The computation up to the stall run. -/
def State.periodCompute (s : State) : State := s.sprCompute.mrgLaw.mrgBridge.stallCount

/-- The stall run has reached 500 (R115). -/
def State.stallFound (s : State) : Bool := 500 ≤ s.mrg.stallRun

/-- A control period: SPR's stages, MRG's computation, the stall detection (R89, R101, R115). -/
def State.controlPeriod (s : State) : State :=
  let s1 := s.periodCompute
  if s1.stallFound then s1.stallStop s.head else s1

/-! ### Stops from outside the period -/

/-- The emergency stop at SPR and MRG (R96, R107). It brakes also in the drive phase in which an accepted CLEAR_FAULTS cleared the latch,
DESIGN CHOICE (entry 44). -/
def State.emergencyStop (h0 : Level) (s : State) : State :=
  let governs := s.mrg.inDrive && !s.cfg.overcurrent && s.mrg.cool == 0 && s.sup.state != .depleted
  (s.refStop.onMrg fun m =>
    { m with
      integral := 0
      brakeHold := true
      duty := if governs then 0 else m.duty
      bridge := if governs then .brake else m.bridge
      active := m.active || governs }).judgeStopped h0

/-- The entry to DEPLETED at SPR and MRG (R97, R108). -/
def State.depletedStop (h0 : Level) (s : State) : State :=
  (s.refStop.onMrg fun m =>
    { m with
      integral := 0
      duty := 0
      bridge := if bridgeActive m.bridge then .off else m.bridge }).judgeAfterStop h0 s.spr.ref

/-! ### The end of a drive phase (R109 to R113) -/

/-- The phase current enters the window, and the budget is tested on the average now published (R109, R151). -/
def State.currentTaken (current : Nat) (s : State) : State :=
  (s.onMrg fun m => { m with window := m.window.tail ++ [min current 4000] }).budgetCut

/-- The overcurrent test is made (R110, R113). -/
def State.overcurrentTested (s : State) : Bool := s.mrg.active && !s.cfg.overcurrent

/-- A trip: the third high phase in a row (R110). -/
def State.tripTest (current : Nat) (s : State) : Bool :=
  s.overcurrentTested && s.image.traction.iTrip < min current 4000 && 2 ≤ s.mrg.overRun

/-- The fourth trip latches (R113). -/
def State.overcurrentLatch (s : State) : State :=
  ((s.onMrg fun m => { m with tripDecay := none, bridge := .off }).onCfg fun c => { c with overcurrent := true }).addCause
    .motorFault

/-- A trip (R110, R112). -/
def State.trip (s : State) : State :=
  let s1 := (s.onMrg fun m =>
    { m with
      overRun := 0
      tripCount := m.tripCount + 1
      tripDecay := some 10000
      integral := 0
      duty := 0
      stallRun := 0 }).signal .motorTrip
  if 4 ≤ s1.mrg.tripCount then s1.overcurrentLatch
  else s1.onMrg fun m => { m with cool := 25, bridge := .cool }

/-- The overcurrent run of a phase that does not trip (R110). -/
def State.overRunCount (current : Nat) (s : State) : State :=
  s.onMrg fun m =>
    { m with overRun := if s.overcurrentTested && s.image.traction.iTrip < min current 4000 then m.overRun + 1 else 0 }

/-- COOL ends in this event (R111). -/
def State.coolEnds (s : State) : Bool := s.mrg.bridge == .cool && s.mrg.cool ≤ 1

/-- A phase spent in COOL counts it down; at 0 the bridge is OFF until the next computation (R111; entry 20). -/
def State.coolCount (s : State) : State :=
  if s.mrg.bridge = .cool then
    s.onMrg fun m => { m with cool := m.cool - 1, bridge := if m.cool ≤ 1 then .off else .cool }
  else s

/-- The end of a drive phase (R109 to R111). -/
def State.phaseEnd (current : Nat) (s : State) : State :=
  let s1 := s.currentTaken current
  (if s.tripTest current then s1.trip else (s1.overRunCount current).coolCount).onMrg fun m =>
    { m with inDrive := false, active := false }

/-! ### The BEMF sample (R103) -/

/-- The calibrated reading z (R103, step 1). -/
def bemfReading (c raw : Nat) : Nat := min 1023 (raw * c / 256)

/-- w and y after a sample (R103, steps 2 and 3). -/
def State.measure (raw : Nat) (s : State) : State :=
  s.onMrg fun m =>
    { m with
      w := m.w - m.w / 4 + bemfReading s.image.traction.bemfCal raw
      y := (m.w - m.w / 4 + bemfReading s.image.traction.bemfCal raw) / 4 }

/-- The event of a BEMF sample: y, STOPPED, the synthetic chuff and the brake squeal (R98, R103, R124, R143; entry 17). -/
def State.bemf (raw : Nat) (s : State) : State :=
  (((s.measure raw).judgeStopped s.head).syntheticChuff).squealTest

/-- The motor's trip state is cleared with the latch (R114). -/
def State.tripClear (s : State) : State :=
  s.onMrg fun m => { m with tripCount := 0, tripDecay := none, overRun := 0 }

end Sys2Proof.Machine
end

