-- ==== Sys2Proof/Machine/Drive.lean ====
section
/-! DEFINITION. The commands of the control period, of the drive phase and of the chuff generator (chapters 6 to 8). -/

namespace Sys2Proof.Machine

/-- CONTROL_PERIOD (R89, R101). -/
def execControlPeriod (s : State) : Host.Outcome State Fault Refusal := whenRunningClose s s.controlPeriod

/-- STALL_DETECTED: the control period whose computation brings the stall run to 500 (R115; entry 9). -/
def execStallDetected (s : State) : Host.Outcome State Fault Refusal :=
  if s.periodCompute.stallFound then whenRunningClose s s.controlPeriod else .next s

/-- DRIVE_PHASE_END (R109 to R111). -/
def execDrivePhaseEnd (current : Nat) (s : State) : Host.Outcome State Fault Refusal := whenRunningClose s (s.phaseEnd current)

/-- OVERCURRENT_TRIP: the end of a drive phase that trips (R110, R113; entry 9). -/
def execOvercurrentTrip (current : Nat) (s : State) : Host.Outcome State Fault Refusal :=
  if s.tripTest current then whenRunningClose s (s.phaseEnd current) else .next s

/-- COOL_ENDS: the end of the drive phase that counts COOL down to 0 (R111; entry 9). -/
def execCoolEnds (current : Nat) (s : State) : Host.Outcome State Fault Refusal :=
  if s.coolEnds then whenRunningClose s (s.phaseEnd current) else .next s

/-- The trip count returns to 0 (R112). -/
def State.tripDecayDone (s : State) : State := s.onMrg fun m => { m with tripCount := 0, tripDecay := none }

/-- TRIP_DECAY_EXPIRES: in the timer's last ms, for a trip taken first has restarted it and the expiry does not happen (R112; entry 7). -/
def execTripDecayExpires (s : State) : Host.Outcome State Fault Refusal :=
  if lastMs s.mrg.tripDecay then whenRunning s s.tripDecayDone else .next s

/-- BEMF_SAMPLE (R103). -/
def execBemfSample (raw : BitVec 10) (s : State) : Host.Outcome State Fault Refusal := whenRunningClose s (s.bemf raw.toNat)

/-- The sensor's pin takes its level, whether or not the part runs (R125). -/
def State.sensorSet (level : Bool) (s : State) : State := s.onChg fun c => { c with sensor := level }

/-- WHEEL_SENSOR_EDGE (R125). -/
def execWheelSensorEdge (level : Bool) (s : State) : Host.Outcome State Fault Refusal :=
  whenRunning (s.sensorSet level) (s.sensorSet level).camEdge

/-- CAM_WINDOW_EXPIRES: in the window's last ms (R125; entry 7). -/
def execCamWindowExpires (s : State) : Host.Outcome State Fault Refusal :=
  if lastMs s.chg.camWindow then whenRunning s s.camExpiry else .next s

end Sys2Proof.Machine
end

