-- ==== Sys2Proof/Machine/Lighting.lean ====
section
/-! DEFINITION. The lamp unit's commands (section 10.2). -/

namespace Sys2Proof.Machine

/-- FLARE_ENDS: in the flare's last ms (R156; entry 7). -/
def execFlareEnds (s : State) : Host.Outcome State Fault Refusal :=
  if lastMs s.lmp.flare then whenRunning s (s.onLmp fun u => { u with flare := none }) else .next s

/-- FLICKER_LFSR_STEP (R156). -/
def execFlickerLfsrStep (s : State) : Host.Outcome State Fault Refusal :=
  whenRunning s (s.onLmp fun u => { u with lfsr := lfsrStep u.lfsr })

/-- DITCH_PHASE_TOGGLE: in the last ms of a ditch phase (R156; entry 7). -/
def execDitchPhaseToggle (s : State) : Host.Outcome State Fault Refusal :=
  if lastMs s.lmp.ditchLeft then
    whenRunning s (s.onLmp fun u => { u with ditchRight := !u.ditchRight, ditchLeft := some 500 })
  else .next s

/-- A fade count one higher, its time at the step (R156). -/
def fadeUp (l : LampState) : LampState := { l with fade := l.fade + 1, fadeAge := max l.fadeAge (31250 * (l.fade + 1)) }

/-- FADE_STEP: at the step's time, for a lit lamp whose count is below 16, whatever effect is in force now (R155, R156; entries 7
and 51). -/
def execFadeStep (lamp : Fin 8) (s : State) : Host.Outcome State Fault Refusal :=
  if fadeDue (s.lamp lamp) then whenRunning s (s.onLamp lamp fadeUp) else .next s

/-- BLINK_PHASE_END: in the last ms of a phase of a running blink (R157; entry 7). -/
def execBlinkPhaseEnd (lamp : Fin 8) (s : State) : Host.Outcome State Fault Refusal :=
  match (s.lamp lamp).blink with
  | some b => if blinkDue b then whenRunning s (s.onLamp lamp fun l => { l with blink := nextBlink b }) else .next s
  | none => .next s

/-- The strobe phase at its next boundary: 50 ms, or 0 after 1000 ms (R156). -/
def strobeOn (l : LampState) : LampState := { l with strobe := if l.strobe < 50 then 50 else 0 }

/-- STROBE_PHASE_ADVANCE: at a boundary of the phase of a lamp that has been switched on (R154, R156; entry 7). -/
def execStrobePhaseAdvance (lamp : Fin 8) (s : State) : Host.Outcome State Fault Refusal :=
  if strobeDue (s.lamp lamp) then whenRunning s (s.onLamp lamp strobeOn) else .next s

end Sys2Proof.Machine
end

