-- ==== Sys2Proof/Machine/Links.lean ====
section
/-! DEFINITION. The commands of supervision, peers and authority: link windows (R17, R18), the ageing step (R39), dwell (R71), the
FAILSAFE hold (R68) and grace timers (R82). -/

namespace Sys2Proof.Machine

/-! ### Link windows -/

/-- A link's window expires: LOST, with its cause (R17, R18). -/
def State.linkLost (l : Link) (s : State) : State :=
  (s.onRxc (setLinkRecord l { linkRecord l s.rxc with state := .lost, age := s.linkWindow l })).addCause (linkCause l)

/-- A window can expire where the record has a source, is not LOST already, and its age stands at its last ms: a frame taken first has
cleared the age, and the expiry does not happen (R15, R17). -/
def linkExpires (window : Nat) (k : LinkRecord) : Bool := k.source.isSome && k.state != .lost && window ≤ k.age + 1

/-! ### Ageing (R39) -/

/-- The age at which a HEARD entry is overdue, in ms: four declared periods, none counting as 2000 ms (R39). -/
def staleAfter (p : Peer) : Nat := 4 * p.period.getD 2000

/-- An entry one step older, STALE where overdue (R39, steps 1 and 2). -/
def agedPeer (p : Peer) : Peer :=
  { p with age := satAdd p.age 10 65535, stale := p.stale || staleAfter p < satAdd p.age 10 65535 }

/-- One entry after a step: an unpinned STALE entry of 60,000 ms or more is emptied (R39, step 3). -/
def agedEntry (pinned : Nat → Bool) (e : Option Peer) : Option Peer :=
  match e with
  | none => none
  | some p =>
    if (agedPeer p).stale && !pinned p.station && 60000 ≤ (agedPeer p).age then none else some (agedPeer p)

/-- A LOCO entry goes from HEARD to STALE or is emptied (R46). -/
def locoFades (before after : Option Peer) : Bool :=
  match before with
  | none => false
  | some p =>
    p.role == .loco &&
      match after with
      | none => true
      | some q => !p.stale && q.stale

/-- A watched member's entry goes STALE, or its age reaches W_c (R83). -/
def memberFades (window : Nat) (watches : List Watch) (before after : Option Peer) : Bool :=
  match before with
  | none => false
  | some p =>
    (watches.any fun w => w.member == p.station) &&
      match after with
      | none => true
      | some q => (!p.stale && q.stale) || (p.age < window && window ≤ q.age)

/-- Some pair of an entry before and after a step meets a test. -/
def anyFades (test : Option Peer → Option Peer → Bool) (before after : List (Option Peer)) : Bool :=
  (before.zip after).any fun x => test x.1 x.2

/-- The ageing step, with the occupancy test and the MEMBER test where it calls for them (R39, R46, R83). -/
def State.ageStep (s : State) : State :=
  let after := s.ptb.entries.map (agedEntry s.pinned)
  let s1 := s.onPtb fun t => { t with entries := after }
  let s2 := if anyFades locoFades s.ptb.entries after then s1.occupancyTest else s1
  if anyFades (memberFades s.image.windows.consistWindow s.csu.watches) s.ptb.entries after then s2.memberTest else s2

/-! ### Dwell and hold -/

/-- A dwell counts while SIGNAL is the head and stop-reached is set (R71). -/
def State.dwellCounts (s : State) : Bool :=
  s.head == .signal && s.aut.signalLive.reached &&
    match s.aut.signalLive.dwell with
    | some n => n != 0
    | none => false

/-- A dwell that counts is in its last ms (R71). -/
def State.dwellEnds (s : State) : Bool := s.dwellCounts && lastMs s.aut.signalLive.dwell

/-- The dwell reaches 0 (R71). -/
def State.dwellDone (s : State) : State := s.onAut fun a => { a with signalLive := { a.signalLive with dwell := some 0 } }

/-- The hold runs and is in its last ms: a cause taken first has stopped it, or started it again (R68). -/
def State.holdEnds (s : State) : Bool := s.aut.failsafe.claimed && lastMs s.aut.hold

/-- The hold timer reaches 0; FAILSAFE is released at the end of the event (R68). -/
def State.holdDone (s : State) : State := s.onAut fun a => { a with hold := some 0 }

/-! ### Grace timers -/

/-- A member's grace timer is in its last ms (R82). -/
def graceEnds (m : Nat) (ws : List Watch) : Bool := ws.any fun w => w.member == m && lastMs w.grace

/-- A member's grace timer stops (R82). -/
def State.graceDone (m : Nat) (s : State) : State :=
  (s.onCsu fun c =>
    { c with watches := c.watches.map fun w => if w.member = m then { w with grace := none } else w }).memberTest

/-! ### Meanings -/

/-- LINK_WINDOW_EXPIRES (R17, R18). -/
def execLinkWindowExpires (link : Link) (s : State) : Host.Outcome State Fault Refusal :=
  if linkExpires (s.linkWindow link) (linkRecord link s.rxc) then whenRunningClose s (s.linkLost link) else .next s

/-- PEER_AGEING_STEP (R39). -/
def execPeerAgeingStep (s : State) : Host.Outcome State Fault Refusal := whenRunningClose s s.ageStep

/-- DWELL_EXPIRES: in the last ms of a dwell that counts (R71, R72; entry 7). -/
def execDwellExpires (s : State) : Host.Outcome State Fault Refusal :=
  if s.dwellEnds then whenRunningClose s s.dwellDone else .next s

/-- FAILSAFE_HOLD_EXPIRES: in the hold's last ms (R68; entry 7). -/
def execFailsafeHoldExpires (s : State) : Host.Outcome State Fault Refusal :=
  if s.holdEnds then whenRunningClose s s.holdDone else .next s

/-- GRACE_TIMER_EXPIRES: in the grace timer's last ms (R82, R83; entry 7). -/
def execGraceTimerExpires (member : Nat) (s : State) : Host.Outcome State Fault Refusal :=
  if graceEnds member s.csu.watches then whenRunningClose s (s.graceDone member) else .next s

end Sys2Proof.Machine
end

