-- ==== Sys2Proof/Machine/Start.lean ====
section
/-! DEFINITION. The start sequence (R167), the entry test's end (R165) and the brown-out (R165). -/

namespace Sys2Proof.Machine

/-- AUT at a start: PARKED claimed and started, everything else at its start value (R49, R51). -/
def startAut : Aut := { parked := { claimed := true, started := true } }

/-- Every block at its start value, with what a start keeps: the queue, the memories, the sensor's pin, the image and its validity
(R167; entries 21 and 22), and the count of free estimates (entry 28). The receiver is off and has no estimate (R3). -/
def State.startValues (p : Power) (image : Image) (invalid : Bool) (s : State) : State :=
  { pending := s.pending
    power := p
    rxc := { renewals := s.rxc.renewals }
    aut := startAut
    chg := { cam := s.chg.sensor, sensor := s.chg.sensor }
    cfg := { image := image, configInvalid := invalid }
    eeprom := s.eeprom
    flash := s.flash }

/-- Steps 1 to 5 of the start sequence: the image is read, checked, chosen and clamped, and the receiver comes on with an estimate
(R167, R3). -/
def State.beginStart (answers : Bool) (s : State) : State :=
  (s.startValues .starting (chosenImage s.eeprom answers) (!imageValid s.eeprom answers)).onRxc freshEstimate

/-- The startup one-shot (R142). -/
def State.startupSound (s : State) : State := s.systemRequest false 1

/-- Step 7: every block takes its start values, the startup sound is queued, PARKED is claimed and started, FNM evaluates, PARKED's
entry actions run (R167). The receiver has been on since step 5: a header in collection and the estimate are kept (entry 26, R3). -/
def State.completeStart (s : State) : State :=
  let s1 := ((s.startValues .running s.image s.cfg.configInvalid).onRxc fun r =>
    { r with collecting := s.rxc.collecting, estimate := s.rxc.estimate })
  ((s1.startupSound.signal (.claim .parked)).functionsRefresh).entryActions .parked false

/-- A good evaluation of the entry test (R165). -/
def State.entryGood (track store : Byte) (s : State) : Bool :=
  match s.image.identity.supplyMode with
  | .track => s.image.supply.trackMin + 4 ≤ track.toNat
  | .battery => s.image.supply.storeLow + 4 ≤ store.toNat

/-- One evaluation of the entry test: ten good ones in a row complete the start (R165). -/
def State.entryTest (track store : Byte) (s : State) : State :=
  if s.entryGood track store then
    if s.sup.entryRun + 1 < 10 then s.onSup fun u => { u with entryRun := u.entryRun + 1 } else s.completeStart
  else s.onSup fun u => { u with entryRun := 0 }

/-- The cells of a page write in flight that had reached the EEPROM (R165, R171; entry 22). -/
def storedCells (stored : BitVec 16) (w : Writing) : List Host.Cell :=
  w.inFlight.filter fun c => stored.getLsbD (c.1 % 16)

/-- A brown-out: the part stops, its state is lost, a page write in flight is abandoned (R165). -/
def State.brownOut (stored : BitVec 16) (s : State) : State :=
  let mem :=
    match s.cfg.writing with
    | some w => memWriteAll s.eeprom (storedCells stored w)
    | none => s.eeprom
  (s.startValues .off s.image s.cfg.configInvalid).onEeprom fun _ => mem

end Sys2Proof.Machine
end

