-- ==== Sys2Proof/Machine/Service.lean ====
section
/-! DEFINITION. Service operations (section 12.3): the tests of R170, the write in flight page by page (R171), CLEAR_FAULTS (R172) and
RESTART (R173). -/

namespace Sys2Proof.Machine

/-! ### The write in flight (R171) -/

/-- Bytes laid at consecutive addresses. -/
def cellsFrom (at_ : Nat) : List Byte → List Host.Cell
  | [] => []
  | b :: bs => (at_, b) :: cellsFrom (at_ + 1) bs

/-- The data bytes that lie in a page (R171). -/
def pageData (offset : Nat) (data : List Byte) (page : Nat) : List Host.Cell :=
  (cellsFrom offset data).filter fun c => c.1 / 16 == page

/-- The CRC cells of the stored bytes with some cells written (R171, step 2). -/
def crcCells (mem : List Host.Cell) (cells : List Host.Cell) : List Host.Cell :=
  cellsFrom 510 (bytes16 (crc16 (memBytes (memWriteAll mem cells) 0 510)).toNat)

/-- The last page of the EEPROM, which holds the CRC (R166). -/
def crcPage : Nat := 31

/-- The bytes a page write takes: the data of the page, and on the last page the CRC as well (R171). -/
def pageCells (mem : List Host.Cell) (offset : Nat) (data : List Byte) (page : Nat) : List Host.Cell :=
  if page = crcPage then pageData offset data page ++ crcCells mem (pageData offset data page)
  else pageData offset data page

/-- The page after a page: the next data page, otherwise the CRC's (R171). The lower of two data pages comes first: DESIGN CHOICE
(entry 53). -/
def nextPage (offset count page : Nat) : Nat :=
  if page < (offset + count - 1) / 16 then page + 1 else crcPage

/-- A page write begins (R171). -/
def writingPage (mem : List Host.Cell) (offset count : Nat) (data : List Byte) (page : Nat) (written : List Host.Cell) : Writing where
  offset := offset
  count := count
  data := data
  page := page
  inFlight := pageCells mem offset data page
  hasCrc := page == crcPage
  written := written

/-- The EEPROM after a page write: the bytes written, with those that came out otherwise (entry 23). -/
def pageStored (mem : List Host.Cell) (w : Writing) (wrong : List Host.Cell) : List Host.Cell :=
  memWriteAll (memWriteAll mem w.inFlight) (wrong.filter fun c => c.1 / 16 == w.page)

/-- The verification: every byte written reads back as written (R171, step 3). -/
def verified (mem : List Host.Cell) (cells : List Host.Cell) : Bool := cells.all fun c => memRead mem c.1 == c.2

/-- The write completes with a status; a deferred restart follows in the same event (R171, R173). -/
def State.writeDone (st : ServiceStatus) (startAnswers : Bool) (s : State) : State :=
  let s1 := (s.onCfg fun c => { c with writing := none }).answer st
  if s.cfg.restartPending then s1.beginStart startAnswers else s1

/-- A page write ends: the next page, or the verification (R171). -/
def State.pageDone (answers : Bool) (wrong : List Host.Cell) (startAnswers : Bool) (w : Writing) (s : State) : State :=
  let s1 := s.onEeprom fun m => pageStored m w wrong
  if answers then
    if w.hasCrc then
      s1.writeDone (if verified s1.eeprom (w.written ++ w.inFlight) then .done else .writeFailed) startAnswers
    else
      s1.onCfg fun c =>
        { c with
          writing :=
            some (writingPage s1.eeprom w.offset w.count w.data (nextPage w.offset w.count w.page) (w.written ++ w.inFlight)) }
  else s1.writeDone .writeFailed startAnswers

/-! ### The operations (R170 to R173) -/

/-- WRITE and RESTART are accepted under PARKED and DRIVER alone (R170, test 2). -/
def contextAllows (op : Nat) (l : Level) : Bool := op == 2 || l == .parked || l == .driver

/-- An offset and count that no WRITE may have (R170, test 4). -/
def rangeFails (d : ServiceData) : Bool := d.count == 0 || 16 < d.count || 510 < d.offset + d.count

/-- An accepted WRITE begins with its first page (R171). Where that is the last page, which takes the CRC too, the read for the CRC falls
into this event and is always answered: DESIGN CHOICE (entry 52). -/
def State.beginWrite (d : ServiceData) (s : State) : State :=
  s.onCfg fun c =>
    { c with writing := some (writingPage s.eeprom d.offset d.count d.data (d.offset / 16) []) }

/-- An accepted CLEAR_FAULTS (R172, R114). -/
def State.clearFaults (s : State) : State :=
  (((if s.cfg.overcurrent then s.tripClear else s).onCfg fun c =>
    { c with overcurrent := false, overtemp := false }).removeCause .motorFault).answer .done

/-- An accepted RESTART: DONE, and the start sequence in the same event (R173). -/
def State.restart (startAnswers : Bool) (s : State) : State := (s.answer .done).beginStart startAnswers

/-- A BUSY answer; a RESTART also sets restart pending (R170, test 3, R173). -/
def State.busy (op : Nat) (s : State) : State :=
  (s.onCfg fun c => { c with restartPending := c.restartPending || op == 3 }).answer .busy

/-- An operation that passed the tests of R170. -/
def State.acceptService (startAnswers : Bool) (d : ServiceData) (s : State) : State :=
  match d.op with
  | 1 => s.beginWrite d
  | 2 => s.clearFaults
  | _ => s.restart startAnswers

/-- CFG judges a SERVICE frame addressed to the own ID by the first test of R170 that applies. -/
def State.takeService (startAnswers : Bool) (d : ServiceData) (s : State) : State :=
  if d.op < 1 ∨ 3 < d.op then s.answer .refusedOp
  else if s.spr.stopped = false ∨ contextAllows d.op s.head = false then s.answer .refusedMotion
  else if s.cfg.writing.isSome then s.busy d.op
  else if d.op = 1 ∧ rangeFails d = true then s.answer .refusedRange
  else s.acceptService startAnswers d

end Sys2Proof.Machine
end

