-- ==== Sys2Proof/Machine/Supply.lean ====
section
/-! DEFINITION. The supply monitor (chapter 11): one evaluation in either mode (R161, R162) and the changes of state with the SUPPLY
cause (R163, R164). -/

namespace Sys2Proof.Machine

/-- What one evaluation does. -/
inductive SupplyMove where
  /-- The counts alone change. -/
  | counts (low high : Nat)
  /-- The state changes, and the counts return to 0. -/
  | to (st : SupplyState)
deriving DecidableEq, Repr

/-- A good sample: the high count rises, and at 10 the state returns to NORMAL (R161, R162). -/
def returnMove (good : Bool) (u : Sup) : SupplyMove :=
  if good then (if u.high + 1 < 10 then .counts u.low (u.high + 1) else .to .normal) else .counts u.low 0

/-- A bad sample in NORMAL: the low count rises, and at 2 the state leaves NORMAL (R161, R162). -/
def lossMove (bad : Bool) (next : SupplyState) (u : Sup) : SupplyMove :=
  if bad then (if u.low + 1 < 2 then .counts (u.low + 1) 0 else .to next) else .counts 0 u.high

/-- One evaluation in TRACK mode (R161). -/
def trackMove (k : SupplyConfig) (track store : Nat) (u : Sup) : SupplyMove :=
  match u.state with
  | .normal => lossMove (track < k.trackMin) (if store < k.storeLow then .depleted else .bridging) u
  | .bridging => if store < k.storeLow then .to .depleted else returnMove (k.trackMin + 4 ≤ track) u
  | .depleted => returnMove (k.trackMin + 4 ≤ track) u

/-- One evaluation in BATTERY mode (R162). BRIDGING does not occur there; it is judged as DEPLETED (entry 35). -/
def batteryMove (k : SupplyConfig) (store : Nat) (u : Sup) : SupplyMove :=
  match u.state with
  | .normal => lossMove (store < k.storeLow) .depleted u
  | .bridging => returnMove (k.storeLow + 4 ≤ store) u
  | .depleted => returnMove (k.storeLow + 4 ≤ store) u

/-- The move of an evaluation in the mode of the image in use (R161, R162). -/
def State.supplyMove (track store : Byte) (s : State) : SupplyMove :=
  match s.image.identity.supplyMode with
  | .track => trackMove s.image.supply track.toNat store.toNat s.sup
  | .battery => batteryMove s.image.supply store.toNat s.sup

/-- Entry to BRIDGING (R163, R164). -/
def State.enterBridging (s : State) : State :=
  (s.onSup fun u =>
    { u with
      state := .bridging
      low := 0
      high := 0
      bridging := some s.image.supply.bridgeMax
      normalHold := none }).smokeSupply

/-- Entry to DEPLETED: SPR's and MRG's stop, the SUPPLY cause and the readers' shedding, one event (R163, R164). -/
def State.enterDepleted (h0 : Level) (s : State) : State :=
  (((s.onSup fun u =>
    { u with state := .depleted, low := 0, high := 0, bridging := none, normalHold := none, raised := true }).addCause
      .supply).smokeSupply).depletedStop h0

/-- Entry to NORMAL: the hold of 500 ms starts where SUPPLY is raised (R163, R164). -/
def State.enterNormal (s : State) : State :=
  (s.onSup fun u =>
    { u with
      state := .normal
      low := 0
      high := 0
      bridging := none
      normalHold := if u.raised then some 500 else none }).smokeSupply

/-- A move carried out. -/
def State.supplyMoved (h0 : Level) (m : SupplyMove) (s : State) : State :=
  match m with
  | .counts l h => s.onSup fun u => { u with low := l, high := h }
  | .to .normal => s.enterNormal
  | .to .bridging => s.enterBridging
  | .to .depleted => s.enterDepleted h0

/-- The bridging timer expires: SUPPLY is added (R163). -/
def State.bridgingDone (s : State) : State :=
  (s.onSup fun u => { u with bridging := none, raised := true }).addCause .supply

/-- NORMAL has held for 500 ms: SUPPLY is removed (R163). -/
def State.normalHoldDone (s : State) : State :=
  (s.onSup fun u => { u with normalHold := none, raised := false }).removeCause .supply

end Sys2Proof.Machine
end

