-- ==== Sys2Proof/Machine/Power.lean ====
section
/-! DEFINITION. The commands of the supply monitor, of the start sequence and of the EEPROM (chapters 11 and 12). -/

namespace Sys2Proof.Machine

/-- SUPPLY_EVALUATION: the states of R161 and R162 while the part runs, the entry test during the start (R165). -/
def execSupplyEvaluation (track store : Byte) (s : State) : Host.Outcome State Fault Refusal :=
  match s.power with
  | .running => .next ((s.supplyMoved s.head (s.supplyMove track store)).close s)
  | .starting => .next (s.entryTest track store)
  | .off => .next s

/-- The evaluation takes the state out of NORMAL (R161, R162). -/
def isLoss (st : SupplyState) (m : SupplyMove) : Bool :=
  match m with
  | .to next => st == .normal && next != .normal
  | .counts _ _ => false

/-- The evaluation returns the state to NORMAL (R161, R162). -/
def isReturn (st : SupplyState) (m : SupplyMove) : Bool :=
  match m with
  | .to next => st != .normal && next == .normal
  | .counts _ _ => false

/-- SUPPLY_LOSS: the evaluation at which the low count reaches 2 (R161, R162; entry 9). -/
def execSupplyLoss (track store : Byte) (s : State) : Host.Outcome State Fault Refusal :=
  if isLoss s.sup.state (s.supplyMove track store) then
    whenRunningClose s (s.supplyMoved s.head (s.supplyMove track store))
  else .next s

/-- SUPPLY_RETURN: the evaluation at which the high count reaches 10 (R161, R162; entry 9). -/
def execSupplyReturn (track store : Byte) (s : State) : Host.Outcome State Fault Refusal :=
  if isReturn s.sup.state (s.supplyMove track store) then
    whenRunningClose s (s.supplyMoved s.head (s.supplyMove track store))
  else .next s

/-- BRIDGING_TIMER_EXPIRES: in the timer's last ms (R163; entry 7). -/
def execBridgingTimerExpires (s : State) : Host.Outcome State Fault Refusal :=
  if lastMs s.sup.bridging then whenRunningClose s s.bridgingDone else .next s

/-- NORMAL_HOLD_EXPIRES: in the timer's last ms (R163; entry 7). -/
def execNormalHoldExpires (s : State) : Host.Outcome State Fault Refusal :=
  if lastMs s.sup.normalHold then whenRunningClose s s.normalHoldDone else .next s

/-- BROWN_OUT: a part that is not stopped stops (R165). -/
def execBrownOut (stored : BitVec 16) (s : State) : Host.Outcome State Fault Refusal :=
  match s.power with
  | .off => .next s
  | .starting => .next (s.brownOut stored)
  | .running => .next (s.brownOut stored)

/-- POWER_ON: a stopped part begins the start sequence (R165, R167). -/
def execPowerOn (answers : Bool) (s : State) : Host.Outcome State Fault Refusal :=
  match s.power with
  | .off => .next (s.beginStart answers)
  | .starting => .next s
  | .running => .next s

/-- ENTRY_TEST_PASSED: the tenth good evaluation in a row (R165, R167; entry 9). -/
def execEntryTestPassed (track store : Byte) (s : State) : Host.Outcome State Fault Refusal :=
  match s.power with
  | .starting =>
    if s.entryGood track store = true ∧ s.sup.entryRun = 9 then .next (s.entryTest track store) else .next s
  | .running => .next s
  | .off => .next s

/-- PAGE_WRITE_COMPLETE: with a write in flight (R171, R173). -/
def execPageWriteComplete (answers : Bool) (wrong : List (Nat × BitVec 8)) (startAnswers : Bool) (s : State) :
    Host.Outcome State Fault Refusal :=
  match s.cfg.writing with
  | some w => whenRunningClose s (s.pageDone answers wrong startAnswers w)
  | none => .next s

end Sys2Proof.Machine
end

