-- ==== Sys2Proof/Machine/Driver.lean ====
section
/-! DEFINITION. The DRIVER context's throttle (section 4.3): binding, frames of the bound throttle, contention, rebinding, release, and
the function set of a follower (R66).

`h0` is the head of the claim list before the event. -/

namespace Sys2Proof.Machine

/-- The zero-lock flag set or cleared where it stands: live while DRIVER is the head, saved while it waits (R64). -/
def putZeroLock (h0 : Level) (v : Bool) (a : Aut) : Aut :=
  if h0 = .driver then { a with driverLive := { a.driverLive with zeroLock := v } }
  else { a with driver := { a.driver with saved := { a.driver.saved with zeroLock := v } } }

/-- The live step, direction and function set take a frame's values; the saved part follows while DRIVER waits (R54, R60). -/
def putDriverData (h0 : Level) (d : ThrottleData) (a : Aut) : Aut :=
  { a with
    driverLive := { a.driverLive with funcs := d.funcs, step := d.step, dir := d.dir }
    driver :=
      if h0 = .driver then a.driver
      else { a.driver with saved := { a.driver.saved with dir := d.dir, target := d.step } } }

/-- An EMERGENCY flag acts: zero-lock, and the emergency stop while DRIVER is the head (R65). -/
def State.emergency (h0 : Level) (s : State) : State :=
  let s1 := s.onAut (putZeroLock h0 true)
  if s.head = .driver then s1.emergencyStop h0 else s1

/-- The RSSI of a valid frame of the bound throttle (R9, R16). -/
def State.setRssi (n : Nat) (s : State) : State := s.onRxc fun r => { r with rssi := n }

/-- Binding (R59, R19): zero-lock is in the saved part until DRIVER becomes the head. -/
def State.bindDriver (h0 : Level) (info : FrameInfo) (d : ThrottleData) (s : State) : State :=
  let s1 := (((s.claim .driver (some info.source)).onAut (putDriverData h0 d)).onAut (putZeroLock h0 (d.step != 0))).setLink
    .driver (some info.source) .up
  let s2 := s1.setRssi info.rssi
  if d.emergency then s2.emergency h0 else s2

/-- Rebinding (R62, R19). -/
def State.rebindDriver (h0 : Level) (info : FrameInfo) (d : ThrottleData) (s : State) : State :=
  let s1 := ((s.onAut fun a => { a with driver := { a.driver with source := some info.source } }).onAut
    (putDriverData h0 d)).onAut (putZeroLock h0 true)
  let s2 := s1.setLink .driver (some info.source) .regaining
  if d.emergency then s2.emergency h0 else s2

/-- RELEASE from the bound throttle, after the emergency stop that the frame may carry (R63, R19). -/
def State.releaseDriver (h0 : Level) (d : ThrottleData) (s : State) : State :=
  let s1 := if d.emergency && h0 == .driver then s.emergency h0 else s
  ((((s1.release .driver).setLink .driver none .up).removeCause .linkLost).setRssi 255)

/-- A frame of the bound throttle (R60, R63, R64, R65). -/
def State.boundFrame (h0 : Level) (d : ThrottleData) (s : State) : State :=
  if d.release then s.releaseDriver h0 d
  else
    let s1 := s.onAut (putDriverData h0 d)
    if d.emergency then s1.emergency h0
    else if d.step = 0 then s1.onAut (putZeroLock h0 false)
    else s1

/-- A frame for DRIVER (R58 to R62). -/
def State.driverFrame (h0 : Level) (info : FrameInfo) (d : ThrottleData) (s : State) : State :=
  if s.aut.driver.claimed then
    if s.aut.driver.source = some info.source then s.boundFrame h0 d
    else if s.rxc.driverLink.state = .lost then
      (if d.release then s else s.rebindDriver h0 info d)
    else s.signal .contention
  else if d.release then s
  else s.bindDriver h0 info d

/-- The function set of a follower's CONSIST context (R66). -/
def State.consistFunctions (f : FuncSet) (s : State) : State :=
  s.onAut fun a => { a with consistLive := { a.consistLive with funcs := f } }

/-- A valid frame of the DRIVER link, where the source is the bound throttle (R16, R17). -/
def State.driverHeard (info : FrameInfo) (s : State) : State :=
  if s.rxc.driverLink.source = some info.source then (s.validFrame .driver).setRssi info.rssi else s

/-- AUT and RXC take a THROTTLE frame addressed to the locomotive or its consist (R14, R58). -/
def State.takeThrottle (h0 : Level) (info : FrameInfo) (d : ThrottleData) (s : State) : State :=
  let s1 := s.driverHeard info
  if s.role = .follower ∧ info.dest ≠ s.ownId then s1.consistFunctions d.funcs
  else s1.driverFrame h0 info d

end Sys2Proof.Machine
end

