-- ==== Sys2Proof/Machine/Track.lean ====
section
/-! DEFINITION. The track monitor (section 3.2): passing and updating (R41 to R43), limits (R44), SIGNAL claims (R45, R70), zones (R47). -/

namespace Sys2Proof.Machine

/-! ### Limits (R44) -/

/-- The signal limit of a record's current aspect (R44). -/
def signalLimitOf (restricted : Nat) (r : BeaconRecord) : Option Nat :=
  match r.aspect with
  | .clear => none
  | .approach => some r.limitStep
  | .restricted => some (min r.limitStep restricted)
  | .stop => some (min r.limitStep restricted)

/-- The record is replaced or updated, with the limits that follow from it (R42, R43, R44, R46). -/
def State.setRecord (r : BeaconRecord) (s : State) : State :=
  (s.onTkm fun t =>
    { t with record := some r, signalLimit := signalLimitOf s.image.windows.restrictedStep r }).occupancyTest

/-! ### Zones (R47) -/

/-- A one-shot or hold request of owner ZONE (R47). -/
def State.zoneRequest (hold : Bool) (group index : Nat) (s : State) : State :=
  s.request { hold := hold, owner := .zone, prio := s.image.sound.zonePrio, group := group, index := index }

/-- The zone state follows a record's flags: a bell that ends, the horn at a passing, a bell that begins, in this order (R47). -/
def State.setZone (passing : Bool) (f : ZoneFlags) (s : State) : State :=
  let s1 := s.onTkm fun t => { t with noSmoke := f.noSmoke, bellZone := f.bellZone, quiet := f.quiet }
  let s2 := if s.tkm.bellZone && !f.bellZone then s1.stopOwner .zone else s1
  let s3 := if passing && f.hornPoint then s2.zoneRequest false s.image.sound.hornGroup s.image.sound.hornIndex else s2
  let s4 := if !s.tkm.bellZone && f.bellZone then s3.zoneRequest true s.image.sound.bellGroup s.image.sound.bellIndex else s3
  s4.smokeZone

/-! ### SIGNAL (R45, R70) -/

/-- The dwell in ms of a STATION beacon, 0 s taken as 1000 ms (R45). -/
def dwellMs (seconds : Nat) : Nat := if seconds = 0 then 1000 else seconds * 1000

/-- The stop state that a claim carries (R45, R70). -/
def claimStop (r : BeaconRecord) : StopState where
  reached := false
  dwell := if r.kind = .station then some (dwellMs r.dwell) else none
  waitClear := r.aspectPassing == .stop

/-- A passing requires a claim: not a follower, and STOP or STATION (R45). -/
def State.claimNeeded (s : State) (r : BeaconRecord) : Bool :=
  s.role != .follower && (r.aspectPassing == .stop || r.kind == .station)

/-- A claim's stop state is SIGNAL's live data and, written from it, its saved part (R52, R70). -/
def claimedStop (k : StopState) (a : Aut) : Aut :=
  { a with signalLive := k, signal := { a.signal with saved := { a.signal.saved with stop := k } } }

/-- AUT acts on a passing notice (R70). -/
def State.passingNotice (h0 : Level) (r : BeaconRecord) (s : State) : State :=
  if s.claimNeeded r then
    if s.aut.signal.claimed then
      s.onAut fun a => putStop h0 (claimStop r) { a with signal := { a.signal with source := some r.beacon } }
    else (s.claim .signal (some r.beacon)).onAut (claimedStop (claimStop r))
  else s.release .signal

/-- A dwell refresh of SIGNAL's own STATION beacon, taken while stop-reached is clear (R43, R70). -/
def State.dwellRefresh (h0 : Level) (r : BeaconRecord) (s : State) : State :=
  if r.kind = .station ∧ s.aut.signal.claimed = true ∧ s.aut.signal.source = some r.beacon ∧
      (stopNow h0 s.aut).reached = false then
    s.onAut fun a => putStop h0 { stopNow h0 a with dwell := some (dwellMs r.dwell) } a
  else s

/-! ### Beacons (R41 to R43) -/

/-- The record of a passing (R42). -/
def passedRecord (b : Nat) (d : BeaconData) : BeaconRecord where
  beacon := b
  sect := d.sect
  nextSect := d.nextSect
  kind := d.kind
  aspectPassing := d.aspect
  aspect := d.aspect
  limitStep := d.limitStep
  dwell := d.dwell
  flags := d.flags

/-- The record after an update (R43). -/
def updatedRecord (r : BeaconRecord) (d : BeaconData) : BeaconRecord :=
  { r with aspect := d.aspect, limitStep := d.limitStep, nextSect := d.nextSect, dwell := d.dwell, flags := d.flags }

/-- A passing of a beacon (R42). -/
def State.passBeacon (h0 : Level) (b : Nat) (d : BeaconData) (s : State) : State :=
  ((s.setRecord (passedRecord b d)).setZone true d.flags).passingNotice h0 (passedRecord b d)

/-- An update of the last-passed beacon (R43). -/
def State.updateBeacon (h0 : Level) (r : BeaconRecord) (d : BeaconData) (s : State) : State :=
  ((s.setRecord (updatedRecord r d)).setZone false d.flags).dwellRefresh h0 (updatedRecord r d)

/-- TKM judges an accepted BEACON frame: update, passing, or no concern (R41). -/
def State.takeBeacon (h0 : Level) (info : FrameInfo) (d : BeaconData) (s : State) : State :=
  match s.tkm.record with
  | some r =>
    if r.beacon = info.source then s.updateBeacon h0 r d
    else if s.image.windows.nearThreshold ≤ info.rssi then s.passBeacon h0 info.source d
    else s
  | none => if s.image.windows.nearThreshold ≤ info.rssi then s.passBeacon h0 info.source d else s

end Sys2Proof.Machine
end

