-- ==== Sys2Proof/Machine/Receive.lean ====
section
/-! DEFINITION. The receive chain's commands (chapter 1): the header (R4, R7), the frames that complete (R7 to R9) and their dispatch
(R13, R14). -/

namespace Sys2Proof.Machine

/-! ### Receiving -/

/-- A dropped frame: the count saturating at 255 and one RX_DROP (R7). -/
def State.dropFrame (r : DropReason) (s : State) : State :=
  (s.onRxc fun x => { x with dropped := satAdd x.dropped 1 255 }).signal (.rxDrop r)

/-- An accepted frame: the count saturating at 255 and one RX_ACCEPT (R9). -/
def State.acceptFrame (kind : Nat) (s : State) : State :=
  (s.onRxc fun x => { x with accepted := satAdd x.accepted 1 255 }).signal (.rxAccept kind)

/-- The HEADER test is made at once: the frame is dropped, or its payload is collected (R4, R7). During the start sequence nothing is
counted (R167). -/
def State.takeHeader (bytes : HeaderBytes) (levels : Levels) (s : State) : State :=
  if headerFails s.ownId bytes then
    match s.power with
    | .running => s.dropFrame .header
    | .starting => s
    | .off => s
  else s.onRxc fun r => { r with collecting := some { bytes := bytes, levels := levels } }

/-- The frame in collection that a frame command completes: its kind is the command's and its length the header's (R4; entry 10). -/
def State.completed (s : State) (kinds : Nat → Bool) (payload : List Byte) : Option Collected :=
  if s.receiverOn then
    match s.rxc.collecting with
    | some c => if kinds (headerKind c.bytes) && payload.length == 2 * headerWords c.bytes then some c else none
    | none => none
  else none

/-- Tests 2 to 5 on a completed frame, then its dispatch as one event (R7, R9, section 1.6). -/
def State.judgeFrame (c : Collected) (payload : List Byte) (crc : BitVec 16) (dispatch : FrameInfo → State → State) (s : State) :
    State :=
  match dropReason s.image.identity.layout c.bytes payload crc with
  | some r => s.dropFrame r
  | none => dispatch (frameInfo c) (s.acceptFrame (headerKind c.bytes))

/-- A frame's completion: collection ends; a running part judges it, a starting one discards it (R4, R7, R167). -/
def State.takeFrame (kinds : Nat → Bool) (payload : List Byte) (crc : BitVec 16) (dispatch : FrameInfo → State → State) (s : State) :
    State :=
  match s.completed kinds payload with
  | some c =>
    let s1 := s.onRxc fun r => { r with collecting := none }
    match s.power with
    | .running => (s1.judgeFrame c payload crc dispatch).close s
    | .starting => s1
    | .off => s
  | none => s

/-! ### Dispatch (R13, R14) -/

/-- PTB takes the frame first; a LOCO entry evicted for it makes the occupancy test (section 1.6, R36, R37, R46). -/
def State.hear (info : FrameInfo) (role : PeerRole) (rec : Option LocoRecord) (s : State) : State :=
  if s.evictedRole info.source = some .loco then (s.takePeer info role rec).occupancyTest else s.takePeer info role rec

/-- THROTTLE frames concern the locomotive at its own ID or its nonzero consist ID (R14). -/
def State.dispatchThrottle (payload : List Byte) (info : FrameInfo) (s : State) : State :=
  if info.dest = s.ownId ∨ (s.consistId ≠ 0 ∧ info.dest = s.consistId) then
    (s.hear info .throttle none).takeThrottle s.head info (throttleData payload)
  else s

/-- CONSIST frames go to CSU whatever their destination (R14). -/
def State.dispatchConsist (payload : List Byte) (_info : FrameInfo) (s : State) : State :=
  s.takeConsist s.head (consistData payload)

/-- BEACON frames go to PTB and TKM (R13). -/
def State.dispatchBeacon (payload : List Byte) (info : FrameInfo) (s : State) : State :=
  (s.hear info .beacon none).takeBeacon s.head info (beaconData payload)

/-- The locomotive record of a LOCO frame (R35). -/
def locoRecordOf (d : LocoData) : LocoRecord := { sect := d.sect, level := d.level, consistId := d.consistId }

/-- The LEAD link hears its lead (R16, R17). -/
def State.leadHeard (info : FrameInfo) (s : State) : State :=
  if s.rxc.leadLink.source = some info.source then s.validFrame .lead else s

/-- CSU takes a LOCO frame: the lead's report at a follower, a watched member's at the lead (R81, R83). -/
def State.consistReport (h0 : Level) (info : FrameInfo) (d : LocoData) (s : State) : State :=
  match s.role with
  | .follower => if leadOf s.csu.record = some info.source then s.followReport h0 d else s
  | .lead => if s.csu.watches.any fun w => w.member == info.source then s.memberTest else s
  | .none => s

/-- LOCO frames go to PTB, TKM, RXC supervision and CSU (R13). -/
def State.dispatchLoco (payload : List Byte) (info : FrameInfo) (s : State) : State :=
  (((s.hear info .loco (some (locoRecordOf (locoData payload)))).occupancyTest).leadHeard info).consistReport s.head info
    (locoData payload)

/-- SERVICE frames go to CFG and PTB at the own ID alone (R14). -/
def State.dispatchService (startAnswers : Bool) (payload : List Byte) (info : FrameInfo) (s : State) : State :=
  if info.dest = s.ownId then (s.hear info .tool none).takeService startAnswers (serviceData payload) else s

/-! ### Which frame a row completes -/

/-- The op byte of a SERVICE payload (R10). -/
def serviceOp (payload : List Byte) : Nat := byteAt payload 0

/-- A kind outside 1..5 (R7). -/
def undefinedKind (k : Nat) : Bool := k < 1 || 5 < k

/-! ### Meanings -/

/-- HEADER_COMPLETE: with the receiver on, hunting, on the part's channel (R1, R2, R4, R7). -/
def execHeaderComplete (channel : Fin 16) (bytes : HeaderBytes) (levels : Levels) (s : State) : Host.Outcome State Fault Refusal :=
  .next
    (if s.receiverOn && s.rxc.collecting.isNone && channel.val == s.image.identity.channel then s.takeHeader bytes levels else s)

/-- THROTTLE_FRAME (R14, R58 to R66). -/
def execThrottleFrame (payload : List Byte) (crc : BitVec 16) (s : State) : Host.Outcome State Fault Refusal :=
  .next (s.takeFrame (· == 1) payload crc (State.dispatchThrottle payload))

/-- CONSIST_FRAME (R14, R75). -/
def execConsistFrame (payload : List Byte) (crc : BitVec 16) (s : State) : Host.Outcome State Fault Refusal :=
  .next (s.takeFrame (· == 2) payload crc (State.dispatchConsist payload))

/-- BEACON_FRAME (R13, R41). -/
def execBeaconFrame (payload : List Byte) (crc : BitVec 16) (s : State) : Host.Outcome State Fault Refusal :=
  .next (s.takeFrame (· == 3) payload crc (State.dispatchBeacon payload))

/-- LOCO_FRAME (R13, R81, R83). -/
def execLocoFrame (payload : List Byte) (crc : BitVec 16) (s : State) : Host.Outcome State Fault Refusal :=
  .next (s.takeFrame (· == 4) payload crc (State.dispatchLoco payload))

/-- SERVICE_WRITE: a SERVICE frame with op 1 (R170, R171). -/
def execServiceWrite (payload : List Byte) (crc : BitVec 16) (s : State) : Host.Outcome State Fault Refusal :=
  .next (s.takeFrame (fun k => k == 5 && serviceOp payload == 1) payload crc (State.dispatchService false payload))

/-- SERVICE_CLEAR_FAULTS: a SERVICE frame with op 2 (R170, R172). -/
def execServiceClearFaults (payload : List Byte) (crc : BitVec 16) (s : State) : Host.Outcome State Fault Refusal :=
  .next (s.takeFrame (fun k => k == 5 && serviceOp payload == 2) payload crc (State.dispatchService false payload))

/-- SERVICE_RESTART: a SERVICE frame with op 3 (R170, R173). -/
def execServiceRestart (payload : List Byte) (crc : BitVec 16) (answers : Bool) (s : State) : Host.Outcome State Fault Refusal :=
  .next (s.takeFrame (fun k => k == 5 && serviceOp payload == 3) payload crc (State.dispatchService answers payload))

/-- SERVICE_OTHER_OP: a SERVICE frame with an op byte other than 1, 2 and 3 (R170). -/
def execServiceOtherOp (payload : List Byte) (crc : BitVec 16) (s : State) : Host.Outcome State Fault Refusal :=
  .next
    (s.takeFrame (fun k => k == 5 && (serviceOp payload < 1 || 3 < serviceOp payload)) payload crc
      (State.dispatchService false payload))

/-- UNDEFINED_KIND_FRAME: a frame whose kind is not 1..5, dropped as LAYOUT or KIND (R7). -/
def execUndefinedKindFrame (payload : List Byte) (crc : BitVec 16) (s : State) : Host.Outcome State Fault Refusal :=
  .next (s.takeFrame undefinedKind payload crc fun _ t => t)

end Sys2Proof.Machine
end

