-- ==== Sys2Proof/Machine/Report.lean ====
section
/-! DEFINITION. The report transmitter (chapter 2): seed and holdoff (R23), the clear-channel check (R24, R25), the backoff (R26), the
report's bytes (R12) and its start (R27), credit (R29) and the occupancy samples (R32). -/

namespace Sys2Proof.Machine

/-! ### The report's bytes (R12) -/

/-- A flag as a bit of value `w`. -/
def flagBit (b : Bool) (w : Nat) : Nat := if b then w else 0

/-- Supply state codes (R10). -/
def supplyCode : SupplyState → Nat
  | .normal => 0
  | .bridging => 1
  | .depleted => 2

/-- Service status codes (R10). -/
def statusCode : ServiceStatus → Nat
  | .none => 0
  | .done => 1
  | .busy => 2
  | .refusedMotion => 3
  | .refusedRange => 4
  | .refusedOp => 5
  | .writeFailed => 6

/-- The position field: 7 for none (R10, R12). -/
def positionCode : Option Nat → Nat
  | none => 7
  | some p => p

/-- The header of a report (R12): kind 4, own layout and ID, 9 words, destination 4095, the period code in force. -/
def State.reportHeader (s : State) : HeaderBytes :=
  let h : HeaderBytes :=
    { b0 := toByte (4 * 16 + s.image.identity.layout)
      b1 := toByte (s.ownId / 16)
      b2 := toByte (s.ownId % 16 * 16 + 9)
      b3 := toByte (4095 / 16)
      b4 := toByte (4095 % 16 * 16 + s.periodCode)
      b5 := 0#8 }
  { h with b5 := headerCheck h }

/-- The 18 payload bytes of a report, from the owning blocks as they stand (R10, R12). -/
def State.reportPayload (s : State) : List Byte :=
  bytes16 (s.publishedSection * 16 + s.aspectHeld)
    ++ bytes16 (s.publishedNext * 16 + s.head.code * 2 + flagBit (s.spr.running == .forward) 1)
    ++ bytes16
        (s.spr.ref / 16 * 64 + flagBit s.spr.stopped 32 + flagBit s.aut.driverLive.zeroLock 16 + flagBit (s.role == .lead) 8
          + flagBit (s.role == .follower) 4 + flagBit (smokeReady s.smk.state) 2)
    ++ bytes16 (s.mrg.y * 64 + supplyCode s.sup.state * 16 + statusCode s.cfg.status)
    ++ bytes16 (s.consistId * 16 + positionCode s.position * 2)
    ++ [toByte s.faultSummary, toByte s.rxc.accepted]
    ++ bytes16 s.rpt.counterA
    ++ bytes16 s.rpt.counterB
    ++ [toByte s.rxc.dropped, toByte s.rxc.rssi]

/-- Header, payload and CRC of a report in air order (R4, R12). -/
def State.reportBytes (s : State) : List Byte :=
  let body := headerList s.reportHeader ++ s.reportPayload
  body ++ bytes16 (crc16 body).toNat

/-! ### Seed and holdoff (R23) -/

/-- The seed of a first channel estimate: its low 4 bits over the own ID, 0 replaced by 1 (R23). -/
def seedOf (estimate ownId : Nat) : BitVec 16 :=
  if estimate % 16 * 4096 + ownId % 4096 = 0 then 1#16 else BitVec.ofNat 16 (estimate % 16 * 4096 + ownId % 4096)

/-- The seed is taken, stepped once, and the holdoff drawn (R23, R26). -/
def State.takeSeed (level : Int) (s : State) : State :=
  let v := lfsrStep (seedOf (clampLevel level) s.ownId)
  (s.onRpt fun r => { r with lfsr := v, holdoffLeft := some (v.toNat % 501) }).onRxc fun r =>
    { r with estimate := some (clampLevel level) }

/-- The holdoff expires: the report is due and the activity READY (R23). -/
def State.holdoffDone (s : State) : State :=
  s.onRpt fun r => { r with activity := .ready, due := true, holdoffLeft := none }

/-! ### Checking (R24 to R26) -/

/-- The airtime of one report in µs (R2). -/
def reportAirtime : Nat := 2640

/-- The spacing condition: 50 ms since the last report start, or none since the start (R24). -/
def State.spacingHolds (s : State) : Bool :=
  match s.rpt.sinceStart with
  | some c => 50 ≤ c
  | none => true

/-- A check begins from READY with a report due, spacing and credit (R24). -/
def State.checkMayBegin (s : State) : Bool :=
  s.rpt.activity == .ready && s.rpt.due && s.spacingHolds && reportAirtime ≤ s.rpt.credit

/-- A ms of waiting for credit (R24). -/
def State.waitsForCredit (s : State) : Bool :=
  s.rpt.activity == .ready && s.rpt.due && s.spacingHolds && s.rpt.credit < reportAirtime

/-- The holdoff drawn is in its last ms (R23). -/
def State.holdoffEnds (s : State) : Bool := s.rpt.activity == .holdoff && lastMs s.rpt.holdoffLeft

/-- The backoff ends in this ms (R26; entry 12). -/
def State.backoffEnds (s : State) : Bool := s.rpt.activity == .backingOff && s.rpt.backoffLeft ≤ 1000

/-- The report on the air ends in this ms (R28; entry 12). -/
def State.airEnds (s : State) : Bool := s.rpt.activity == .sending && s.rpt.airLeft ≤ 1000

/-- The since-start clock comes to the period in force in this ms, or has passed it; no period expiry falls inside SENDING (R21, R28). -/
def State.clockReaches (s : State) : Bool :=
  s.rpt.activity != .sending &&
    match s.rpt.sinceStart with
    | some c => s.period ≤ c + 1
    | none => false

/-- The activity becomes CHECKING (R24, R26). -/
def State.beginCheck (s : State) : State := s.onRpt fun r => { r with activity := .checking, backoffLeft := 0 }

/-- A busy channel: TX_CCA_BUSY, and a backoff of 1 to 16 slots of 500 µs (R25, R26). -/
def State.backOff (s : State) : State :=
  (s.signal .ccaBusy).onRpt fun r =>
    { r with
      activity := .backingOff
      lfsr := lfsrStep r.lfsr
      backoffLeft := 500 * ((lfsrStep r.lfsr).toNat % 16 + 1) }

/-- A report starts (R27, R33, R2, R9): content frozen, counts zeroed after it, credit deducted, the receiver off. -/
def State.startReport (s : State) : State :=
  (s.onRpt fun r =>
    { r with
      report := s.reportBytes
      counterA := 0
      counterB := 0
      credit := r.credit - reportAirtime
      due := false
      sinceStart := some 0
      activity := .sending
      airLeft := reportAirtime }).onRxc fun r =>
    { r with accepted := 0, dropped := 0, collecting := none, estimate := none }

/-- The end of the check, with its two channel estimates (R25). -/
def State.finishCheck (first second : Int) (s : State) : State :=
  if max (clampLevel first) (clampLevel second) < s.image.windows.ccaThreshold then s.startReport
  else s.backOff.onRxc fun r => { r with estimate := some (clampLevel second) }

/-- The transmission ends, and the receiver comes on with an estimate (R28, R2, R3). -/
def State.sendDone (s : State) : State :=
  ((s.onRpt fun r => { r with activity := .ready, airLeft := 0 }).signal .txSent).onRxc freshEstimate

/-! ### Credit and occupancy samples (R29, R32) -/

/-- An accrual of 100 µs, capped at 50,000 µs (R29). -/
def State.accrue (s : State) : State := s.onRpt fun r => { r with credit := satAdd r.credit 100 50000 }

/-- Whether a counter's mask takes a role (R31, R32). -/
def maskTakes (mask : BitVec 8) (bit : Nat) : Bool := mask.getLsbD bit

/-- The number of peer entries in use whose role is in the mask (R32, PEER_FILL). -/
def State.peerFill (s : State) (mask : BitVec 8) : Nat :=
  s.ptb.entries.countP fun e =>
    match e with
    | some p => maskTakes mask (peerRoleBit p.role)
    | none => false

/-- The number of voices not FREE whose owner class is in the mask (R32, VOICES_ACTIVE). -/
def State.voicesActive (s : State) (mask : BitVec 8) : Nat :=
  s.snd.voices.countP fun v =>
    v.state != .free &&
      match v.owner with
      | some o => maskTakes mask (ownerClassBit (ownerClass o))
      | none => false

/-- The sampled value of an occupancy event at an interval, none for a code not sampled at it (R32). -/
def State.occupancyValue (s : State) (base : SampleBase) (c : CounterConfig) : Option Nat :=
  match base with
  | .everyMs =>
    if c.event = 4 then some (flagBit s.waitsForCredit 1)
    else if c.event = 8 then some (s.voicesActive c.mask)
    else if c.event = 12 then some (flagBit (s.sup.state == .bridging) 1)
    else none
  | .everyHundredMs => if c.event = 6 then some (s.peerFill c.mask) else none

/-- What a sample adds to a counter (R32). An inverted BRIDGING_MS counter adds 1 at every sample in BATTERY mode too, by R32's table and
against R162's words that a BRIDGING_MS counter reads 0 there: DESIGN CHOICE (entry 49). -/
def sampleAdds (c : CounterConfig) (v : Nat) : Nat :=
  if c.threshold = 0 then v
  else if c.invert then (if v < c.threshold then 1 else 0)
  else if c.threshold ≤ v then 1 else 0

/-- A counter after a sample, saturating (R30, R32). -/
def State.sampled (s : State) (base : SampleBase) (c : CounterConfig) (n : Nat) : Nat :=
  match s.occupancyValue base c with
  | some v => satAdd n (sampleAdds c v) 65535
  | none => n

/-- One sample at both counters (R32). -/
def State.sampleOccupancy (base : SampleBase) (s : State) : State :=
  s.onRpt fun r =>
    { r with
      counterA := s.sampled base s.image.counterA r.counterA
      counterB := s.sampled base s.image.counterB r.counterB }

end Sys2Proof.Machine
end

