-- ==== Sys2Proof/Machine/Transmit.lean ====
section
/-! DEFINITION. The report transmitter's commands (chapter 2). -/

namespace Sys2Proof.Machine

/-- The since-start clock at the period in force (R21; entry 7). -/
def State.clockDue (s : State) : State :=
  match s.rpt.sinceStart with
  | some c => (s.onRpt fun r => { r with sinceStart := some (max c s.period) }).makeDue
  | none => s

/-- LFSR_SEED_TAKEN: in HOLDOFF, once (R23). -/
def execLfsrSeedTaken (level : Int) (s : State) : Host.Outcome State Fault Refusal :=
  if s.rpt.activity = .holdoff ∧ s.rpt.holdoffLeft = none then whenRunning s (s.takeSeed level) else .next s

/-- HOLDOFF_EXPIRES: in the last ms of the holdoff drawn (R23; entry 7). -/
def execHoldoffExpires (s : State) : Host.Outcome State Fault Refusal :=
  if s.holdoffEnds then whenRunning s s.holdoffDone else .next s

/-- REPORT_PERIOD_DUE: where the clock comes to the period in force, outside SENDING (R21, R28; entry 7). -/
def execReportPeriodDue (s : State) : Host.Outcome State Fault Refusal :=
  if s.clockReaches then whenRunning s s.clockDue else .next s

/-- CLEAR_CHANNEL_CHECK (R24). -/
def execClearChannelCheck (s : State) : Host.Outcome State Fault Refusal :=
  if s.checkMayBegin then whenRunning s s.beginCheck else .next s

/-- CCA_COMPLETE (R25 to R27). -/
def execCcaComplete (first second : Int) (s : State) : Host.Outcome State Fault Refusal :=
  if s.rpt.activity = .checking then whenRunning s (s.finishCheck first second) else .next s

/-- BACKOFF_EXPIRES: in the last ms of the backoff (R26; entry 7). -/
def execBackoffExpires (s : State) : Host.Outcome State Fault Refusal :=
  if s.backoffEnds then whenRunning s s.beginCheck else .next s

/-- TRANSMISSION_END: in the last ms of the 2640 µs (R28; entry 7). -/
def execTransmissionEnd (s : State) : Host.Outcome State Fault Refusal :=
  if s.airEnds then whenRunning s s.sendDone else .next s

/-- CREDIT_ACCRUAL (R29). -/
def execCreditAccrual (s : State) : Host.Outcome State Fault Refusal := whenRunning s s.accrue

/-- OCCUPANCY_SAMPLE (R32). -/
def execOccupancySample (base : SampleBase) (s : State) : Host.Outcome State Fault Refusal :=
  whenRunning s (s.sampleOccupancy base)

end Sys2Proof.Machine
end

