-- ==== Sys2Proof/Machine/Dispatch.lean ====
section
/-! DEFINITION. The meaning of each command: one arm per row of the table, each one call of its own meaning. -/

namespace Sys2Proof.Machine

def exec (i : Instr) (s : State) : Host.Outcome State Fault Refusal :=
  match i with
  | .headerComplete channel bytes levels => Sys2Proof.Machine.execHeaderComplete channel bytes levels s
  | .throttleFrame payload crc => Sys2Proof.Machine.execThrottleFrame payload crc s
  | .consistFrame payload crc => Sys2Proof.Machine.execConsistFrame payload crc s
  | .beaconFrame payload crc => Sys2Proof.Machine.execBeaconFrame payload crc s
  | .locoFrame payload crc => Sys2Proof.Machine.execLocoFrame payload crc s
  | .serviceWrite payload crc => Sys2Proof.Machine.execServiceWrite payload crc s
  | .serviceClearFaults payload crc => Sys2Proof.Machine.execServiceClearFaults payload crc s
  | .serviceRestart payload crc answers => Sys2Proof.Machine.execServiceRestart payload crc answers s
  | .linkWindowExpires link => Sys2Proof.Machine.execLinkWindowExpires link s
  | .peerAgeingStep => Sys2Proof.Machine.execPeerAgeingStep s
  | .dwellExpires => Sys2Proof.Machine.execDwellExpires s
  | .failsafeHoldExpires => Sys2Proof.Machine.execFailsafeHoldExpires s
  | .graceTimerExpires member => Sys2Proof.Machine.execGraceTimerExpires member s
  | .lfsrSeedTaken level => Sys2Proof.Machine.execLfsrSeedTaken level s
  | .holdoffExpires => Sys2Proof.Machine.execHoldoffExpires s
  | .reportPeriodDue => Sys2Proof.Machine.execReportPeriodDue s
  | .clearChannelCheck => Sys2Proof.Machine.execClearChannelCheck s
  | .ccaComplete first second => Sys2Proof.Machine.execCcaComplete first second s
  | .backoffExpires => Sys2Proof.Machine.execBackoffExpires s
  | .transmissionEnd => Sys2Proof.Machine.execTransmissionEnd s
  | .creditAccrual => Sys2Proof.Machine.execCreditAccrual s
  | .occupancySample base => Sys2Proof.Machine.execOccupancySample base s
  | .controlPeriod => Sys2Proof.Machine.execControlPeriod s
  | .drivePhaseEnd current => Sys2Proof.Machine.execDrivePhaseEnd current s
  | .overcurrentTrip current => Sys2Proof.Machine.execOvercurrentTrip current s
  | .coolEnds current => Sys2Proof.Machine.execCoolEnds current s
  | .tripDecayExpires => Sys2Proof.Machine.execTripDecayExpires s
  | .stallDetected => Sys2Proof.Machine.execStallDetected s
  | .bemfSample raw => Sys2Proof.Machine.execBemfSample raw s
  | .wheelSensorEdge level => Sys2Proof.Machine.execWheelSensorEdge level s
  | .camWindowExpires => Sys2Proof.Machine.execCamWindowExpires s
  | .lookupComplete => Sys2Proof.Machine.execLookupComplete s
  | .refillComplete => Sys2Proof.Machine.execRefillComplete s
  | .soundSampleEvent => Sys2Proof.Machine.execSoundSampleEvent s
  | .valveTimerExpires => Sys2Proof.Machine.execValveTimerExpires s
  | .thermostatTick raw => Sys2Proof.Machine.execThermostatTick raw s
  | .standstillTimerExpires => Sys2Proof.Machine.execStandstillTimerExpires s
  | .fanBurstEnds => Sys2Proof.Machine.execFanBurstEnds s
  | .flareEnds => Sys2Proof.Machine.execFlareEnds s
  | .flickerLfsrStep => Sys2Proof.Machine.execFlickerLfsrStep s
  | .ditchPhaseToggle => Sys2Proof.Machine.execDitchPhaseToggle s
  | .fadeStep lamp => Sys2Proof.Machine.execFadeStep lamp s
  | .blinkPhaseEnd lamp => Sys2Proof.Machine.execBlinkPhaseEnd lamp s
  | .supplyEvaluation track store => Sys2Proof.Machine.execSupplyEvaluation track store s
  | .supplyLoss track store => Sys2Proof.Machine.execSupplyLoss track store s
  | .supplyReturn track store => Sys2Proof.Machine.execSupplyReturn track store s
  | .bridgingTimerExpires => Sys2Proof.Machine.execBridgingTimerExpires s
  | .normalHoldExpires => Sys2Proof.Machine.execNormalHoldExpires s
  | .brownOut stored => Sys2Proof.Machine.execBrownOut stored s
  | .powerOn answers => Sys2Proof.Machine.execPowerOn answers s
  | .entryTestPassed track store => Sys2Proof.Machine.execEntryTestPassed track store s
  | .pageWriteComplete answers wrong startAnswers => Sys2Proof.Machine.execPageWriteComplete answers wrong startAnswers s
  | .undefinedKindFrame payload crc => Sys2Proof.Machine.execUndefinedKindFrame payload crc s
  | .serviceOtherOp payload crc => Sys2Proof.Machine.execServiceOtherOp payload crc s
  | .strobePhaseAdvance lamp => Sys2Proof.Machine.execStrobePhaseAdvance lamp s

end Sys2Proof.Machine
end

