-- ==== Sys2Proof/Machine/Tick.lean ====
section
/-! DEFINITION. One millisecond of a running part with no command waiting (entry 6): the counts in ms advance, and a timer at its last
count puts its expiry command into the queue. Counts in µs fall by 1000 (entry 12). -/

namespace Sys2Proof.Machine

/-! ### Counting -/

/-- A running count falls by 1; its last ms stays for the expiry command. -/
def countDown (t : Option Nat) : Option Nat :=
  match t with
  | some n => some (max (n - 1) 1)
  | none => none

/-- A record's age advances; its last ms before the window stays for the expiry (R15). -/
def agedLink (window : Nat) (k : LinkRecord) : LinkRecord :=
  if k.source.isSome ∧ k.age + 1 < window then { k with age := k.age + 1 } else k

/-- A lamp's phases after a ms: the strobe from its first switch-on, the fade while it is lit, the blink always (R154, R156, R157;
entry 32). A fade under way goes on rising while another effect is in force: DESIGN CHOICE (entry 51). -/
def agedLamp (l : LampState) : LampState :=
  { l with
    strobe := if strobeCounts l ∧ l.strobe ≠ 49 ∧ l.strobe < 999 then l.strobe + 1 else l.strobe
    fadeAge := if l.lit ∧ l.fade < 16 then l.fadeAge + 1000 else l.fadeAge
    blink := l.blink.map fun b => { b with left := max (b.left - 1) 1 } }

/-- A command put into the queue where its condition holds: the same test as its meaning makes (entry 7). -/
def dueIf (b : Bool) (i : Instr) : List Instr := if b then [i] else []

/-- What falls due at a lamp in this ms (R156, R157). -/
def lampDue (n : Fin 8) (l : LampState) : List Instr :=
  dueIf (fadeDue l) (.fadeStep n)
    ++ dueIf (strobeDue l) (.strobePhaseAdvance n)
    ++ dueIf (l.blink.any blinkDue) (.blinkPhaseEnd n)

/-! ### Each block's counts -/

/-- The ages of the links; the estimate is renewed every 80 µs while the receiver is on (R3; entry 28). -/
def agedRxc (s : State) (r : Rxc) : Rxc :=
  { (if s.receiverOn then freshEstimate r else r) with
    driverLink := agedLink (s.linkWindow .driver) r.driverLink
    leadLink := agedLink (s.linkWindow .lead) r.leadLink }

def agedRpt (r : Rpt) : Rpt :=
  { r with
    sinceStart := r.sinceStart.map (· + 1)
    holdoffLeft := r.holdoffLeft.map fun n => max (n - 1) 1
    backoffLeft := r.backoffLeft - 1000
    airLeft := r.airLeft - 1000 }

def agedAut (s : State) (a : Aut) : Aut :=
  { a with
    hold := countDown a.hold
    signalLive := if s.dwellCounts then { a.signalLive with dwell := countDown a.signalLive.dwell } else a.signalLive }

def agedCsu (c : Csu) : Csu :=
  { c with watches := c.watches.map fun w => { w with grace := countDown w.grace } }

def agedLmp (u : Lmp) : Lmp :=
  { u with
    lamps := u.lamps.map agedLamp
    flare := countDown u.flare
    ditchLeft := countDown u.ditchLeft }

def agedSmk (k : Smk) : Smk :=
  { k with
    standstill := countDown k.standstill
    burst := k.burst.map fun b => { b with left := max (b.left - 1) 1 } }

/-- Every count one ms further (entry 6). -/
def State.aged (s : State) : State :=
  { s with
    rxc := agedRxc s s.rxc
    rpt := agedRpt s.rpt
    aut := agedAut s s.aut
    csu := agedCsu s.csu
    mrg := { s.mrg with tripDecay := countDown s.mrg.tripDecay }
    chg := { s.chg with camWindow := countDown s.chg.camWindow }
    snd := { s.snd with valve := countDown s.snd.valve }
    smk := agedSmk s.smk
    lmp := agedLmp s.lmp
    sup := { s.sup with bridging := countDown s.sup.bridging, normalHold := countDown s.sup.normalHold } }

/-! ### What falls due -/

/-- The report period is reached in this ms with no report due (R21). -/
def State.periodReached (s : State) : Bool := !s.rpt.due && s.clockReaches

/-- The check's conditions hold after this ms (R24). -/
def State.checkReached (s : State) : Bool :=
  s.rpt.activity == .ready && (s.rpt.due || s.periodReached) && reportAirtime ≤ s.rpt.credit &&
    match s.rpt.sinceStart with
    | some c => 50 ≤ c + 1
    | none => true

/-- The commands of the lamp, smoke, sound, chuff and motor timers that fall due. -/
def State.localDue (s : State) : List Instr :=
  (List.finRange 8).flatMap (fun n => lampDue n (s.lamp n))
    ++ dueIf (lastMs s.lmp.ditchLeft) .ditchPhaseToggle
    ++ dueIf (lastMs s.lmp.flare) .flareEnds
    ++ dueIf (burstDue s.smk.burst) .fanBurstEnds
    ++ dueIf (lastMs s.smk.standstill) .standstillTimerExpires
    ++ dueIf (lastMs s.snd.valve) .valveTimerExpires
    ++ dueIf (lastMs s.chg.camWindow) .camWindowExpires
    ++ dueIf (lastMs s.mrg.tripDecay) .tripDecayExpires

/-- The commands of authority, consist, links and supply that fall due. -/
def State.authorityDue (s : State) : List Instr :=
  dueIf s.holdEnds .failsafeHoldExpires
    ++ dueIf s.dwellEnds .dwellExpires
    ++ (s.csu.watches.filter fun w => lastMs w.grace).map (fun w => .graceTimerExpires w.member)
    ++ dueIf (linkExpires (s.linkWindow .driver) s.rxc.driverLink) (.linkWindowExpires .driver)
    ++ dueIf (linkExpires (s.linkWindow .lead) s.rxc.leadLink) (.linkWindowExpires .lead)
    ++ dueIf (lastMs s.sup.bridging) .bridgingTimerExpires
    ++ dueIf (lastMs s.sup.normalHold) .normalHoldExpires

/-- The commands of the report transmitter that fall due. -/
def State.reportDue (s : State) : List Instr :=
  dueIf s.holdoffEnds .holdoffExpires
    ++ dueIf s.backoffEnds .backoffExpires
    ++ dueIf s.airEnds .transmissionEnd
    ++ dueIf s.periodReached .reportPeriodDue
    ++ dueIf s.checkReached .clearChannelCheck

/-- All the commands that fall due in this ms, in the order taken (entry 6). -/
def State.expiries (s : State) : List Instr := s.localDue ++ s.authorityDue ++ s.reportDue

/-- The idle step: one ms of a running part; a part that does not run stands still (entry 6). -/
def State.tick (s : State) : State :=
  match s.power with
  | .running => { s.aged with pending := s.expiries }
  | .starting => s
  | .off => s

end Sys2Proof.Machine
end

