-- ==== Sys2Proof/Safety.lean ====
section
/-! DEFINITION. What the manual promises of the whole part: the laws that hold after every command, each a predicate on the state, and
the words in which an event's reach is said (which blocks it leaves as they were, what a command must answer). -/

namespace Sys2Proof.Machine

/-! ### The reach of an event -/

/-- The parts of the state an event may reach. -/
inductive Block where
  | pending
  | power
  | rxc
  | rpt
  | ptb
  | tkm
  | aut
  | csu
  | spr
  | mrg
  | fnm
  | chg
  | snd
  | smk
  | lmp
  | sup
  | cfg
  | eeprom
  | flash
deriving DecidableEq, Repr

/-- A block is as it was. -/
def blockKept (s t : State) : Block → Prop
  | .pending => t.pending = s.pending
  | .power => t.power = s.power
  | .rxc => t.rxc = s.rxc
  | .rpt => t.rpt = s.rpt
  | .ptb => t.ptb = s.ptb
  | .tkm => t.tkm = s.tkm
  | .aut => t.aut = s.aut
  | .csu => t.csu = s.csu
  | .spr => t.spr = s.spr
  | .mrg => t.mrg = s.mrg
  | .fnm => t.fnm = s.fnm
  | .chg => t.chg = s.chg
  | .snd => t.snd = s.snd
  | .smk => t.smk = s.smk
  | .lmp => t.lmp = s.lmp
  | .sup => t.sup = s.sup
  | .cfg => t.cfg = s.cfg
  | .eeprom => t.eeprom = s.eeprom
  | .flash => t.flash = s.flash

/-- An event reaches no block outside a list. -/
def reachesOnly (bs : List Block) (s t : State) : Prop := ∀ b : Block, b ∉ bs → blockKept s t b

/-- The blocks that an event's end at AUT may reach: the claim list settled, functions, sounds, smoke, lamps and SPR's shunting flag
handed on, reports due (R53 to R57, R122). -/
def settlingBlocks : List Block := [.aut, .snd, .rpt, .fnm, .spr, .smk, .lmp]

/-- SPR's state but for the shunting flag, which FNM hands it (R88, R122). -/
def motionKept (s t : State) : Prop :=
  t.spr.ref = s.spr.ref ∧ t.spr.running = s.spr.running ∧ t.spr.braking = s.spr.braking ∧ t.spr.stopped = s.spr.stopped

/-- A command answers a next state with a property. -/
def answers (c : Instr) (s : State) (p : State → Prop) : Prop := ∃ t, exec c s = .next t ∧ p t

/-! ### Counters and limits -/

/-- An occurrence of an event adds 1, up to 65,535, to each counter that selects its code and whose mask takes it; a counter that selects
the code and does not take the occurrence stays (R30, R31). -/
def counted (code : Nat) (takes : BitVec 8 → Bool) (s t : State) : Prop :=
  (s.image.counterA.event = code →
      t.rpt.counterA = if takes s.image.counterA.mask then min (s.rpt.counterA + 1) 65535 else s.rpt.counterA)
    ∧ (s.image.counterB.event = code →
      t.rpt.counterB = if takes s.image.counterB.mask then min (s.rpt.counterB + 1) 65535 else s.rpt.counterB)

/-- One counter after a sample at an interval: the sampled value is added, or 1 where it passes the threshold test, up to 65,535; a
counter of another event stays (R32). -/
def sampledAs (base : SampleBase) (c : CounterConfig) (s : State) (before after : Nat) : Prop :=
  (∀ v, (base = .everyMs ∧ c.event = 4
            ∧ v = (if s.rpt.activity = .ready ∧ s.rpt.due = true ∧ s.spacingHolds = true ∧ s.rpt.credit < 2640 then 1 else 0)
          ∨ base = .everyMs ∧ c.event = 8 ∧ v = s.voicesActive c.mask
          ∨ base = .everyMs ∧ c.event = 12 ∧ v = (if s.sup.state = .bridging then 1 else 0)
          ∨ base = .everyHundredMs ∧ c.event = 6 ∧ v = s.peerFill c.mask) →
      after =
        min 65535
          (before + (if c.threshold = 0 then v else if (c.invert = true ↔ v < c.threshold) then 1 else 0)))
    ∧ ((base = .everyMs → c.event ∉ [4, 8, 12]) → (base = .everyHundredMs → c.event ≠ 6) → after = before)

/-- Some HEARD locomotive of another consist reports the own next section (R46). -/
def occupied (next consist : Nat) (es : List (Option Peer)) : Prop :=
  ∃ (p : Peer) (r : LocoRecord), some p ∈ es ∧ p.stale = false ∧ p.role = .loco ∧ p.record = some r ∧ next ≠ 0 ∧ r.sect = next
    ∧ (consist = 0 ∨ r.consistId ≠ consist)

/-- The occupancy limit stands as R46 has it on the table and the record after an event. -/
def occupancyTested (s t : State) : Prop :=
  (occupied t.publishedNext s.consistId t.ptb.entries → t.tkm.occupancyLimit = some s.image.windows.occupancyStep)
    ∧ (¬occupied t.publishedNext s.consistId t.ptb.entries → t.tkm.occupancyLimit = none)

/-- The entry to DEPLETED: counts and timers cleared, SUPPLY raised, `ref`, duty and integral 0, the bridge neither driving nor braking,
FAILSAFE at the head (R97, R108, R163). -/
def entersDepleted (s t : State) : Prop :=
  t.sup = { state := .depleted, low := 0, high := 0, bridging := none, normalHold := none, raised := true, entryRun := s.sup.entryRun }
    ∧ t.spr.ref = 0 ∧ t.mrg.duty = 0 ∧ t.mrg.integral = 0 ∧ bridgeActive t.mrg.bridge = false ∧ t.aut.causes.supply = true
    ∧ t.head = .failsafe ∧ reachesOnly (.mrg :: .sup :: settlingBlocks) s t

/-! ### Frames -/

/-- A frame in collection that passes all five tests on its completion (R4, R7, R8). -/
def arrives (kind : Nat) (s : State) (h : Collected) (payload : List Byte) (crc : BitVec 16) : Prop :=
  s.power = .running ∧ s.rpt.activity ≠ .sending ∧ s.rxc.collecting = some h ∧ headerKind h.bytes = kind
    ∧ payload.length = 2 * headerWords h.bytes ∧ headerLayout h.bytes = s.image.identity.layout
    ∧ 2 * leastWords kind payload ≤ payload.length ∧ crc = crc16 (headerList h.bytes ++ payload)

/-- The row that completes a frame of a kind; a SERVICE frame's row is named by its op byte (entry 34). -/
def frameRow (kind : Nat) (payload : List Byte) (crc : BitVec 16) (answers : Bool) : Instr :=
  match kind with
  | 1 => .throttleFrame payload crc
  | 2 => .consistFrame payload crc
  | 3 => .beaconFrame payload crc
  | 4 => .locoFrame payload crc
  | 5 =>
    match serviceOp payload with
    | 1 => .serviceWrite payload crc
    | 2 => .serviceClearFaults payload crc
    | 3 => .serviceRestart payload crc answers
    | _ => .serviceOtherOp payload crc
  | _ => .undefinedKindFrame payload crc

/-- A THROTTLE frame that reaches DRIVER: addressed to the own ID, or to the own consist where the locomotive is no follower (R14,
R58). -/
def forDriver (s : State) (h : Collected) : Prop :=
  headerDest h.bytes = s.ownId
    ∨ (s.consistId ≠ 0 ∧ headerDest h.bytes = s.consistId ∧ s.role ≠ .follower)

/-- The bound throttle of a DRIVER context that its link watches (R15, R58). -/
def boundTo (s : State) (station : Nat) : Prop :=
  s.aut.driver.claimed = true ∧ s.aut.driver.source = some station ∧ s.rxc.driverLink.source = some station

/-- The commands that bring the receiver something: a header, or the rest of a frame. -/
def fromTheAir : Instr → Bool
  | .headerComplete _ _ _ => true
  | .throttleFrame _ _ => true
  | .consistFrame _ _ => true
  | .beaconFrame _ _ => true
  | .locoFrame _ _ => true
  | .serviceWrite _ _ => true
  | .serviceClearFaults _ _ => true
  | .serviceRestart _ _ _ => true
  | .serviceOtherOp _ _ => true
  | .undefinedKindFrame _ _ => true
  | .linkWindowExpires _ => false
  | .peerAgeingStep => false
  | .dwellExpires => false
  | .failsafeHoldExpires => false
  | .graceTimerExpires _ => false
  | .lfsrSeedTaken _ => false
  | .holdoffExpires => false
  | .reportPeriodDue => false
  | .clearChannelCheck => false
  | .ccaComplete _ _ => false
  | .backoffExpires => false
  | .transmissionEnd => false
  | .creditAccrual => false
  | .occupancySample _ => false
  | .controlPeriod => false
  | .drivePhaseEnd _ => false
  | .overcurrentTrip _ => false
  | .coolEnds _ => false
  | .tripDecayExpires => false
  | .stallDetected => false
  | .bemfSample _ => false
  | .wheelSensorEdge _ => false
  | .camWindowExpires => false
  | .lookupComplete => false
  | .refillComplete => false
  | .soundSampleEvent => false
  | .valveTimerExpires => false
  | .thermostatTick _ => false
  | .standstillTimerExpires => false
  | .fanBurstEnds => false
  | .flareEnds => false
  | .flickerLfsrStep => false
  | .ditchPhaseToggle => false
  | .fadeStep _ => false
  | .blinkPhaseEnd _ => false
  | .supplyEvaluation _ _ => false
  | .supplyLoss _ _ => false
  | .supplyReturn _ _ => false
  | .bridgingTimerExpires => false
  | .normalHoldExpires => false
  | .brownOut _ => false
  | .powerOn _ => false
  | .entryTestPassed _ _ => false
  | .pageWriteComplete _ _ _ => false
  | .strobePhaseAdvance _ => false

/-! ### The laws -/

/-- The law of the credit: 0..50,000 µs, and from the clear-channel check on at least the airtime that a transmission costs (R24, R29);
the counters stay within 65535 (R30), the frame counts within 255 (R7, R9), and the two shift registers are never 0 (R26, R156). -/
def CreditLaw (s : State) : Prop :=
  s.rpt.credit ≤ 50000 ∧ (s.rpt.activity = .checking ∨ s.rpt.activity = .backingOff → reportAirtime ≤ s.rpt.credit)
    ∧ s.rpt.counterA ≤ 65535 ∧ s.rpt.counterB ≤ 65535 ∧ s.rxc.accepted ≤ 255 ∧ s.rxc.dropped ≤ 255
    ∧ s.rpt.lfsr ≠ 0#16 ∧ s.lmp.lfsr ≠ 0#16

/-- The link is half-duplex: a report is on the air only while the part runs, and then no frame is in collection (R2, R165). -/
def HalfDuplexLaw (s : State) : Prop := s.rpt.activity = .sending → s.power = .running ∧ s.rxc.collecting = none

/-- There is a channel estimate, of 0..127, exactly while the receiver is on (R1 to R3). -/
def EstimateLaw (s : State) : Prop :=
  s.rxc.estimate.isSome = s.receiverOn ∧ ∀ e, s.rxc.estimate = some e → e ≤ 127

/-- The EEPROM's bytes keep their canonical form, and a write in flight stays within the image and within its page (R166, R171). -/
def MemoryLaw (s : State) : Prop :=
  memWf s.eeprom = true
    ∧ ∀ w, s.cfg.writing = some w → w.page ≤ crcPage ∧ w.offset + w.count ≤ 510 ∧ w.hasCrc = (w.page == crcPage)
        ∧ ∀ c ∈ w.inFlight, c.1 / 16 = w.page

/-- The image in use is clamped: clamping it again changes nothing (R168). -/
def ImageLaw (s : State) : Prop := clampImage s.cfg.image = s.cfg.image

/-- The peer table has 16 entries, each of another station (R34, R36, R37). -/
def TableLaw (s : State) : Prop :=
  s.ptb.entries.length = 16 ∧ ((s.ptb.entries.filterMap fun e => e.map Peer.station).Nodup)

/-- FAILSAFE is claimed exactly while a cause stands or its hold runs, and the hold runs only while no cause stands (R67, R68). -/
def FailsafeLaw (a : Aut) : Prop :=
  (a.failsafe.claimed = true ↔ causesEmpty a.causes = false ∨ a.hold ≠ none) ∧ (a.hold ≠ none → causesEmpty a.causes = true)

/-- LINK_LOST stands exactly while the DRIVER link is not UP, and a link without a bound throttle is UP and has no source; LEAD_LOST
stands while the LEAD link is LOST, and only while it is not UP (R18 to R20). That a link without a source is UP is the model's choice
(log entry 46). -/
def LinkLaw (s : State) : Prop :=
  (s.aut.causes.linkLost = true ↔ s.rxc.driverLink.state ≠ .up)
    ∧ (s.aut.driver.claimed = false → s.rxc.driverLink.state = .up ∧ s.rxc.driverLink.source = none)
    ∧ (s.rxc.leadLink.state = .lost → s.aut.causes.leadLost = true)
    ∧ (s.aut.causes.leadLost = true → s.rxc.leadLink.state ≠ .up)

/-- PARKED is always claimed, CONSIST exactly by a follower, and never together with SIGNAL (R51, R48, R66). -/
def ClaimLaw (s : State) : Prop :=
  s.aut.parked.claimed = true ∧ (s.aut.consist.claimed = true ↔ s.role = .follower)
    ∧ (s.aut.signal.claimed = true → s.role ≠ .follower)

/-- The authority laws together: they lean on one another. -/
def AuthorityLaw (s : State) : Prop := FailsafeLaw s.aut ∧ LinkLaw s ∧ ClaimLaw s

/-- The bridge drives only with a duty, with the supply not DEPLETED, outside COOL and outside the OVERCURRENT latch (R102, R108,
R110, R113). -/
def BridgeLaw (s : State) : Prop :=
  bridgeDrives s.mrg.bridge = true →
    1 ≤ s.mrg.duty ∧ s.sup.state ≠ .depleted ∧ s.mrg.cool = 0 ∧ s.cfg.overcurrent = false

/-- The duty stays within its effective limit, which is 0 while DEPLETED (R100, R105). -/
def DutyLaw (s : State) : Prop := s.mrg.duty ≤ s.dMaxEff

/-- The motor's quantities stay in their ranges (R88, R100, R103, R104, R109, R110, R113, R115). -/
def RangeLaw (s : State) : Prop :=
  s.spr.ref ≤ 16368 ∧ s.mrg.w ≤ 4092 ∧ s.mrg.y = s.mrg.w / 4 ∧ -64000 ≤ s.mrg.integral ∧ s.mrg.integral ≤ 64000
    ∧ s.mrg.window.length = 25 ∧ (∀ n ∈ s.mrg.window, n ≤ 4000) ∧ s.mrg.overRun ≤ 2 ∧ s.mrg.cool ≤ 25 ∧ s.mrg.tripCount ≤ 4
    ∧ (s.cfg.overcurrent = false → s.mrg.tripCount ≤ 3) ∧ s.mrg.stallRun ≤ 499 ∧ s.chg.phase < 65536 ∧ s.chg.count < 65536

/-- The queue holds at most eight triggers and one chuff among them; there are six voices, and CHUFF owns at most two (R130, R134,
R137). -/
def SoundLaw (s : State) : Prop :=
  s.snd.queue.length ≤ 8 ∧ s.snd.queue.countP (fun t => t.owner == .chuff) ≤ 1 ∧ s.snd.voices.length = 6
    ∧ s.snd.voices.countP ownedByChuff ≤ 2

/-- A held action of a map entry: an action, its function on, its scope met, and LEVEL or taken as LEVEL (R85, R117, R118). -/
def actionHeld (e : MapEntry) (role : ConsistRole) (on : Bool) : Prop :=
  e.action ≠ .none ∧ on = true ∧ (e.scope = .all ∨ role ≠ .follower) ∧ (e.mode = .level ∨ e.action ≠ .sound)

/-- Some entry with a state action is held (R122). -/
def stateHeld (s : State) (a : MapAction) : Prop :=
  ∃ n, n < 32 ∧ (mapEntry s.image n).action = a ∧ actionHeld (mapEntry s.image n) s.role (s.fEff.getLsbD n)

/-- While the part runs, FNM has evaluated the effective function set and the role as they stand: the held flags and the combined states
follow from them, and SPR has the shunting state (R57, R118, R119, R122). -/
def FunctionLaw (s : State) : Prop :=
  s.power = .running →
    s.fnm.last = s.fEff ∧ s.fnm.lastRole = s.role
      ∧ (∀ n, n < 32 → (s.fnm.held.getLsbD n = true ↔ actionHeld (mapEntry s.image n) s.role (s.fEff.getLsbD n)))
      ∧ (s.fnm.smokeEnable = true ↔ stateHeld s .smokeEnable) ∧ (s.fnm.shunting = true ↔ stateHeld s .shunting)
      ∧ (s.fnm.mute = true ↔ stateHeld s .mute) ∧ s.spr.shunting = s.fnm.shunting

/-- While the part runs, each of the eight lamps is lit exactly while its enable, direction and consist rules hold (R85, R155). -/
def LampLaw (s : State) : Prop :=
  s.power = .running →
    s.lmp.lamps.length = 8
      ∧ ∀ n, n < 8 →
        ((s.lamp n).lit = true ↔
          ((s.image.ctx s.head).lampMask.getLsbD n = true ∨ s.fEff.getLsbD (s.lampConfig n).enable = true)
            ∧ ((s.lampConfig n).dirRule = .fwd → s.spr.running = .forward)
            ∧ ((s.lampConfig n).dirRule = .rev → s.spr.running = .reverse)
            ∧ ((s.lampConfig n).consistRule = .leadOnly → s.role ≠ .follower)
            ∧ ((s.lampConfig n).consistRule = .endOnly → s.endFlag = true))

/-- The one-shot or hold of the entry of Fn, owner FUNCTION(n) (R121). -/
def functionPlay (im : Image) (hold : Bool) (n : Nat) : SoundAsk :=
  .play
    { hold := hold
      owner := .function n
      prio := (mapEntry im n).prio
      group := (mapEntry im n).group
      index := (mapEntry im n).index }

/-- What SND is asked when the functions change under one role: of the active entries with action SOUND, first those that go off, then those
that go on, each in ascending order. LEVEL stops and holds, RISE plays once at its going on, BOTH at either (R119 to R121). -/
def functionAsks (im : Image) (role : ConsistRole) (before after : FuncSet) : List SoundAsk :=
  let sounds := (List.range 32).filter fun n =>
    (mapEntry im n).action == .sound && ((mapEntry im n).scope == .all || role != .follower)
  ((sounds.filter fun n => before.getLsbD n && !after.getLsbD n).filterMap fun n =>
      match (mapEntry im n).mode with
      | .level => some (.stop (.function n))
      | .rise => none
      | .both => some (functionPlay im false n))
    ++ (sounds.filter fun n => !before.getLsbD n && after.getLsbD n).map fun n =>
      functionPlay im ((mapEntry im n).mode == .level) n

/-- Nothing waits at AUT for the end of an event: no release of SIGNAL, STALL or FAILSAFE is due, stop-reached stands as STOPPED has it, and
the functions are handed on. So stands a part between two events. -/
def Settled (s : State) : Prop := s.settleClaims s.head = s ∧ FunctionLaw s

/-- The heater is on only while its four conditions hold (R151). -/
def HeaterLaw (s : State) : Prop := s.smk.heater = true → s.heaterAllowed = true

/-- Every law of the part. -/
def Laws (s : State) : Prop :=
  CreditLaw s ∧ HalfDuplexLaw s ∧ EstimateLaw s ∧ MemoryLaw s ∧ ImageLaw s ∧ TableLaw s ∧ AuthorityLaw s ∧ BridgeLaw s ∧ DutyLaw s ∧ RangeLaw s
    ∧ SoundLaw s ∧ FunctionLaw s ∧ LampLaw s ∧ HeaterLaw s

/-- A law that every step keeps, whatever command stands in front (the queue itself being any). -/
def keptByEveryStep (law : State → Prop) : Prop := ∀ s t : State, law s → step s = .next t → law t

end Sys2Proof.Machine
end

