-- ==== Sys2Proof/Certificates/Slice0/Obligations.lean ====
section
/-! DEFINITION. The statements for the provers: the step and the reset, the laws of the whole part, the report's encoding, and for every
command the state it answers. -/

open Sys2Proof Sys2Proof.Machine

/-! ### The step and the reset -/

/-- A step takes the command at the front of the queue and gives it its effect on the state with the queue's rest. The queue is the
model's (log entry 1). -/
def Obligations.StepTakesTheFrontCommand : Prop :=
  ∀ (c : Instr) (rest : List Instr) (s : State), step { s with pending := c :: rest } = exec c { s with pending := rest }

/-- With no command waiting a part that does not run stands still, and a running one lets one millisecond pass: the clocks count, and
the expiries that fall due join the queue. This is the model's choice (log entry 6). -/
def Obligations.IdleStepPassesOneMillisecond : Prop :=
  ∀ s : State, s.pending = [] →
    (s.power ≠ .running → step s = .next s)
      ∧ (s.power = .running →
          ∃ t, step s = .next t ∧ t.pending = s.expiries
            ∧ t.rpt.sinceStart = s.rpt.sinceStart.map (· + 1) ∧ t.rpt.credit = s.rpt.credit ∧ t.rpt.due = s.rpt.due
            ∧ (s.rxc.driverLink.source ≠ none → s.rxc.driverLink.age + 1 < s.image.windows.window →
                t.rxc.driverLink.age = s.rxc.driverLink.age + 1)
            ∧ (∀ n, s.aut.hold = some n → 1 < n → t.aut.hold = some (n - 1))
            ∧ reachesOnly [.pending, .rxc, .rpt, .aut, .csu, .mrg, .chg, .snd, .smk, .lmp, .sup] s t)

/-- The reset state holds these start values: PARKED alone claimed, FORWARD, no causes; the reference, the duty and the average current 0,
STOPPED; the report transmitter in HOLDOFF with no credit; no RSSI, no peers, no records; the supply NORMAL, the smoke OFF, the flicker
register 0xACE1, the chuff generator at 0, the squeal latch clear, no service status and no latched fault. That the reset state is a
completed start is the model's choice (log entry 1), as is what an empty supervision record holds (log entry 46). -/
def Obligations.ResetHoldsTheStartValues : Prop :=
  claimList State.reset.aut = [.parked] ∧ State.reset.aut.requested = .forward ∧ causesEmpty State.reset.aut.causes = true
    ∧ State.reset.spr = { ref := 0, running := .forward, shunting := false, braking := false, stopped := true }
    ∧ State.reset.mrg.duty = 0 ∧ State.reset.mrg.bridge = .off ∧ averageCurrent State.reset.mrg.window = 0
    ∧ State.reset.rpt.activity = .holdoff ∧ State.reset.rpt.due = false ∧ State.reset.rpt.credit = 0
    ∧ State.reset.rpt.sinceStart = none ∧ State.reset.rxc.rssi = 255 ∧ State.reset.rxc.driverLink.source = none
    ∧ State.reset.ptb.entries = List.replicate 16 none ∧ State.reset.tkm.record = none ∧ State.reset.csu.record = none
    ∧ State.reset.sup.state = .normal ∧ State.reset.smk.state = .off ∧ State.reset.lmp.lfsr = 0xACE1#16
    ∧ State.reset.chg.phase = 0 ∧ State.reset.chg.count = 0 ∧ State.reset.snd.squealLatch = false
    ∧ State.reset.cfg.status = .none ∧ State.reset.cfg.overcurrent = false ∧ State.reset.cfg.overtemp = false

/-- The state right after reset meets every law of the part. That the reset state is a completed start is the model's choice, and a claim
about it leans on that choice (log entry 1). That an empty supervision record is UP is the model's choice too (log entry 46). -/
def Obligations.ResetMeetsEveryLaw : Prop := Laws State.reset

/-! ### The laws of the part, kept by every step -/

/-- Every step keeps these laws: the credit, the counters, the frame counts and the backoff and flicker registers stay in their ranges,
the credit holds a report's airtime while the transmitter checks the channel or backs off, a report is on the air only in a running part
with no frame in collection, and a channel estimate of 0..127 stands exactly while the receiver is on. The estimate's value is free
where no command brings it (log entry 28). -/
def Obligations.EveryStepKeepsTheTransmitterLaws : Prop :=
  keptByEveryStep fun s => CreditLaw s ∧ HalfDuplexLaw s ∧ EstimateLaw s

/-- Every step keeps the EEPROM in canonical form and a write in flight inside its page and the image. -/
def Obligations.EveryStepKeepsTheMemoryLaw : Prop := keptByEveryStep MemoryLaw

/-- Every step keeps sixteen peer entries, no two of one station; and while the part runs no command evicts or empties the entry of a
station that DRIVER's claim, the consist record or the last-passed beacon record names. -/
def Obligations.EveryStepKeepsThePeerTableLaw : Prop :=
  (keptByEveryStep TableLaw)
    ∧ (∀ (c : Instr) (s t : State) (id : Nat), exec c s = .next t → t.power = .running → s.power = .running →
      s.pinned id = true → (entryOf id s.ptb.entries).isSome = true → (entryOf id t.ptb.entries).isSome = true)

/-- Every step keeps the laws of the claim list, of FAILSAFE, of supervision and of SIGNAL and CONSIST; after every step of a running part
the functions have been handed on as they stand, with each entry's held flag, the combined smoke enable, shunting and mute states and
SPR's shunting flag that follow from them; and each of the eight lamps is lit exactly while its enable rule or the lamp override, its
direction rule and its consist rule hold. That a link without a source is UP is the model's choice (log entry 46). -/
def Obligations.EveryStepKeepsTheAuthorityLaw : Prop :=
  keptByEveryStep fun s => AuthorityLaw s ∧ FunctionLaw s ∧ LampLaw s

/-- Every step keeps the law of the bridge: it drives only with a duty, and not while DEPLETED, in COOL or latched; and the duty stays
within its effective limit. -/
def Obligations.EveryStepKeepsTheBridgeLaw : Prop := keptByEveryStep fun s => BridgeLaw s ∧ DutyLaw s

/-- Every step keeps the image in use clamped and repaired, a start with any stored bytes included, and the motor's and the chuff
generator's quantities in their ranges; the reference's range leans on the clamped image. -/
def Obligations.EveryStepKeepsTheImageAndMotorRanges : Prop :=
  keptByEveryStep fun s => ImageLaw s ∧ RangeLaw s

/-- Every step keeps the law of sound resources and the law of the heater. -/
def Obligations.EveryStepKeepsTheSoundAndHeaterLaws : Prop :=
  keptByEveryStep fun s => SoundLaw s ∧ HeaterLaw s

/-! ### What only some commands can do -/

/-- While a report is on the air a header or a frame has no effect at all. A stopped part takes nothing but POWER_ON, and the wheel sensor's
pin follows its level: that a stopped part takes no other command and that the pin follows while it is off are the model's choices (log
entries 8, 21 and 22). -/
def Obligations.SendingAndStoppedPartsHearNothing : Prop :=
  (∀ (c : Instr) (s : State), s.power = .running → s.rpt.activity = .sending → fromTheAir c = true → exec c s = .next s)
    ∧ (∀ (c : Instr) (s : State), s.power = .off →
      (∀ level, c = .wheelSensorEdge level → exec c s = .next { s with chg := { s.chg with sensor := level } })
        ∧ ((∀ level, c ≠ .wheelSensorEdge level) → (∀ answered, c ≠ .powerOn answered) → exec c s = .next s))

/-- `ref` rises only in a control period, never past sixteen times the effective limit, and never while the supply is BRIDGING or
DEPLETED, FAILSAFE is active, the regulator is in COOL or the live zero-lock is set. -/
def Obligations.ReferenceRisesOnlyUnderItsLaws : Prop :=
  ∀ (c : Instr) (s t : State), exec c s = .next t → s.spr.ref < t.spr.ref →
    (c = .controlPeriod ∨ c = .stallDetected) ∧ t.spr.ref ≤ 16 * s.effectiveLimit ∧ s.sup.state = .normal
      ∧ s.head ≠ .failsafe ∧ s.mrg.cool = 0 ∧ s.aut.driverLive.zeroLock = false

/-- The running direction changes only in a control period that leaves `ref` at 0, or at a brown-out or a start, which make it FORWARD. That
the start values stand from the brown-out and from the beginning of the start sequence on is the model's choice (log entries 21
and 22). -/
def Obligations.DirectionTurnsOnlyAtReferenceZero : Prop :=
  ∀ (c : Instr) (s t : State), exec c s = .next t → t.spr.running ≠ s.spr.running →
    t.spr.ref = 0
      ∧ ((c = .controlPeriod ∨ c = .stallDetected) ∧ t.spr.running = s.aut.requested
          ∨ t.power ≠ .running ∧ t.spr.running = .forward
          ∨ s.power = .starting ∧ t.spr.running = .forward)

/-- The image in use changes only at a start, and then becomes the clamped image the EEPROM holds or the clamped defaults; no command
changes the flash. -/
def Obligations.ConfigurationChangesOnlyAtAStart : Prop :=
  ∀ (c : Instr) (s t : State), exec c s = .next t →
    t.flash = s.flash
      ∧ (t.cfg.image ≠ s.cfg.image → t.power = .starting ∧ ∃ answered, t.cfg.image = chosenImage t.eeprom answered)

/-- A latched fault leaves a running part's fault set only by CLEAR_FAULTS, or by the part's stopping or starting again. -/
def Obligations.LatchedFaultsAreClearedOnlyByService : Prop :=
  ∀ (c : Instr) (s t : State), exec c s = .next t → s.power = .running →
    (s.cfg.overcurrent = true ∧ t.cfg.overcurrent = false ∨ s.cfg.overtemp = true ∧ t.cfg.overtemp = false) →
    t.power ≠ .running ∨ ∃ payload crc, c = .serviceClearFaults payload crc

/-! ### The report -/

/-- A report's bytes read back by another FS460 of the same layout pass its receive tests and give the published values; its last
seven bytes are the frames accepted, the two diagnostic counters, the frames dropped and the RSSI. -/
def Obligations.ReportReadsBackAsPublished : Prop :=
  ∀ (s : State) (other : Nat),
    s.ownId ≠ other → 1 ≤ s.ownId → s.ownId ≤ 3999 → s.image.identity.layout ≤ 15 → s.publishedSection ≤ 4095 →
      s.publishedNext ≤ 4095 → s.consistId ≤ 4095 → s.spr.ref ≤ 16368 → s.mrg.y ≤ 1023 →
      (∀ p, s.position = some p → p ≤ 5) →
    headerFails other s.reportHeader = false
      ∧ dropReason s.image.identity.layout s.reportHeader s.reportPayload
          (crc16 (headerList s.reportHeader ++ s.reportPayload)) = none
      ∧ s.reportBytes = headerList s.reportHeader ++ s.reportPayload
          ++ bytes16 (crc16 (headerList s.reportHeader ++ s.reportPayload)).toNat
      ∧ headerKind s.reportHeader = 4 ∧ headerSource s.reportHeader = s.ownId ∧ headerDest s.reportHeader = 4095
      ∧ headerWords s.reportHeader = 9 ∧ headerCode s.reportHeader = s.periodCode
      ∧ locoData s.reportPayload =
          { sect := s.publishedSection
            aspect := s.aspectHeld
            nextSect := s.publishedNext
            level := s.head.code
            dir := s.spr.running
            refSpeed := s.spr.ref / 16
            stopped := s.spr.stopped
            zeroLock := s.aut.driverLive.zeroLock
            lead := s.role == .lead
            follower := s.role == .follower
            smokeReady := smokeReady s.smk.state
            speed := s.mrg.y
            supply := supplyCode s.sup.state
            status := statusCode s.cfg.status
            consistId := s.consistId
            position := positionCode s.position
            faults := s.faultSummary }
      ∧ s.reportPayload.drop 11 =
          toByte s.rxc.accepted
            :: (bytes16 s.rpt.counterA ++ bytes16 s.rpt.counterB ++ [toByte s.rxc.dropped, toByte s.rxc.rssi])

/-! ### The receive chain -/

/-- A header on the own channel opens the collection of its payload where the HEADER test passes; otherwise the frame is dropped, with
the dropped count rising, and either counter where it selects the reason HEADER. A header on another channel is not heard. -/
def Obligations.HeaderTestDecidesCollection : Prop :=
  ∀ (ch : Fin 16) (b : HeaderBytes) (l : Levels) (s : State),
    s.power = .running → s.rpt.activity ≠ .sending → s.rxc.collecting = none →
    (ch.val ≠ s.image.identity.channel → exec (.headerComplete ch b l) s = .next s)
      ∧ (ch.val = s.image.identity.channel →
          b.b5 = b.b0 ^^^ b.b1 ^^^ b.b2 ^^^ b.b3 ^^^ b.b4 ^^^ 0x5A#8 ∧ headerSource b ≠ 0 ∧ headerSource b < 4000
            ∧ ¬(headerKind b = 4 ∧ headerSource b = s.ownId) →
          exec (.headerComplete ch b l) s = .next { s with rxc := { s.rxc with collecting := some ⟨b, l⟩ } })
      ∧ (ch.val = s.image.identity.channel →
          ¬(b.b5 = b.b0 ^^^ b.b1 ^^^ b.b2 ^^^ b.b3 ^^^ b.b4 ^^^ 0x5A#8 ∧ headerSource b ≠ 0 ∧ headerSource b < 4000
            ∧ ¬(headerKind b = 4 ∧ headerSource b = s.ownId)) →
          answers (.headerComplete ch b l) s fun t =>
            t.rxc = { s.rxc with dropped := min (s.rxc.dropped + 1) 255 } ∧ reachesOnly [.rxc, .rpt] s t
              ∧ counted 2 (fun mask => mask.getLsbD 0) s t)

/-- A frame that fails one of tests 2 to 5 is dropped: hunting resumes, the dropped count rises, either counter rises where it selects the
reason, and the frame is dispatched to no block; a kind outside 1..5 always fails one. A frame of kind 1 to 5 that passes every test is
accepted and counted, and either counter rises where it selects its kind; an accepted RESTART alone is left out here, because its start
clears the counts. What else may change in either case is what the end of the event settles at AUT and the blocks it hands on to. -/
def Obligations.ReceiveTestsDropOrAccept : Prop :=
  (∀ (s : State) (h : Collected) (payload : List Byte) (crc : BitVec 16) (ans : Bool),
      s.power = .running → s.rpt.activity ≠ .sending → s.rxc.collecting = some h →
        payload.length = 2 * headerWords h.bytes →
      ((headerKind h.bytes < 1 ∨ 5 < headerKind h.bytes) →
        dropReason s.image.identity.layout h.bytes payload crc = some .layout
          ∨ dropReason s.image.identity.layout h.bytes payload crc = some .kind)
        ∧ (dropReason s.image.identity.layout h.bytes payload crc ≠ none →
            answers (frameRow (headerKind h.bytes) payload crc ans) s fun t =>
              t.rxc = { s.rxc with collecting := none, dropped := min (s.rxc.dropped + 1) 255 }
                ∧ (∀ r, dropReason s.image.identity.layout h.bytes payload crc = some r →
                    counted 2
                      (fun mask =>
                        mask.getLsbD
                          (match r with
                            | .header => 0
                            | .layout => 1
                            | .kind => 2
                            | .length => 3
                            | .crc => 4))
                      s t)
                ∧ reachesOnly (.rxc :: settlingBlocks) s t ∧ motionKept s t)
        ∧ ((headerKind h.bytes < 1 ∨ 5 < headerKind h.bytes) →
            answers (.undefinedKindFrame payload crc) s fun t =>
              t.rxc = { s.rxc with collecting := none, dropped := min (s.rxc.dropped + 1) 255 }
                ∧ reachesOnly (.rxc :: settlingBlocks) s t ∧ motionKept s t))
    ∧ (∀ (s : State) (kind : Nat) (h : Collected) (payload : List Byte) (crc : BitVec 16) (ans : Bool),
      arrives kind s h payload crc → 1 ≤ kind → kind ≤ 5 →
        ¬(kind = 5 ∧ serviceOp payload = 3 ∧ headerDest h.bytes = s.ownId ∧ s.spr.stopped = true
          ∧ (s.head = .parked ∨ s.head = .driver) ∧ s.cfg.writing = none) →
      answers (frameRow kind payload crc ans) s fun t =>
        t.rxc.accepted = min (s.rxc.accepted + 1) 255 ∧ t.rxc.dropped = s.rxc.dropped ∧ t.rxc.collecting = none
          ∧ counted 1 (fun mask => mask.getLsbD (kind - 1)) s t)

/-! ### Throttles -/

/-- A throttle frame to the own ID binds a locomotive that stands under PARKED: DRIVER is claimed and started with the frame's values,
zero-lock set where the step is not 0, its link UP on the source. -/
def Obligations.ThrottleBindsUnderParked : Prop :=
  ∀ (s : State) (h : Collected) (payload : List Byte) (crc : BitVec 16),
    arrives 1 s h payload crc → headerDest h.bytes = s.ownId → s.head = .parked →
      (throttleData payload).release = false → (throttleData payload).emergency = false →
    answers (.throttleFrame payload crc) s fun t =>
      t.head = .driver ∧ t.aut.driver.claimed = true ∧ t.aut.driver.started = true
        ∧ t.aut.driver.source = some (headerSource h.bytes)
        ∧ t.aut.driverLive.step = (throttleData payload).step ∧ t.aut.driverLive.dir = (throttleData payload).dir
        ∧ t.aut.driverLive.funcs = (throttleData payload).funcs
        ∧ (t.aut.driverLive.zeroLock = true ↔ (throttleData payload).step ≠ 0)
        ∧ t.rxc.driverLink = { source := some (headerSource h.bytes), state := .up, age := 0 }
        ∧ t.rxc.rssi = frameRssi h.levels ∧ t.aut.requested = (throttleData payload).dir
        ∧ reachesOnly (.rxc :: .ptb :: .tkm :: settlingBlocks) s t ∧ motionKept s t

/-- A frame of the bound throttle updates the live step, direction and functions, is a valid frame for its link, and at the head clears
zero-lock where its step is 0. At the head the function map is evaluated in the event, from the effective set before it to the set after
it: goings-off first, then goings-on, each in ascending order of the functions. An active LEVEL entry of a sound is stopped at its going
off and held from its going on; RISE plays once at the going on, BOTH at either change. Smoke goes on, to WARMING or SHED by the supply,
and OFF with the combined smoke enable. -/
def Obligations.BoundThrottleUpdatesDriver : Prop :=
  ∀ (s : State) (h : Collected) (payload : List Byte) (crc : BitVec 16),
    arrives 1 s h payload crc → forDriver s h → boundTo s (headerSource h.bytes) →
      (throttleData payload).release = false → (throttleData payload).emergency = false →
    answers (.throttleFrame payload crc) s fun t =>
      t.aut.driver.claimed = true ∧ t.aut.driver.source = some (headerSource h.bytes)
        ∧ t.aut.driverLive.step = (throttleData payload).step ∧ t.aut.driverLive.dir = (throttleData payload).dir
        ∧ t.aut.driverLive.funcs = (throttleData payload).funcs
        ∧ (s.head = .driver →
            t.head = .driver ∧ t.aut.requested = (throttleData payload).dir
              ∧ t.aut.driverLive.zeroLock = (s.aut.driverLive.zeroLock && (throttleData payload).step != 0))
        ∧ (s.head = .driver → FunctionLaw s →
            t.snd = ((functionAsks s.image s.role s.fEff t.fEff).foldl State.ask s).snd ∧ FunctionLaw t
              ∧ t.smk.state =
                  (if t.fnm.smokeEnable = s.fnm.smokeEnable then s.smk.state
                    else if t.fnm.smokeEnable = false then .off
                    else if s.smk.state ≠ .off then s.smk.state
                    else if s.sup.state = .normal then .warming else .shed))
        ∧ t.rxc.driverLink.source = some (headerSource h.bytes) ∧ t.rxc.driverLink.age = 0
        ∧ t.rxc.driverLink.state = (if s.rxc.driverLink.state = .lost then .regaining else .up)
        ∧ t.rxc.rssi = frameRssi h.levels
        ∧ reachesOnly (.rxc :: .ptb :: .tkm :: settlingBlocks) s t ∧ motionKept s t

/-- A second throttle is turned away whole while the bound one's link is UP or REGAINING: no field of DRIVER changes, whatever the frame's
flags, and either counter rises where it selects CONTENTION. While the link is LOST its frame rebinds DRIVER: zero-lock is set whatever
the step, the link is REGAINING on the new source, and LINK_LOST stays. -/
def Obligations.OtherThrottlesContendOrRebind : Prop :=
  (∀ (s : State) (h : Collected) (payload : List Byte) (crc : BitVec 16) (bound : Nat),
      arrives 1 s h payload crc → forDriver s h → boundTo s bound → bound ≠ headerSource h.bytes →
        s.rxc.driverLink.state ≠ .lost → s.head = .driver →
      answers (.throttleFrame payload crc) s fun t =>
        t.aut.driver = s.aut.driver ∧ t.aut.driverLive = s.aut.driverLive ∧ t.head = .driver
          ∧ t.rxc.driverLink = s.rxc.driverLink ∧ t.rxc.rssi = s.rxc.rssi
          ∧ counted 14 (fun _ => true) s t
          ∧ reachesOnly (.rxc :: .ptb :: .tkm :: settlingBlocks) s t ∧ motionKept s t)
    ∧ (∀ (s : State) (h : Collected) (payload : List Byte) (crc : BitVec 16) (bound : Nat),
      arrives 1 s h payload crc → forDriver s h → boundTo s bound → bound ≠ headerSource h.bytes →
        s.rxc.driverLink.state = .lost → s.aut.causes.linkLost = true → s.aut.hold = none →
        (throttleData payload).release = false → (throttleData payload).emergency = false →
      answers (.throttleFrame payload crc) s fun t =>
        t.aut.driver.source = some (headerSource h.bytes) ∧ t.aut.driver.claimed = true
          ∧ t.aut.driverLive.step = (throttleData payload).step ∧ t.aut.driverLive.dir = (throttleData payload).dir
          ∧ t.aut.driverLive.funcs = (throttleData payload).funcs ∧ zeroLockNow t.head t.aut = true
          ∧ t.rxc.driverLink = { source := some (headerSource h.bytes), state := .regaining, age := 0 }
          ∧ t.aut.causes.linkLost = true
          ∧ reachesOnly (.rxc :: .ptb :: .tkm :: settlingBlocks) s t ∧ motionKept s t)

/-- RELEASE from the bound throttle returns DRIVER, its live data and its link to their start values and takes LINK_LOST out of the
cause set. That a link without a source holds UP and age 0 is the model's choice (log entry 46). -/
def Obligations.ReleaseFreesTheLocomotive : Prop :=
  ∀ (s : State) (h : Collected) (payload : List Byte) (crc : BitVec 16),
    arrives 1 s h payload crc → forDriver s h → boundTo s (headerSource h.bytes) →
      (throttleData payload).release = true → (throttleData payload).emergency = false →
    answers (.throttleFrame payload crc) s fun t =>
      t.aut.driver = {} ∧ t.aut.driverLive = {} ∧ t.head ≠ .driver
        ∧ t.rxc.driverLink = { source := none, state := .up, age := 0 }
        ∧ t.rxc.rssi = 255 ∧ t.aut.causes.linkLost = false
        ∧ reachesOnly (.rxc :: .ptb :: .tkm :: settlingBlocks) s t ∧ motionKept s t

/-- An EMERGENCY frame of the bound throttle at the head stops the locomotive in its event: `ref` 0, STOPPED judged afresh, the integral
cleared, the brake hold set, the bridge braked for the rest of a drive phase that no latch, COOL or DEPLETED governs, and zero-lock
set over the stored step. The requested direction is the frame's, also where the stop begins STOPPED and a membership that waited in
the slot claims FAILSAFE for MEMBER: the new head leaves what DRIVER requested unchanged (R73). Where the application makes the
locomotive a follower, CONSIST is the head and its follow direction is requested. With an empty slot DRIVER stays the head and CSU is
left as it was. That it brakes too in a phase in which the latch was cleared is the model's choice (log entry 44). -/
def Obligations.EmergencyStopsInItsEvent : Prop :=
  ∀ (s : State) (h : Collected) (payload : List Byte) (crc : BitVec 16),
    arrives 1 s h payload crc → forDriver s h → boundTo s (headerSource h.bytes) → s.head = .driver →
      (throttleData payload).release = false → (throttleData payload).emergency = true →
    answers (.throttleFrame payload crc) s fun t =>
      t.spr.ref = 0 ∧ t.spr.braking = (s.spr.braking || decide (0 < s.spr.ref)) ∧ t.spr.running = s.spr.running
        ∧ t.spr.stopped = decide (s.mrg.y ≤ s.image.traction.stopThreshold)
        ∧ t.mrg.integral = 0 ∧ t.mrg.brakeHold = true ∧ t.mrg.y = s.mrg.y ∧ t.mrg.cool = s.mrg.cool
        ∧ (if s.mrg.inDrive = true ∧ s.cfg.overcurrent = false ∧ s.mrg.cool = 0 ∧ s.sup.state ≠ .depleted
            then t.mrg.bridge = .brake ∧ t.mrg.duty = 0
            else t.mrg.bridge = s.mrg.bridge ∧ t.mrg.duty = s.mrg.duty)
        ∧ zeroLockNow t.head t.aut = true ∧ t.aut.driverLive.step = (throttleData payload).step
        ∧ t.aut.requested = (if t.head = .consist then t.aut.consistLive.dir else (throttleData payload).dir)
        ∧ reachesOnly (.rxc :: .ptb :: .tkm :: .mrg :: .csu :: settlingBlocks) s t
        ∧ (s.csu.slot = .empty → t.head = .driver ∧ blockKept s t .csu)

/-- At a follower a throttle frame to the consist ID sets CONSIST's function set. It touches nothing of DRIVER, neither its binding nor its
functions, step, direction or zero-lock, whatever the frame's flags, and no CONTENTION is counted. DRIVER is said to stay whole where the
claim list stands as its law has it, so that DRIVER neither is nor becomes the head. -/
def Obligations.FollowerTakesTheConsistFunctions : Prop :=
  ∀ (s : State) (h : Collected) (payload : List Byte) (crc : BitVec 16),
    arrives 1 s h payload crc → s.role = .follower → s.consistId ≠ 0 → headerDest h.bytes = s.consistId →
      headerDest h.bytes ≠ s.ownId →
    answers (.throttleFrame payload crc) s fun t =>
      t.aut.consistLive.funcs = (throttleData payload).funcs ∧ t.aut.driver.claimed = s.aut.driver.claimed
        ∧ t.aut.driver.source = s.aut.driver.source ∧ t.aut.driverLive.funcs = s.aut.driverLive.funcs
        ∧ (ClaimLaw s → t.aut.driver = s.aut.driver ∧ t.aut.driverLive = s.aut.driverLive)
        ∧ counted 14 (fun _ => false) s t
        ∧ reachesOnly (.rxc :: .ptb :: .tkm :: settlingBlocks) s t ∧ motionKept s t

/-! ### Consists -/

/-- A CONSIST frame that gives a moving locomotive another membership puts it into the pending-change slot; the membership in force
stays. -/
def Obligations.ConsistChangeWaitsWhileMoving : Prop :=
  ∀ (s : State) (h : Collected) (payload : List Byte) (crc : BitVec 16),
    arrives 2 s h payload crc → s.spr.stopped = false →
      4000 ≤ (consistData payload).consistId → (consistData payload).consistId ≤ 4094 →
      (memberIndex s.ownId (normalMembers (consistData payload).members)).isSome = true →
      s.csu.record ≠ some ⟨(consistData payload).consistId, normalMembers (consistData payload).members⟩ →
    answers (.consistFrame payload crc) s fun t =>
      t.csu = { s.csu with
          slot := .holds (some ⟨(consistData payload).consistId, normalMembers (consistData payload).members⟩) }
        ∧ reachesOnly (.rxc :: .csu :: settlingBlocks) s t ∧ motionKept s t

/-- A standing locomotive in no consist that a CONSIST frame lists behind its lead joins at once as a follower: CONSIST is claimed on the
lead at follow speed 0, SIGNAL released, and the LEAD link REGAINING on the lead. Listed first it takes the lead at once: one watch for
each other member, its grace timer running. A standing member that a frame of its own consist lists no more leaves: a follower's CONSIST
is released, its LEAD link emptied and LEAD_LOST removed, and a DRIVER that becomes the head does so under zero-lock; a lead's watches and
MEMBER are removed. That an emptied link holds UP and age 0 is the model's choice (log entry 46). -/
def Obligations.StandingLocomotiveTakesItsPlace : Prop :=
  (∀ (s : State) (h : Collected) (payload : List Byte) (crc : BitVec 16) (lead : Member) (k : Nat),
      arrives 2 s h payload crc → s.spr.stopped = true → s.csu.record = none → s.aut.consist.claimed = false →
        4000 ≤ (consistData payload).consistId → (consistData payload).consistId ≤ 4094 →
        (normalMembers (consistData payload).members).head? = some lead →
        memberIndex s.ownId (normalMembers (consistData payload).members) = some (k + 1) →
      answers (.consistFrame payload crc) s fun t =>
        t.csu.record = some ⟨(consistData payload).consistId, normalMembers (consistData payload).members⟩
          ∧ t.csu.slot = .empty ∧ t.csu.lastReported = none ∧ t.role = .follower
          ∧ t.aut.consist.claimed = true ∧ t.aut.consist.source = some lead.id ∧ t.aut.signal.claimed = false
          ∧ (s.aut.failsafe.claimed = false →
              t.head = .consist ∧ t.target = .speed 0 ∧ t.aut.requested = s.spr.running)
          ∧ t.rxc.leadLink = { source := some lead.id, state := .regaining, age := 0 }
          ∧ reachesOnly (.rxc :: .csu :: .tkm :: settlingBlocks) s t ∧ motionKept s t)
    ∧ (∀ (s : State) (h : Collected) (payload : List Byte) (crc : BitVec 16),
      arrives 2 s h payload crc → s.spr.stopped = true → s.csu.record = none → s.csu.watches = [] →
        4000 ≤ (consistData payload).consistId → (consistData payload).consistId ≤ 4094 →
        memberIndex s.ownId (normalMembers (consistData payload).members) = some 0 →
      answers (.consistFrame payload crc) s fun t =>
        t.csu.record = some ⟨(consistData payload).consistId, normalMembers (consistData payload).members⟩
          ∧ t.role = .lead ∧ t.csu.slot = .empty
          ∧ t.csu.watches =
              ((normalMembers (consistData payload).members).filter fun m => m.id != s.ownId).map
                (fun m => ⟨m.id, some s.image.windows.consistWindow⟩)
          ∧ t.aut.consist.claimed = s.aut.consist.claimed ∧ t.rxc.leadLink = s.rxc.leadLink
          ∧ reachesOnly (.rxc :: .csu :: .tkm :: settlingBlocks) s t ∧ motionKept s t)
    ∧ (∀ (s : State) (h : Collected) (payload : List Byte) (crc : BitVec 16),
      arrives 2 s h payload crc → s.spr.stopped = true → 4000 ≤ s.consistId → s.consistId ≤ 4094 →
        (consistData payload).consistId = s.consistId →
        memberIndex s.ownId (normalMembers (consistData payload).members) = none →
      answers (.consistFrame payload crc) s fun t =>
        t.csu.record = none ∧ t.csu.slot = .empty ∧ t.role = .none
          ∧ (s.role = .follower →
              t.aut.consist.claimed = false ∧ t.csu.watches = s.csu.watches ∧ t.csu.lastReported = none
                ∧ t.rxc.leadLink = { source := none, state := .up, age := 0 } ∧ t.aut.causes.leadLost = false
                ∧ t.aut.causes.member = false
                ∧ (s.head = .consist → s.aut.driver.claimed = true →
                    t.head = .driver ∧ t.aut.driverLive.zeroLock = true
                      ∧ t.aut.driverLive.step = s.aut.driver.saved.target))
          ∧ (s.role = .lead →
              t.csu.watches = [] ∧ t.aut.causes.member = false ∧ t.rxc.leadLink = s.rxc.leadLink
                ∧ t.aut.consist.claimed = s.aut.consist.claimed)
          ∧ reachesOnly (.rxc :: .csu :: .tkm :: settlingBlocks) s t ∧ motionKept s t)

/-! ### Beacons -/

/-- A near frame of a beacon other than the last-passed one passes it: the record, the signal limit and the occupancy limit follow, the
zones follow its flags, and SIGNAL is claimed for a STOP aspect or a STATION beacon at a locomotive that follows nobody, and released
otherwise; under a FAILSAFE whose hold does not run, a claim waits below it, its saved part written
from the live data that the claim set. Where no SIGNAL comes or goes, so that the head stays, the
zone's sounds are asked for in their order (the bell that ends, the horn, the bell that begins; the queue is said for a busy port and room
for both), and the smoke goes to ZONE_HOLD with NO_SMOKE and leaves it without. -/
def Obligations.PassingABeacon : Prop :=
  ∀ (s : State) (h : Collected) (payload : List Byte) (crc : BitVec 16),
    arrives 3 s h payload crc → s.image.windows.nearThreshold ≤ frameRssi h.levels →
      (∀ r, s.tkm.record = some r → r.beacon ≠ headerSource h.bytes) →
    answers (.beaconFrame payload crc) s fun t =>
      t.tkm.record = some (passedRecord (headerSource h.bytes) (beaconData payload))
        ∧ t.publishedSection = (beaconData payload).sect ∧ t.publishedNext = (beaconData payload).nextSect
        ∧ t.tkm.signalLimit =
            (match (beaconData payload).aspect with
              | .clear => none
              | .approach => some (beaconData payload).limitStep
              | .restricted => some (min (beaconData payload).limitStep s.image.windows.restrictedStep)
              | .stop => some (min (beaconData payload).limitStep s.image.windows.restrictedStep))
        ∧ t.tkm.noSmoke = (beaconData payload).flags.noSmoke ∧ t.tkm.bellZone = (beaconData payload).flags.bellZone
        ∧ t.tkm.quiet = (beaconData payload).flags.quiet ∧ occupancyTested s t
        ∧ (s.aut.failsafe.claimed = true → s.aut.hold = none → s.aut.causes.stall = false →
            t.head = .failsafe
              ∧ (if s.role ≠ .follower ∧ ((beaconData payload).aspect = .stop ∨ (beaconData payload).kind = .station)
                then t.aut.signal.claimed = true ∧ t.aut.signal.source = some (headerSource h.bytes)
                  ∧ t.aut.signal.saved.stop =
                      { reached := false
                        dwell :=
                          if (beaconData payload).kind = .station
                            then some (if (beaconData payload).dwell = 0 then 1000 else (beaconData payload).dwell * 1000)
                            else none
                        waitClear := (beaconData payload).aspect == .stop }
                  ∧ (s.aut.signal.claimed = false → t.aut.signalLive = t.aut.signal.saved.stop)
                else t.aut.signal.claimed = false))
        ∧ (FunctionLaw s → s.aut.failsafe.claimed = false → s.aut.signal.claimed = false →
            ¬(s.role ≠ .follower ∧ ((beaconData payload).aspect = .stop ∨ (beaconData payload).kind = .station)) →
            t.smk.state =
                (if (beaconData payload).flags.noSmoke = true
                  then (if s.smk.state = .ready ∨ s.smk.state = .idleHold then .zoneHold else s.smk.state)
                  else if s.smk.state = .zoneHold then (if s.smk.long then .idleHold else .ready)
                  else s.smk.state)
              ∧ t.snd.voices =
                  (if s.tkm.bellZone = true ∧ (beaconData payload).flags.bellZone = false
                    then s.snd.voices.map (stopVoice .zone) else s.snd.voices)
              ∧ (s.snd.port ≠ .idle → s.snd.queue.length ≤ 6 →
                  t.snd.queue =
                    (if s.tkm.bellZone = true ∧ (beaconData payload).flags.bellZone = false
                        then s.snd.queue.filter fun q => q.owner != .zone else s.snd.queue)
                      ++ (if (beaconData payload).flags.hornPoint
                        then
                          [{ hold := false
                             owner := .zone
                             prio := s.image.sound.zonePrio
                             group := s.image.sound.hornGroup
                             index := s.image.sound.hornIndex }]
                        else [])
                      ++ (if s.tkm.bellZone = false ∧ (beaconData payload).flags.bellZone = true
                        then
                          [{ hold := true
                             owner := .zone
                             prio := s.image.sound.zonePrio
                             group := s.image.sound.bellGroup
                             index := s.image.sound.bellIndex }]
                        else [])))
        ∧ (s.aut.failsafe.claimed = false →
           if s.role ≠ .follower ∧ ((beaconData payload).aspect = .stop ∨ (beaconData payload).kind = .station)
            then t.head = .signal ∧ t.aut.signal.source = some (headerSource h.bytes)
              ∧ t.aut.signalLive =
                  { reached := s.spr.stopped
                    dwell :=
                      if (beaconData payload).kind = .station
                        then some (if (beaconData payload).dwell = 0 then 1000 else (beaconData payload).dwell * 1000)
                        else none
                    waitClear := (beaconData payload).aspect == .stop }
            else t.aut.signal.claimed = false)
        ∧ reachesOnly (.rxc :: .ptb :: .tkm :: settlingBlocks) s t ∧ motionKept s t

/-- A frame of the last-passed beacon, however weak, updates its aspect, limit step, next section, dwell and flags and keeps the rest of
the record, and the occupancy is tested for the next section; a weak frame of another beacon leaves the record as it was. -/
def Obligations.LastPassedBeaconIsUpdated : Prop :=
  ∀ (s : State) (h : Collected) (payload : List Byte) (crc : BitVec 16) (r : BeaconRecord),
    arrives 3 s h payload crc → s.tkm.record = some r →
    (r.beacon = headerSource h.bytes →
      answers (.beaconFrame payload crc) s fun t =>
        t.tkm.record =
            some { r with
              aspect := (beaconData payload).aspect
              limitStep := (beaconData payload).limitStep
              nextSect := (beaconData payload).nextSect
              dwell := (beaconData payload).dwell
              flags := (beaconData payload).flags }
          ∧ t.tkm.noSmoke = (beaconData payload).flags.noSmoke ∧ t.tkm.quiet = (beaconData payload).flags.quiet
          ∧ occupancyTested s t ∧ (s.aut.signal.claimed = false → t.aut.signal.claimed = false)
          ∧ reachesOnly (.rxc :: .ptb :: .tkm :: settlingBlocks) s t ∧ motionKept s t)
      ∧ (r.beacon ≠ headerSource h.bytes → frameRssi h.levels < s.image.windows.nearThreshold →
          answers (.beaconFrame payload crc) s fun t =>
            t.tkm.record = some r ∧ t.tkm.signalLimit = s.tkm.signalLimit ∧ t.tkm.quiet = s.tkm.quiet
              ∧ reachesOnly (.rxc :: .ptb :: .tkm :: settlingBlocks) s t ∧ motionKept s t)

/-! ### Other locomotives -/

/-- A LOCO frame fills or refreshes its station's entry, where the table has it or has room, and TKM sets the occupancy limit from the
entries that report the own next section. In a full table it takes the place of the unpinned STALE entry of greatest age, failing that of
the unpinned HEARD one, the lower index among equals, and PEER_EVICT is counted with that entry's role. -/
def Obligations.LocoReportFillsTheTable : Prop :=
  (∀ (s : State) (h : Collected) (payload : List Byte) (crc : BitVec 16),
    arrives 4 s h payload crc →
      ((entryOf (headerSource h.bytes) s.ptb.entries).isSome = true ∨ (firstEmpty s.ptb.entries).isSome = true) →
    answers (.locoFrame payload crc) s fun t =>
      peerOf (headerSource h.bytes) t.ptb.entries =
          some
            { stale := false
              station := headerSource h.bytes
              role := .loco
              age := 0
              period := periodOfCode (headerCode h.bytes)
              record := some ⟨(locoData payload).sect, (locoData payload).level, (locoData payload).consistId⟩ }
        ∧ (∀ id, id ≠ headerSource h.bytes → peerOf id t.ptb.entries = peerOf id s.ptb.entries)
        ∧ t.tkm.occupancyLimit =
            (if t.ptb.entries.any (occupies s.publishedNext s.consistId) then some s.image.windows.occupancyStep else none)
        ∧ occupancyTested s t ∧ reachesOnly (.rxc :: .ptb :: .tkm :: .csu :: settlingBlocks) s t ∧ motionKept s t)
    ∧ (∀ (s : State) (h : Collected) (payload : List Byte) (crc : BitVec 16) (i : Nat) (p : Peer),
      arrives 4 s h payload crc → entryOf (headerSource h.bytes) s.ptb.entries = none →
        (∀ j, j < s.ptb.entries.length → s.ptb.entries.getD j none ≠ none) →
        s.ptb.entries.getD i none = some p → s.pinned p.station = false →
        (∀ (j : Nat) (q : Peer), s.ptb.entries.getD j none = some q → s.pinned q.station = false →
          (p.stale = true ∧ q.stale = false) ∨ (p.stale = q.stale ∧ (q.age < p.age ∨ q.age = p.age ∧ i ≤ j))) →
      answers (.locoFrame payload crc) s fun t =>
        t.ptb.entries =
            s.ptb.entries.set i
              (some
                { stale := false
                  station := headerSource h.bytes
                  role := .loco
                  age := 0
                  period := periodOfCode (headerCode h.bytes)
                  record := some ⟨(locoData payload).sect, (locoData payload).level, (locoData payload).consistId⟩ })
          ∧ counted 7
              (fun mask =>
                mask.getLsbD
                  (match p.role with
                    | .throttle => 0
                    | .beacon => 1
                    | .loco => 2
                    | .tool => 3))
              s t
          ∧ occupancyTested s t ∧ reachesOnly (.rxc :: .ptb :: .tkm :: .csu :: settlingBlocks) s t ∧ motionKept s t)

/-- Under an active CONSIST the lead's report sets the follow speed, and the direction turned where the own entry is REVERSED; it is a
valid frame for the LEAD link. -/
def Obligations.FollowerTakesTheLeadsSpeed : Prop :=
  ∀ (s : State) (h : Collected) (payload : List Byte) (crc : BitVec 16),
    arrives 4 s h payload crc → s.role = .follower → s.head = .consist →
      leadOf s.csu.record = some (headerSource h.bytes) → s.rxc.leadLink.source = some (headerSource h.bytes) →
    answers (.locoFrame payload crc) s fun t =>
      t.head = .consist ∧ t.target = .speed (locoData payload).refSpeed
        ∧ t.aut.requested =
            (if ownReversed s.ownId s.csu.record then (locoData payload).dir.flip else (locoData payload).dir)
        ∧ t.csu.lastReported = some (locoData payload).dir
        ∧ t.rxc.leadLink =
            { source := some (headerSource h.bytes)
              state := if s.rxc.leadLink.state = .lost then .regaining else .up
              age := 0 }
        ∧ reachesOnly (.rxc :: .ptb :: .tkm :: .csu :: settlingBlocks) s t ∧ motionKept s t

/-! ### Service -/

/-- A WRITE that passes the four tests begins with its first page, the bytes in flight being that page's, the image in use and the stored
bytes staying as they were. An accepted CLEAR_FAULTS clears both latches, the motor's trip state where OVERCURRENT was latched, and
MOTOR_FAULT, and answers DONE. An accepted RESTART begins the start sequence: the image the EEPROM holds, or the defaults with
CONFIG_INVALID set where it does not answer or its CRC differs, the receiver on with an estimate of a free level (log entry 28), and
everything else at its start value; the pin of the wheel sensor, the memories and the queue stay. The manual gives the blocks their start
values at the seventh step of the sequence; that they hold them from its beginning on is the model's choice (log entries 21 and 27), as is
what an empty supervision record holds (log entry 46), and that a WRITE in the last page alone takes its CRC from the bytes as they stand
when it is accepted, an EEPROM without an answer showing only at the page write's end (log entry 52), and that the lower of two data pages
is written first (log entry 53). -/
def Obligations.AcceptedServiceActs : Prop :=
  (∀ (s : State) (h : Collected) (payload : List Byte) (crc : BitVec 16),
      arrives 5 s h payload crc → headerDest h.bytes = s.ownId → serviceOp payload = 1 → s.spr.stopped = true →
        (s.head = .parked ∨ s.head = .driver) → s.cfg.writing = none →
        1 ≤ (serviceData payload).count → (serviceData payload).count ≤ 16 →
        (serviceData payload).offset + (serviceData payload).count ≤ 510 →
      answers (.serviceWrite payload crc) s fun t =>
        (∃ w, t.cfg = { s.cfg with writing := some w } ∧ w.offset = (serviceData payload).offset
          ∧ w.count = (serviceData payload).count ∧ w.data = (serviceData payload).data
          ∧ w.page = (serviceData payload).offset / 16 ∧ w.written = [] ∧ (∀ c ∈ w.inFlight, c.1 / 16 = w.page)
          ∧ w.inFlight = pageCells s.eeprom w.offset w.data w.page ∧ (w.hasCrc = true ↔ w.page = 31))
          ∧ reachesOnly (.rxc :: .ptb :: .tkm :: .cfg :: settlingBlocks) s t ∧ motionKept s t)
    ∧ (∀ (s : State) (h : Collected) (payload : List Byte) (crc : BitVec 16),
      arrives 5 s h payload crc → headerDest h.bytes = s.ownId → serviceOp payload = 2 → s.spr.stopped = true →
        s.cfg.writing = none →
      answers (.serviceClearFaults payload crc) s fun t =>
        t.cfg = { s.cfg with overcurrent := false, overtemp := false, status := .done }
          ∧ t.mrg =
              (if s.cfg.overcurrent then { s.mrg with tripCount := 0, tripDecay := none, overRun := 0 } else s.mrg)
          ∧ t.aut.causes.motorFault = false ∧ t.rpt.due = true
          ∧ reachesOnly (.rxc :: .ptb :: .tkm :: .mrg :: .cfg :: settlingBlocks) s t ∧ motionKept s t)
    ∧ (∀ (s : State) (h : Collected) (payload : List Byte) (crc : BitVec 16) (answered : Bool),
      arrives 5 s h payload crc → headerDest h.bytes = s.ownId → serviceOp payload = 3 → s.spr.stopped = true →
        (s.head = .parked ∨ s.head = .driver) → s.cfg.writing = none →
      exec (.serviceRestart payload crc answered) s =
        .next
          { pending := s.pending
            power := .starting
            rxc := freshEstimate { renewals := s.rxc.renewals }
            aut := { parked := { claimed := true, started := true } }
            chg := { cam := s.chg.sensor, sensor := s.chg.sensor }
            cfg :=
              { image :=
                  clampImage
                    (if answered = true ∧ imageCrcHolds s.eeprom = true then imageAt (memBytes s.eeprom 0 510)
                      else defaultImage)
                configInvalid := !(answered && imageCrcHolds s.eeprom) }
            eeprom := s.eeprom
            flash := s.flash })

/-- The refusals of service, in the order of the tests: REFUSED_OP for an op other than 1, 2 and 3; REFUSED_MOTION while not STOPPED,
and for WRITE and RESTART under a context other than PARKED and DRIVER; BUSY during a write, a RESTART then being kept pending;
REFUSED_RANGE. Each sets the status, makes a report due, and changes nothing else at CFG. -/
def Obligations.ServiceRefusalsAreAnswered : Prop :=
  ∀ (s : State) (h : Collected) (payload : List Byte) (crc : BitVec 16) (ans : Bool),
    arrives 5 s h payload crc → headerDest h.bytes = s.ownId →
    ((serviceOp payload < 1 ∨ 3 < serviceOp payload) →
      answers (.serviceOtherOp payload crc) s fun t =>
        t.cfg = { s.cfg with status := .refusedOp } ∧ t.rpt.due = true
          ∧ reachesOnly (.rxc :: .ptb :: .tkm :: .cfg :: settlingBlocks) s t ∧ motionKept s t)
      ∧ (1 ≤ serviceOp payload → serviceOp payload ≤ 3 →
          (s.spr.stopped = false ∨ serviceOp payload ≠ 2 ∧ s.head ≠ .parked ∧ s.head ≠ .driver) →
          answers (frameRow 5 payload crc ans) s fun t =>
            t.cfg = { s.cfg with status := .refusedMotion } ∧ t.rpt.due = true
              ∧ reachesOnly (.rxc :: .ptb :: .tkm :: .cfg :: settlingBlocks) s t ∧ motionKept s t)
      ∧ (1 ≤ serviceOp payload → serviceOp payload ≤ 3 → s.spr.stopped = true →
          (serviceOp payload = 2 ∨ s.head = .parked ∨ s.head = .driver) → s.cfg.writing ≠ none →
          answers (frameRow 5 payload crc ans) s fun t =>
            t.cfg = { s.cfg with status := .busy, restartPending := s.cfg.restartPending || decide (serviceOp payload = 3) }
              ∧ t.rpt.due = true ∧ reachesOnly (.rxc :: .ptb :: .tkm :: .cfg :: settlingBlocks) s t ∧ motionKept s t)
      ∧ (serviceOp payload = 1 → s.spr.stopped = true → (s.head = .parked ∨ s.head = .driver) → s.cfg.writing = none →
          ((serviceData payload).count = 0 ∨ 16 < (serviceData payload).count
            ∨ 510 < (serviceData payload).offset + (serviceData payload).count) →
          answers (.serviceWrite payload crc) s fun t =>
            t.cfg = { s.cfg with status := .refusedRange } ∧ t.rpt.due = true
              ∧ reachesOnly (.rxc :: .ptb :: .tkm :: .cfg :: settlingBlocks) s t ∧ motionKept s t)

/-! ### Links, ageing, timers of authority -/

/-- A link's window expires at the last ms of its age: the record goes LOST with its age at the window, its cause stands, and FAILSAFE is
the head with no hold running. Where a valid frame was taken first and cleared the age, the expiry does not happen. -/
def Obligations.LinkWindowExpiryRaisesItsCause : Prop :=
  (∀ (s : State) (l : Link), (linkRecord l s.rxc).age + 1 < s.linkWindow l → exec (.linkWindowExpires l) s = .next s)
    ∧ (∀ (s : State) (l : Link),
    s.power = .running → FailsafeLaw s.aut → (linkRecord l s.rxc).source ≠ none → (linkRecord l s.rxc).state ≠ .lost →
      s.linkWindow l ≤ (linkRecord l s.rxc).age + 1 →
    answers (.linkWindowExpires l) s fun t =>
      linkRecord l t.rxc = { source := (linkRecord l s.rxc).source, state := .lost, age := s.linkWindow l }
        ∧ (match l with
            | .driver => t.aut.causes.linkLost = true ∧ t.rxc.leadLink = s.rxc.leadLink
            | .lead => t.aut.causes.leadLost = true ∧ t.rxc.driverLink = s.rxc.driverLink)
        ∧ t.head = .failsafe ∧ t.aut.hold = none ∧ t.aut.driver.claimed = s.aut.driver.claimed
        ∧ reachesOnly (.rxc :: settlingBlocks) s t ∧ motionKept s t)

/-- An ageing step makes every entry 10 ms older up to 65535, STALE where its age is above four declared periods or above 8000 ms, and
empties an unpinned STALE entry of 60,000 ms or more. -/
def Obligations.AgeingStepAgesEveryEntry : Prop :=
  ∀ s : State, s.power = .running →
    answers .peerAgeingStep s fun t =>
      t.ptb.entries.length = s.ptb.entries.length
        ∧ (∀ i : Nat, s.ptb.entries[i]? = some none → t.ptb.entries[i]? = some none)
        ∧ (∀ (i : Nat) (p : Peer) (age : Nat) (stale : Bool), s.ptb.entries[i]? = some (some p) →
            age = min (p.age + 10) 65535 → stale = (p.stale || decide (4 * p.period.getD 2000 < age)) →
            t.ptb.entries[i]? =
              some (if stale = true ∧ s.pinned p.station = false ∧ 60000 ≤ age then none
                else some { p with age := age, stale := stale }))
        ∧ reachesOnly (.ptb :: .tkm :: settlingBlocks) s t ∧ motionKept s t

/-- SIGNAL's dwell expires at the head after its stop, in its last ms: SIGNAL is released unless it waits for an aspect that still is
STOP, and then it stays with a dwell of 0. The FAILSAFE hold expires in its last ms: FAILSAFE is released with its set empty, and a DRIVER
that becomes the head does so under zero-lock. A dwell that does not count and a hold that is stopped do not expire, nor does either that
has been started again in the meantime and has more than a ms to run (log entry 7). -/
def Obligations.DwellAndHoldExpiriesRelease : Prop :=
  (∀ s : State,
      s.power = .running → s.head = .signal → s.aut.signalLive.reached = true → s.aut.signalLive.dwell = some 1 →
      answers .dwellExpires s fun t =>
        (if s.aut.signalLive.waitClear = true ∧ s.currentAspect = some .stop
          then t.head = .signal ∧ t.aut.signalLive = { s.aut.signalLive with dwell := some 0 }
          else t.aut.signal = {} ∧ t.head ≠ .signal)
          ∧ reachesOnly settlingBlocks s t ∧ motionKept s t)
    ∧ (∀ (s : State) (n : Nat),
      s.head ≠ .signal ∨ s.aut.signalLive.reached = false ∨ s.aut.signalLive.dwell = none
          ∨ (s.aut.signalLive.dwell = some n ∧ 1 < n) →
        exec .dwellExpires s = .next s)
    ∧ (∀ (s : State) (n : Nat), s.aut.hold = none ∨ (s.aut.hold = some n ∧ 1 < n) → exec .failsafeHoldExpires s = .next s)
    ∧ (∀ (s : State) (n : Nat), s.power = .running → FailsafeLaw s.aut → s.aut.hold = some n → n ≤ 1 →
      answers .failsafeHoldExpires s fun t =>
        t.aut.failsafe = {} ∧ t.aut.hold = none ∧ causesEmpty t.aut.causes = true ∧ t.head ≠ .failsafe
          ∧ (t.head = .driver → t.aut.driverLive.zeroLock = true ∧ t.aut.driverLive.step = s.aut.driver.saved.target)
          ∧ t.aut.driver.claimed = s.aut.driver.claimed ∧ t.aut.consist.claimed = s.aut.consist.claimed
          ∧ reachesOnly settlingBlocks s t ∧ motionKept s t)

/-- A member's grace timer expires in its last ms, and not before (log entry 7): it stops, the other watches stay as they were, and at the
lead a member with no entry in the peer table then puts MEMBER into the cause set. -/
def Obligations.GraceExpiryWatchesTheMember : Prop :=
  (∀ (s : State) (m : Nat),
      s.power = .running → FailsafeLaw s.aut → (∃ w ∈ s.csu.watches, w.member = m ∧ lastMs w.grace = true) →
      answers (.graceTimerExpires m) s fun t =>
        t.csu.watches = s.csu.watches.map (fun w => if w.member = m then { w with grace := none } else w)
          ∧ t.csu.record = s.csu.record ∧ t.csu.slot = s.csu.slot
          ∧ (s.role = .lead → peerOf m s.ptb.entries = none → t.aut.causes.member = true ∧ t.head = .failsafe)
          ∧ reachesOnly (.csu :: settlingBlocks) s t ∧ motionKept s t)
    ∧ (∀ (s : State) (m : Nat), (∀ w ∈ s.csu.watches, w.member = m → lastMs w.grace = false) →
      exec (.graceTimerExpires m) s = .next s)

/-! ### The report transmitter -/

/-- The seed is the low four bits of the first channel estimate over the own ID; the register steps once and its new value modulo 501 is
the holdoff. That RXC's estimate is then the command's is the model's choice (log entry 28). At the end of the holdoff, in
its last ms (log entry 7), the activity is READY with a report due. -/
def Obligations.SeedAndHoldoffBeginReporting : Prop :=
  ∀ (s : State) (level : Int), s.power = .running → s.rpt.activity = .holdoff →
    (s.rpt.holdoffLeft = none → s.ownId ≤ 4095 → s.ownId ≠ 0 →
      answers (.lfsrSeedTaken level) s fun t =>
        t.rpt =
            { s.rpt with
              lfsr := lfsrStep (BitVec.ofNat 16 (clampLevel level % 16 * 4096 + s.ownId))
              holdoffLeft :=
                some ((lfsrStep (BitVec.ofNat 16 (clampLevel level % 16 * 4096 + s.ownId))).toNat % 501) }
          ∧ t.rxc = { s.rxc with estimate := some (clampLevel level) } ∧ reachesOnly [.rpt, .rxc] s t)
      ∧ (∀ n, s.rpt.holdoffLeft = some n →
          if n ≤ 1
            then exec .holdoffExpires s =
              .next { s with rpt := { s.rpt with activity := .ready, due := true, holdoffLeft := none } }
            else exec .holdoffExpires s = .next s)

/-- The period makes a report due outside SENDING; inside it no period expiry falls, and before the period none either: the command
changes nothing. A check begins from READY with a report due, spacing and credit, and again at the end of a backoff; the end of a
transmission returns to READY, counts TX_SENT at either counter that selects it, and leaves the receiver on with an estimate, whose level
is free (log entry 28). A backoff and a transmission end in the ms in which their time is up, and not before (log entries 7 and 12). -/
def Obligations.ReportScheduleRuns : Prop :=
  ∀ s : State, s.power = .running →
      (∀ c, s.rpt.activity ≠ .sending → s.rpt.sinceStart = some c → s.period ≤ c →
          exec .reportPeriodDue s = .next { s with rpt := { s.rpt with due := true } })
        ∧ (s.rpt.activity = .sending ∨ (∀ c, s.rpt.sinceStart = some c → c + 1 < s.period) → exec .reportPeriodDue s = .next s)
        ∧ (s.rpt.activity = .ready → s.rpt.due = true → 2640 ≤ s.rpt.credit → (∀ c, s.rpt.sinceStart = some c → 50 ≤ c) →
            exec .clearChannelCheck s = .next { s with rpt := { s.rpt with activity := .checking, backoffLeft := 0 } })
        ∧ (s.rpt.activity = .backingOff →
            if s.rpt.backoffLeft ≤ 1000
              then exec .backoffExpires s = .next { s with rpt := { s.rpt with activity := .checking, backoffLeft := 0 } }
              else exec .backoffExpires s = .next s)
        ∧ (s.rpt.activity = .sending → 1000 < s.rpt.airLeft → exec .transmissionEnd s = .next s)
        ∧ (s.rpt.activity = .sending → s.rpt.airLeft ≤ 1000 →
            answers .transmissionEnd s fun t =>
              t.rpt.activity = .ready ∧ t.rpt.due = s.rpt.due ∧ t.rpt.credit = s.rpt.credit
                ∧ t.rpt.sinceStart = s.rpt.sinceStart
                ∧ counted 3 (fun _ => true) s t ∧ t.rxc.estimate.isSome = true
                ∧ t.rxc = { s.rxc with estimate := t.rxc.estimate, renewals := t.rxc.renewals } ∧ reachesOnly [.rpt, .rxc] s t)

/-- The airtime credit: 0 at every start, 100 µs for each ms in every activity, at most 50,000 µs; nothing else raises it; and a
transmission starts only with its 2640 µs in credit, which it costs. -/
def Obligations.AirtimeCreditFollowsItsLaw : Prop :=
  (∀ s : State, s.power = .running →
      exec .creditAccrual s = .next { s with rpt := { s.rpt with credit := min (s.rpt.credit + 100) 50000 } })
    ∧ (∀ (c : Instr) (s t : State), exec c s = .next t →
      (s.power ≠ .running → t.power = .running → t.rpt.credit = 0)
        ∧ (CreditLaw s → t.rpt.credit ≤ 50000)
        ∧ (s.rpt.credit < t.rpt.credit → c = .creditAccrual ∧ s.rpt.credit ≤ 50000)
        ∧ (CreditLaw s → s.rpt.activity ≠ .sending → t.rpt.activity = .sending →
            2640 ≤ s.rpt.credit ∧ t.rpt.credit = s.rpt.credit - 2640))

/-- The check finds the channel clear below the CCA threshold, and the report starts: its content is frozen, the counters and frame
counts are zeroed, 2640 µs of credit are spent, the flag and the clock are cleared and the receiver gives up its frame. Otherwise either
counter counts one busy event where it selects it, and the backoff is drawn from the stepped register. That RXC's estimate is then the
command's second is the model's choice (log entry 28). -/
def Obligations.ClearChannelDecidesTheReport : Prop :=
  ∀ (s : State) (first second : Int), s.power = .running → s.rpt.activity = .checking →
    (clampLevel first < s.image.windows.ccaThreshold ∧ clampLevel second < s.image.windows.ccaThreshold →
      exec (.ccaComplete first second) s =
        .next
          { s with
            rpt :=
              { s.rpt with
                report := s.reportBytes
                counterA := 0
                counterB := 0
                credit := s.rpt.credit - 2640
                due := false
                sinceStart := some 0
                activity := .sending
                airLeft := 2640 }
            rxc := { s.rxc with accepted := 0, dropped := 0, collecting := none, estimate := none } })
      ∧ (¬(clampLevel first < s.image.windows.ccaThreshold ∧ clampLevel second < s.image.windows.ccaThreshold) →
          answers (.ccaComplete first second) s fun t =>
            t.rpt.activity = .backingOff ∧ t.rpt.lfsr = lfsrStep s.rpt.lfsr
              ∧ t.rpt.backoffLeft = 500 * ((lfsrStep s.rpt.lfsr).toNat % 16 + 1) ∧ t.rpt.due = s.rpt.due
              ∧ t.rpt.credit = s.rpt.credit
              ∧ counted 5 (fun _ => true) s t
              ∧ t.rxc = { s.rxc with estimate := some (clampLevel second) } ∧ reachesOnly [.rpt, .rxc] s t)

/-- An occupancy sample adds the sampled value, or 1 where it passes the threshold test, to each counter that selects its event, up to
65535; a counter that selects another event stays as it was. A ms of waiting for credit is counted in READY alone, which is the model's
inference (log entry 40). That an inverted BRIDGING_MS counter counts in BATTERY mode too is the model's choice (log entry 49). -/
def Obligations.OccupancySamplesAreCounted : Prop :=
  ∀ (s : State) (base : SampleBase), s.power = .running →
    answers (.occupancySample base) s fun t =>
      sampledAs base s.image.counterA s s.rpt.counterA t.rpt.counterA
        ∧ sampledAs base s.image.counterB s s.rpt.counterB t.rpt.counterB
        ∧ t.rpt.credit = s.rpt.credit ∧ t.rpt.activity = s.rpt.activity ∧ t.rpt.due = s.rpt.due ∧ reachesOnly [.rpt] s t

/-! ### Speed and motor -/

/-- The speed curve gives 0 for step 0, the knot V[k] for step 9k, and between two knots the interpolated rise rounded to the nearest
integer. The repaired curve never gives a lower speed for a higher step and stays within the last knot. -/
def Obligations.SpeedCurveNeverFalls : Prop :=
  (∀ (knots : List Nat) (k r : Nat),
      curve knots 0 = 0
        ∧ (1 ≤ k → k ≤ 14 → curve knots (9 * k) = knots.getD k 0)
        ∧ (k ≤ 13 → 1 ≤ r → r ≤ 8 →
            curve knots (9 * k + r) = knots.getD k 0 + ((knots.getD (k + 1) 0 - knots.getD k 0) * r + 4) / 9))
    ∧ (∀ (knots : List Nat) (a b : Nat),
      knots.length = 15 → knots.Pairwise (· ≤ ·) → a ≤ b → b ≤ 126 →
      curve knots a ≤ curve knots b ∧ curve knots b ≤ knots.getD 14 0)

/-- The PI law: error, clamped integral, feed-forward and sum, the anti-windup that keeps the old integral while the duty is at a limit
in the error's direction, and the duty clamped. -/
def Obligations.LawFollowsErrorAndAntiWindup : Prop :=
  ∀ (t : TractionConfig) (dMax ref y : Nat) (integral e next sum : Int),
    e = (ref / 16 : Nat) - (y : Int) →
      next = max (-64000) (min 64000 (integral + t.ki * e)) →
      sum = (t.kp * e + next) / 64 + (ref / 16 * t.feed / 1024 : Nat) →
    ((dMax < sum ∧ 0 < e ∨ sum < 0 ∧ e < 0) →
      (piLaw t dMax ref y integral).integral = integral
        ∧ ((piLaw t dMax ref y integral).duty : Int)
            = max 0 (min (dMax : Int) ((t.kp * e + integral) / 64 + (ref / 16 * t.feed / 1024 : Nat))))
      ∧ (¬(dMax < sum ∧ 0 < e ∨ sum < 0 ∧ e < 0) →
          (piLaw t dMax ref y integral).integral = next
            ∧ ((piLaw t dMax ref y integral).duty : Int) = max 0 (min (dMax : Int) sum))

/-- A control period in which no stall is found. The target speed v is the head's: DRIVER's step through the curve, 0 under zero-lock, the
follow speed, or 0, and 0 while the requested direction differs. It is limited by V_max and, at a locomotive that follows nobody, by the
signal and occupancy limits. `ref` moves by the rate of the head's profile toward sixteen times that speed, NORMAL rates doubled under
shunting, and no rise is taken under an inhibit. The direction turns only at 0, the law or its 0 gives the integral and duty, the bridge is
the first line of its table that applies, and the stall run counts a driven period near the duty limit below the stall speed. -/
def Obligations.ControlPeriodRampsAndRegulates : Prop :=
  ∀ (s : State) (v limit goal down candidate dMax : Nat) (up : Option Nat),
    s.power = .running → s.periodCompute.stallFound = false →
    v = (if s.aut.requested ≠ s.spr.running then 0
      else
        match s.head with
        | .driver => curve s.image.traction.knots (if s.aut.driverLive.zeroLock then 0 else s.aut.driverLive.step)
        | .consist => min s.aut.consistLive.speed 1023
        | _ => 0) →
    limit = (if s.role = .follower then s.image.traction.vMax
      else
        min s.image.traction.vMax
          (min
            (match s.tkm.signalLimit with
              | some n => curve s.image.traction.knots n
              | none => s.image.traction.vMax)
            (match s.tkm.occupancyLimit with
              | some n => curve s.image.traction.knots n
              | none => s.image.traction.vMax))) →
    goal = 16 * min v limit →
    up = (match (s.image.ctx s.head).profile with
      | .normal => some (if s.spr.shunting then min (2 * s.image.traction.aInc) 255 else s.image.traction.aInc)
      | .signal => none
      | .failsafe => none
      | .follow => some s.image.traction.followInc) →
    down = (match (s.image.ctx s.head).profile with
      | .normal => if s.spr.shunting then min (2 * s.image.traction.dInc) 255 else s.image.traction.dInc
      | .signal => s.image.traction.sInc
      | .failsafe => s.image.traction.fInc
      | .follow => s.image.traction.followInc) →
    candidate = (if s.spr.ref < goal then
        match up with
        | some rate => min (s.spr.ref + rate) goal
        | none => s.spr.ref
      else if goal < s.spr.ref then max (s.spr.ref - down) goal
      else s.spr.ref) →
    dMax = (if s.sup.state = .depleted then 0 else s.image.traction.dMax) →
    answers .controlPeriod s fun t =>
      t.spr.ref =
          (if s.spr.ref < candidate ∧ (s.sup.state ≠ .normal ∨ s.head = .failsafe ∨ s.mrg.cool ≠ 0
              ∨ s.aut.driverLive.zeroLock = true)
            then s.spr.ref else candidate)
        ∧ t.spr.running = (if t.spr.ref = 0 then s.aut.requested else s.spr.running)
        ∧ t.spr.braking =
            (if t.spr.ref < s.spr.ref then true else if s.spr.ref < t.spr.ref then false else s.spr.braking)
        ∧ t.spr.stopped = s.spr.stopped
        ∧ ((t.spr.ref = 0 ∧ s.mrg.y ≤ s.image.traction.stopThreshold ∨ s.cfg.overcurrent = true ∨ s.mrg.cool ≠ 0) →
            t.mrg.integral = 0 ∧ t.mrg.duty = 0)
        ∧ (¬(t.spr.ref = 0 ∧ s.mrg.y ≤ s.image.traction.stopThreshold ∨ s.cfg.overcurrent = true ∨ s.mrg.cool ≠ 0) →
            t.mrg.integral = (piLaw s.image.traction dMax t.spr.ref s.mrg.y s.mrg.integral).integral
              ∧ t.mrg.duty = (piLaw s.image.traction dMax t.spr.ref s.mrg.y s.mrg.integral).duty)
        ∧ (t.mrg.brakeHold = true ↔ s.mrg.brakeHold = true ∧ t.spr.ref = 0 ∧ s.image.traction.stopThreshold < s.mrg.y)
        ∧ t.mrg.bridge =
            (if s.cfg.overcurrent = true then .off
              else if s.mrg.cool ≠ 0 then .cool
              else if s.sup.state = .depleted then .off
              else if t.mrg.brakeHold = true then .brake
              else if t.spr.ref = 0 ∧ s.mrg.y ≤ s.image.traction.stopThreshold then
                (if s.image.traction.brakeAtStop then .brake else .off)
              else if t.mrg.duty = 0 then .off
              else if t.spr.running = .forward then .driveFwd
              else .driveRev)
        ∧ t.mrg.stallRun =
            (if (t.mrg.bridge = .driveFwd ∨ t.mrg.bridge = .driveRev) ∧ 9 * dMax / 10 ≤ t.mrg.duty
                ∧ s.mrg.y < s.image.traction.stallSpeed
              then s.mrg.stallRun + 1 else 0)
        ∧ t.mrg.inDrive = true ∧ t.mrg.y = s.mrg.y ∧ t.mrg.w = s.mrg.w ∧ t.mrg.window = s.mrg.window
        ∧ t.mrg.cool = s.mrg.cool ∧ t.mrg.tripCount = s.mrg.tripCount
        ∧ reachesOnly (.mrg :: settlingBlocks) s t

/-- The control period whose stall run reaches 500 stops the locomotive: `ref`, integral and duty 0, the run from 0, the bridge not
driving, and FAILSAFE claimed for it. Said for an empty pending-change slot and for a FAILSAFE that does not stand yet with a hold that
does not release it at once. -/
def Obligations.StallStopsTheLocomotive : Prop :=
  ∀ s : State,
    s.power = .running → s.periodCompute.stallFound = true → s.csu.slot = .empty → FailsafeLaw s.aut →
      s.aut.failsafe.claimed = false → s.image.windows.failsafeHold ≠ 0 →
    answers .stallDetected s fun t =>
      t.spr.ref = 0 ∧ t.mrg.integral = 0 ∧ t.mrg.duty = 0 ∧ t.mrg.stallRun = 0 ∧ bridgeDrives t.mrg.bridge = false
        ∧ t.mrg.y = s.mrg.y ∧ t.head = .failsafe ∧ (t.aut.causes.stall = true ∨ t.aut.hold ≠ none)
        ∧ reachesOnly (.mrg :: settlingBlocks) s t

/-- The end of a drive phase that does not trip: the clamped current enters the window, displacing the oldest; the overcurrent run counts
a high tested phase and falls to 0 otherwise; a phase in COOL counts it down, and at 0 COOL is over with the bridge OFF until the next
computation (that it is OFF is the model's inference, log entry 20); and an average that breaks the budget switches the heater off. -/
def Obligations.DrivePhaseEndTakesTheCurrent : Prop :=
  ∀ (s : State) (current : Nat),
    s.power = .running →
      ¬(s.mrg.active = true ∧ s.cfg.overcurrent = false ∧ s.image.traction.iTrip < min current 4000 ∧ 2 ≤ s.mrg.overRun) →
    answers (.drivePhaseEnd current) s (fun t =>
        t.mrg.window = s.mrg.window.tail ++ [min current 4000]
          ∧ t.mrg.overRun =
              (if s.mrg.active = true ∧ s.cfg.overcurrent = false ∧ s.image.traction.iTrip < min current 4000
                then s.mrg.overRun + 1 else 0)
          ∧ (s.mrg.bridge = .cool → t.mrg.cool = s.mrg.cool - 1 ∧ t.mrg.bridge = if s.mrg.cool ≤ 1 then .off else .cool)
          ∧ (s.mrg.bridge ≠ .cool → t.mrg.cool = s.mrg.cool ∧ t.mrg.bridge = s.mrg.bridge)
          ∧ t.mrg.duty = s.mrg.duty ∧ t.mrg.tripCount = s.mrg.tripCount ∧ t.mrg.inDrive = false
          ∧ (s.image.smoke.iBudget
                < averageCurrent (s.mrg.window.tail ++ [min current 4000]) + s.image.smoke.iHeater + s.image.smoke.iBase →
              t.smk.heater = false)
          ∧ reachesOnly (.mrg :: settlingBlocks) s t ∧ motionKept s t)
      ∧ (s.mrg.bridge = .cool → s.mrg.cool = 1 →
          answers (.coolEnds current) s fun t =>
            t.mrg.cool = 0 ∧ t.mrg.bridge = .off ∧ t.mrg.window = s.mrg.window.tail ++ [min current 4000]
              ∧ reachesOnly (.mrg :: settlingBlocks) s t ∧ motionKept s t)

/-- The third high drive phase in a row trips: integral, duty and runs 0, the decay timer afresh, and one MOTOR_TRIP at either counter
that selects it. A trip below the fourth rests the bridge in COOL for 25 phases; the fourth latches OVERCURRENT with the bridge OFF and
MOTOR_FAULT under FAILSAFE. The decay timer's expiry in its last ms forgets the trips; where a trip was taken first and restarted it, the
expiry does not happen. -/
def Obligations.OvercurrentTripsAndLatches : Prop :=
  ∀ (s : State) (current : Nat),
    (s.power = .running → FailsafeLaw s.aut → s.mrg.active = true → s.cfg.overcurrent = false →
        s.image.traction.iTrip < min current 4000 → 2 ≤ s.mrg.overRun →
      answers (.overcurrentTrip current) s fun t =>
        t.mrg.integral = 0 ∧ t.mrg.duty = 0 ∧ t.mrg.stallRun = 0 ∧ t.mrg.overRun = 0
          ∧ t.mrg.tripCount = s.mrg.tripCount + 1 ∧ t.mrg.window = s.mrg.window.tail ++ [min current 4000]
          ∧ (s.mrg.tripCount + 1 < 4 →
              t.mrg.cool = 25 ∧ t.mrg.bridge = .cool ∧ t.mrg.tripDecay = some 10000 ∧ t.cfg = s.cfg)
          ∧ (4 ≤ s.mrg.tripCount + 1 →
              t.mrg.cool = s.mrg.cool ∧ t.mrg.bridge = .off ∧ t.mrg.tripDecay = none
                ∧ t.cfg = { s.cfg with overcurrent := true } ∧ t.aut.causes.motorFault = true ∧ t.head = .failsafe)
          ∧ counted 13 (fun _ => true) s t
          ∧ reachesOnly (.mrg :: .cfg :: settlingBlocks) s t ∧ motionKept s t)
      ∧ (∀ n, s.power = .running → s.mrg.tripDecay = some n → n ≤ 1 →
          exec .tripDecayExpires s = .next { s with mrg := { s.mrg with tripCount := 0, tripDecay := none } })
      ∧ (∀ n, s.mrg.tripDecay = some n → 1 < n → exec .tripDecayExpires s = .next s)

/-- A BEMF sample: the calibrated reading filters into `w` and `y`, and STOPPED is judged on the new `y`. Its beginning starts the
standstill timer with 30,000 ms and the valve timer with 20,000 ms and applies the membership that waits in the slot; its ending stops
both and, where nothing waits at AUT, takes IDLE_HOLD to READY or ZONE_HOLD. Under SYNTHETIC the chuff phase advances, kept as the
remainder by 65,536 (log entry 39). -/
def Obligations.BemfSampleMeasuresAndJudgesStopped : Prop :=
  ∀ (s : State) (raw : BitVec 10), s.power = .running →
    answers (.bemfSample raw) s fun t =>
      t.mrg.w = s.mrg.w - s.mrg.w / 4 + min 1023 (raw.toNat * s.image.traction.bemfCal / 256)
        ∧ t.mrg.y = t.mrg.w / 4
        ∧ (t.spr.stopped = true ↔ s.spr.ref = 0 ∧ t.mrg.y ≤ s.image.traction.stopThreshold)
        ∧ (s.spr.stopped = false → t.spr.stopped = true →
            t.smk.standstill = some 30000 ∧ t.smk.long = false ∧ t.snd.valve = some 20000)
        ∧ (∀ m, s.spr.stopped = false → t.spr.stopped = true → s.csu.slot = .holds m → t.csu.record = m ∧ t.csu.slot = .empty)
        ∧ (s.spr.stopped = true ∨ t.spr.stopped = false → t.csu = s.csu)
        ∧ (Settled s → s.spr.stopped = true → t.spr.stopped = false →
            t.smk.long = false
              ∧ t.smk.state =
                  (if s.smk.state = .idleHold then (if s.tkm.noSmoke then .zoneHold else .ready) else s.smk.state))
        ∧ (s.spr.stopped = true → t.spr.stopped = false → t.smk.standstill = none ∧ t.snd.valve = none)
        ∧ (s.image.chuff.source = .synthetic → t.spr.stopped = false →
            t.chg.phase = (s.chg.phase + t.mrg.y * s.image.chuff.chuffK / 16) % 65536
              ∧ t.chg.count =
                  (if s.chg.phase + t.mrg.y * s.image.chuff.chuffK / 16 < 65536 then s.chg.count
                    else (s.chg.count + 1) % 65536))
        ∧ (s.image.chuff.source = .cam ∨ t.spr.stopped = true → t.chg = s.chg)
        ∧ t.spr.ref = s.spr.ref ∧ t.spr.running = s.spr.running ∧ t.mrg.duty = s.mrg.duty ∧ t.mrg.bridge = s.mrg.bridge
        ∧ reachesOnly (.mrg :: .chg :: .csu :: .rxc :: .tkm :: settlingBlocks) s t
        ∧ (s.csu.slot = .empty → reachesOnly (.mrg :: .chg :: settlingBlocks) s t)

/-! ### Chuffs, sound and smoke -/

/-- Under CAM an edge with the window stopped is taken at once and starts the window, unless it only comes back to the debounced level;
while the window runs the pin alone follows; at the window's expiry, in its last ms (log entry 7), a level that differs is taken then.
Each taking of low to high is one chuff, which asks SND for a chuff of the speed band's group and the count's index. At a start the
debounced level is the input's. -/
def Obligations.CamDebounceMakesChuffs : Prop :=
  (∀ (s : State) (level : Bool), s.power = .running → s.image.chuff.source = .cam →
      (s.chg.camWindow = none → level ≠ s.chg.cam →
        answers (.wheelSensorEdge level) s fun t =>
          t.chg.cam = level ∧ t.chg.sensor = level ∧ t.chg.camWindow = some 8 ∧ t.chg.phase = s.chg.phase
            ∧ t.chg.count = (if level then (s.chg.count + 1) % 65536 else s.chg.count)
            ∧ (level = true → t.lmp.flare = some 64
                ∧ t.snd =
                    (s.request
                      { hold := false
                        owner := .chuff
                        prio := s.image.sound.chuffPrio
                        group :=
                          if s.mrg.y < s.image.chuff.b1 then 0
                          else if s.mrg.y < s.image.chuff.b2 then 1
                          else if s.mrg.y < s.image.chuff.b3 then 2 else 3
                        index := s.chg.count % 4 }).snd)
            ∧ reachesOnly [.chg, .snd, .rpt, .smk, .lmp] s t)
        ∧ (s.chg.camWindow ≠ none ∨ level = s.chg.cam →
            exec (.wheelSensorEdge level) s = .next { s with chg := { s.chg with sensor := level } })
        ∧ (∀ n, s.chg.camWindow = some n → 1 < n → exec .camWindowExpires s = .next s)
        ∧ (∀ n, s.chg.camWindow = some n → n ≤ 1 →
            answers .camWindowExpires s fun t =>
              t.chg.cam = s.chg.sensor ∧ t.chg.sensor = s.chg.sensor
                ∧ t.chg.camWindow = (if s.chg.sensor = s.chg.cam then none else some 8)
                ∧ t.chg.count =
                    (if s.chg.sensor = true ∧ s.chg.cam = false then (s.chg.count + 1) % 65536 else s.chg.count)
                ∧ reachesOnly [.chg, .snd, .rpt, .smk, .lmp] s t))
    ∧ (∀ (c : Instr) (s t : State), exec c s = .next t → s.power ≠ .running → t.power = .running →
      t.chg.cam = s.chg.sensor ∧ t.chg.sensor = s.chg.sensor ∧ t.chg.camWindow = none)

/-- A request at a busy port joins the queue's tail; a chuff takes the place of the pending chuff, and in a full queue a request displaces
the oldest trigger of the lowest priority where that is lower, and is dropped otherwise, each loss counted as TRIGGER_DROP. A stop request
takes the owner's triggers out, voids its lookup, frees its LOADING voices and releases the playing ones. A lookup that finds a clip
loads, for a chuff while CHUFF owns two voices, the older of them; else the FREE voice of lowest index, and the port goes on to a refill
before any further lookup; else the voice of lowest priority below its own, the earliest of them; else the trigger is dropped. A void
lookup does nothing, and one without a clip is counted as dropped. A refill's samples join the voice's buffer, the fetch position moves on
or returns to the loop start, and a LOADING voice plays or loops. That the fields of a clip record are read big-endian, and what a FREE
voice holds for none, are the model's choices (log entries 47 and 48). -/
def Obligations.FlashReadsFeedTheVoices : Prop :=
  (∀ (s : State) (r : Trigger), s.snd.port ≠ .idle →
      (∀ (front : List Trigger) (q : Trigger) (back : List Trigger), r.owner = .chuff → s.snd.queue = front ++ q :: back →
          q.owner = .chuff → (∀ p ∈ front, p.owner ≠ .chuff) →
          (s.request r).snd = { s.snd with queue := front ++ { q with group := r.group, index := r.index } :: back }
            ∧ counted 10 (fun mask => mask.getLsbD 1) s (s.request r))
        ∧ ((r.owner = .chuff → ∀ p ∈ s.snd.queue, p.owner ≠ .chuff) →
            (s.snd.queue.length < 8 → s.request r = { s with snd := { s.snd with queue := s.snd.queue ++ [r] } })
              ∧ (∀ (front : List Trigger) (q : Trigger) (back : List Trigger), 8 ≤ s.snd.queue.length →
                  s.snd.queue = front ++ q :: back → (∀ p ∈ front, q.prio < p.prio) → (∀ p ∈ back, q.prio ≤ p.prio) →
                  (q.prio < r.prio →
                      (s.request r).snd = { s.snd with queue := front ++ back ++ [r] }
                        ∧ counted 10 (fun mask => mask.getLsbD (ownerClassBit (ownerClass q.owner))) s (s.request r))
                    ∧ (r.prio ≤ q.prio →
                        (s.request r).snd = s.snd
                          ∧ counted 10 (fun mask => mask.getLsbD (ownerClassBit (ownerClass r.owner))) s (s.request r)))))
    ∧ (∀ (s : State) (o : Owner),
      (s.stopOwner o).snd.queue = s.snd.queue.filter (fun q => q.owner != o)
        ∧ (∀ q void, s.snd.port = .lookup q void →
            (s.stopOwner o).snd.port = .lookup q (if q.owner = o then true else void))
        ∧ ((∀ q void, s.snd.port ≠ .lookup q void) → (s.stopOwner o).snd.port = s.snd.port)
        ∧ (∀ i, (s.stopOwner o).voice i =
            (if (s.voice i).owner = some o ∧ (s.voice i).state = .loading then {}
              else if (s.voice i).owner = some o ∧ ((s.voice i).state = .playing ∨ (s.voice i).state = .looping)
                then { s.voice i with held := false, state := .releasing }
              else s.voice i))
        ∧ reachesOnly [.snd] s (s.stopOwner o))
    ∧ (∀ (s : State) (q : Trigger) (c : Clip), s.power = .running → s.snd.port = .lookup q false →
      lookupClip s.flash q = some c →
      (∀ i, q.owner = .chuff → 2 ≤ s.snd.voices.countP ownedByChuff → i < s.snd.voices.length →
          (s.voice i).owner = some .chuff →
          (∀ j, j ≠ i → (s.voice j).owner = some .chuff → (s.voice i).order < (s.voice j).order) →
          answers .lookupComplete s fun t =>
            t.voice i = loadedVoice q c (nextOrder s.snd.voices) ∧ (∀ j, j ≠ i → t.voice j = s.voice j)
              ∧ counted 9 (fun mask => mask.getLsbD 1) s t ∧ reachesOnly [.snd, .rpt] s t)
        ∧ ((q.owner = .chuff → s.snd.voices.countP ownedByChuff < 2) → (∀ v ∈ s.snd.voices, v.state ≠ .free) →
            (∀ i o, i < s.snd.voices.length → (s.voice i).prio < q.prio → (s.voice i).owner = some o →
                (∀ j, j < s.snd.voices.length → j ≠ i →
                  (s.voice i).prio < (s.voice j).prio
                    ∨ (s.voice i).prio = (s.voice j).prio ∧ (s.voice i).order < (s.voice j).order) →
                answers .lookupComplete s fun t =>
                  t.voice i = loadedVoice q c (nextOrder s.snd.voices) ∧ (∀ j, j ≠ i → t.voice j = s.voice j)
                    ∧ counted 9 (fun mask => mask.getLsbD (ownerClassBit (ownerClass o))) s t ∧ reachesOnly [.snd, .rpt] s t)
              ∧ ((∀ v ∈ s.snd.voices, q.prio ≤ v.prio) →
                  answers .lookupComplete s fun t =>
                    t.snd.voices = s.snd.voices
                      ∧ counted 10 (fun mask => mask.getLsbD (ownerClassBit (ownerClass q.owner))) s t
                      ∧ reachesOnly [.snd, .rpt] s t)))
    ∧ (∀ (s : State) (q : Trigger) (void : Bool), s.power = .running → s.snd.port = .lookup q void →
      (void = true →
          answers .lookupComplete s fun t => t.snd.voices = s.snd.voices ∧ reachesOnly [.snd] s t)
        ∧ (void = false → lookupClip s.flash q = none →
            answers .lookupComplete s fun t =>
              t.snd.voices = s.snd.voices
                ∧ counted 10 (fun mask => mask.getLsbD (ownerClassBit (ownerClass q.owner))) s t
                ∧ reachesOnly [.snd, .rpt] s t))
    ∧ (∀ (s : State) (q : Trigger) (c : Clip) (i : Nat),
      s.power = .running → s.snd.port = .lookup q false → lookupClip s.flash q = some c → s.snd.voices.length = 6 →
        i < 6 → (s.voice i).state = .free → (∀ j, j < i → (s.voice j).state ≠ .free) →
        ¬(q.owner = .chuff ∧ 2 ≤ s.snd.voices.countP ownedByChuff) →
      answers .lookupComplete s fun t =>
        (t.voice i).state = .loading ∧ (t.voice i).owner = some q.owner ∧ (t.voice i).prio = q.prio
          ∧ (t.voice i).clip = c ∧ (t.voice i).fetch = 0 ∧ (t.voice i).held = q.hold ∧ (t.voice i).buffer = []
          ∧ (∀ v ∈ s.snd.voices, v.order < (t.voice i).order)
          ∧ (∀ j, j ≠ i → t.voice j = s.voice j) ∧ t.snd.queue = s.snd.queue
          ∧ (∃ v at_ n, t.snd.port = .refill v at_ n) ∧ reachesOnly [.snd] s t)
    ∧ (∀ (s : State) (i pos n : Nat),
      s.power = .running → s.snd.port = .refill i pos n → i < s.snd.voices.length → (s.voice i).state ≠ .free →
      answers .refillComplete s fun t =>
        (t.voice i).buffer = (s.voice i).buffer ++ flashBytes s.flash ((s.voice i).clip.start + pos) n
          ∧ (t.voice i).fetch =
              (if (s.voice i).held = true ∧ loopValid (s.voice i).clip = true ∧ pos + n = (s.voice i).clip.loopEnd
                then (s.voice i).clip.loopStart else pos + n)
          ∧ ((s.voice i).state = .loading → (s.voice i).held = false → (t.voice i).state = .playing)
          ∧ ((s.voice i).state = .loading → (s.voice i).held = true → loopValid (s.voice i).clip = true →
              (s.voice i).clip.loopStart < pos + n → (t.voice i).state = .looping)
          ∧ ((s.voice i).state = .releasing → (t.voice i).state = .releasing)
          ∧ (t.voice i).owner = (s.voice i).owner ∧ (t.voice i).clip = (s.voice i).clip
          ∧ (∀ j, j ≠ i → t.voice j = s.voice j) ∧ reachesOnly [.snd] s t)

/-- A sample event writes the output: the voices' contributions under the master and supply factors, divided by 2^22 toward minus
infinity and clamped to 12 bits; every voice that plays gives up its oldest sample. That a voice whose sound ends in the event still
adds that last sample is the model's inference (log entry 19). -/
def Obligations.SampleEventMixesTheVoices : Prop :=
  ∀ s : State, s.power = .running →
    answers .soundSampleEvent s fun t =>
      t.snd.output =
          max (-2048)
            (min 2047
              ((s.snd.voices.map (contribution s.image.sound s.mrg.duty)).sum
                  * (if s.fnm.mute then 0 else if s.tkm.quiet then s.image.sound.volume / 2 else s.image.sound.volume : Nat)
                  * (match s.sup.state with
                      | .normal => 256
                      | .bridging => 128
                      | .depleted => 0)
                / 4194304))
        ∧ t.snd.voices.length = s.snd.voices.length
        ∧ (∀ i, (t.voice i).buffer = (if voicePlays (s.voice i) then (s.voice i).buffer.tail else (s.voice i).buffer))
        ∧ reachesOnly [.snd] s t

/-- The chuff load gain: G_base raised or lowered by the duty's distance from u_cruise, the floor toward minus infinity, clamped to
G_min..255; every other owner has gain 255. -/
def Obligations.ChuffGainFollowsTheDuty : Prop :=
  ∀ (k : SoundConfig) (duty : Nat) (v : Voice), k.gMin ≤ 255 → voicePlays v = true →
    (v.owner = some .chuff →
      contribution k duty v =
        voiceSample v
          * (v.clip.gain * max (k.gMin : Int) (min 255 (k.gBase + ((duty : Int) - k.uCruise) * k.kLoad / 64)) / 256))
      ∧ (v.owner ≠ some .chuff → contribution k duty v = voiceSample v * (v.clip.gain * 255 / 256 : Nat))

/-- The rest timers act in their last ms, and not before (log entry 7). The valve timer starts again with 60,000 ms, and one valve sound
is requested where the smoke is READY or IDLE_HOLD; the standstill timer sets long standstill and takes READY to IDLE_HOLD; a burst's end
returns the fan to the duty of its state. -/
def Obligations.RestTimersExpire : Prop :=
  (∀ (s : State) (n : Nat), 1 < n →
      (s.snd.valve = some n → exec .valveTimerExpires s = .next s)
        ∧ (s.smk.standstill = some n → exec .standstillTimerExpires s = .next s)
        ∧ (∀ b, s.smk.burst = some b → 1 < b.left → exec .fanBurstEnds s = .next s))
    ∧ (∀ s : State, s.power = .running → lastMs s.snd.valve = true →
      answers .valveTimerExpires s fun t =>
        t.snd.valve = some 60000 ∧ t.snd.voices = s.snd.voices
          ∧ (s.smk.state ≠ .ready → s.smk.state ≠ .idleHold → t = { s with snd := { s.snd with valve := some 60000 } })
          ∧ (s.smk.state = .ready ∨ s.smk.state = .idleHold → s.snd.port ≠ .idle → s.snd.queue.length < 8 →
              t.snd.queue =
                s.snd.queue
                  ++ [{ hold := false, owner := .system, prio := s.image.sound.systemPrio, group := 4, index := 3 }])
          ∧ reachesOnly [.snd, .rpt] s t)
    ∧ (∀ s : State, s.power = .running →
      (lastMs s.smk.standstill = true →
        answers .standstillTimerExpires s fun t =>
          t.smk.standstill = none ∧ t.smk.long = true ∧ t.smk.temp = s.smk.temp ∧ t.smk.heater = s.smk.heater
            ∧ t.smk.state = (if s.smk.state = .ready then .idleHold else s.smk.state)
            ∧ (s.smk.state = .ready → t.smk.burst = none ∧ t.smk.fan = s.image.smoke.fIdle) ∧ reachesOnly [.smk] s t)
        ∧ (∀ b, s.smk.burst = some b → b.left ≤ 1 →
            answers .fanBurstEnds s fun t =>
              t.smk.burst = none ∧ t.smk.state = s.smk.state
                ∧ t.smk.fan =
                    (match s.smk.state with
                      | .ready => if s.spr.stopped then s.image.smoke.fIdle else s.image.smoke.baseFan
                      | .idleHold => s.image.smoke.fIdle
                      | _ => 0)
                ∧ t.smk.heater = s.smk.heater ∧ t.smk.temp = s.smk.temp ∧ reachesOnly [.smk] s t))

/-- A thermostat tick computes the temperature from the two calibration points, latches overtemperature at 350, and, where nothing waits at
AUT, moves the smoke state and decides the heater. Above T_dry an enabled state becomes DRY. WARMING at T_run - 5 becomes READY, settled to
ZONE_HOLD under NO_SMOKE and to IDLE_HOLD after a long standstill. The heater is on below the setpoint less 5, as it was from there up to
the setpoint, and off from the setpoint on, and it is on only in a heating state with the supply NORMAL, no latch and the current budget
held. -/
def Obligations.ThermostatTickDecidesTheHeater : Prop :=
  ∀ (s : State) (raw : BitVec 10), s.power = .running →
    answers (.thermostatTick raw) s fun t =>
      (t.smk.temp : Int) =
          max 0
            (min 400
              ((s.image.smoke.tA : Int)
                + Int.fdiv (((raw.toNat : Int) - s.image.smoke.rA) * ((s.image.smoke.tB : Int) - s.image.smoke.tA))
                    ((s.image.smoke.rB : Int) - s.image.smoke.rA)))
        ∧ t.cfg = { s.cfg with overtemp := s.cfg.overtemp || decide (350 ≤ t.smk.temp) }
        ∧ (s.image.smoke.tDry < t.smk.temp → smokeHeats s.smk.state = true ∨ s.smk.state = .shed →
            t.smk.heater = false)
        ∧ (350 ≤ t.smk.temp → t.smk.heater = false)
        ∧ (t.smk.heater = true → s.sup.state = .normal ∧ t.cfg.overtemp = false)
        ∧ (Settled s →
            t.smk.state =
                (if s.image.smoke.tDry < t.smk.temp ∧ s.smk.state ∈ [.warming, .ready, .idleHold, .zoneHold, .shed] then .dry
                  else if s.smk.state = .warming ∧ s.image.smoke.tRun ≤ t.smk.temp + 5 then
                    (if s.tkm.noSmoke then .zoneHold else if s.smk.long then .idleHold else .ready)
                  else s.smk.state)
              ∧ (t.smk.heater = true ↔
                  s.sup.state = .normal ∧ t.smk.state ∈ [.warming, .ready, .idleHold, .zoneHold] ∧ t.cfg.overtemp = false
                    ∧ averageCurrent s.mrg.window + s.image.smoke.iHeater + s.image.smoke.iBase ≤ s.image.smoke.iBudget
                    ∧ (t.smk.temp + 5
                          < (if t.smk.state = .zoneHold ∨ s.smk.long = true then s.image.smoke.tIdle else s.image.smoke.tRun)
                        ∨ t.smk.temp
                            < (if t.smk.state = .zoneHold ∨ s.smk.long = true then s.image.smoke.tIdle else s.image.smoke.tRun)
                          ∧ s.smk.heater = true)))
        ∧ t.smk.long = s.smk.long ∧ t.smk.standstill = s.smk.standstill
        ∧ reachesOnly (.cfg :: settlingBlocks) s t ∧ motionKept s t

/-! ### Lamps -/

/-- The lamp timers, each in its last ms and not before (log entry 7): the flare ends, the flicker register steps, the ditch phase changes
sides for 500 ms, a lit lamp's fade count moves on, the strobe phase of a lamp that has been switched on too, lit or dark since, and a
blink goes from ON to OFF and from OFF to its next ON or its end. Only the lamp named changes. A lamp that an event switches on begins its
strobe phase and its fade. A lamp's output is its brightness by the factor of the effect in force, the override's or its own, while it is
lit, its blink's while one runs, halved under BRIDGING, and under DEPLETED halved for markers and 0 for the rest. A part that does not run
gives 0: while it is stopped or off by R165, and while it starts, where the manual names no lamp, by the model's inference (log entry 21).
That a fade under way rises on under another effect is the model's choice (log entry 51). -/
def Obligations.LampTimersMoveTheirPhases : Prop :=
  (∀ (c : Instr) (s t : State) (n : Nat), n < 8 → exec c s = .next t → s.power = .running → t.power = .running →
      (s.lamp n).lit = false → (t.lamp n).lit = true →
      (t.lamp n).strobe = 0 ∧ (t.lamp n).fade = (if t.lampEffect n = .fade then 0 else 16))
    ∧ (∀ (s : State) (n base factor : Nat) (effect : LampEffect),
      effect = (if (s.image.ctx s.head).lampMask.getLsbD n then (s.image.ctx s.head).lampEffect else (s.lampConfig n).effect) →
      factor = (match effect with
        | .steady => 256
        | .dim => 128
        | .flicker => if s.lmp.flare ≠ none ∧ (s.lampConfig n).role = .firebox then 255 else 128 + s.lmp.lfsr.toNat % 128
        | .strobe => if (s.lamp n).strobe < 50 then 256 else 0
        | .ditchAlt =>
          if s.fnm.last.getLsbD s.image.ditch = false ∨ ((s.lampConfig n).role = .ditchR ↔ s.lmp.ditchRight = true)
            then 256 else 0
        | .fade => 16 * (s.lamp n).fade) →
      base = (match (s.lamp n).blink with
        | some b => if b.on then (s.lampConfig n).brightness else 0
        | none => if (s.lamp n).lit then (s.lampConfig n).brightness * factor / 256 else 0) →
      (s.power = .running →
          s.lampOutput n =
            (match s.sup.state with
              | .normal => base
              | .bridging => base / 2
              | .depleted => if (s.lampConfig n).role = .marker then base / 2 else 0))
        ∧ (s.power ≠ .running → s.lampOutput n = 0))
    ∧ (∀ (s : State) (n : Fin 8), s.power = .running → s.lmp.lamps.length = 8 →
    (∀ k, s.lmp.flare = some k →
        if k ≤ 1 then exec .flareEnds s = .next { s with lmp := { s.lmp with flare := none } } else exec .flareEnds s = .next s)
      ∧ exec .flickerLfsrStep s = .next { s with lmp := { s.lmp with lfsr := lfsrStep s.lmp.lfsr } }
      ∧ (∀ k, s.lmp.ditchLeft = some k →
          if k ≤ 1
            then exec .ditchPhaseToggle s =
              .next { s with lmp := { s.lmp with ditchRight := !s.lmp.ditchRight, ditchLeft := some 500 } }
            else exec .ditchPhaseToggle s = .next s)
      ∧ ((s.lamp n).fadeAge + 1000 < 31250 * ((s.lamp n).fade + 1) → exec (.fadeStep n) s = .next s)
      ∧ ((s.lamp n).lit = true → (s.lamp n).fade < 16 → 31250 * ((s.lamp n).fade + 1) ≤ (s.lamp n).fadeAge + 1000 →
          answers (.fadeStep n) s fun t =>
            (t.lamp n).fade = (s.lamp n).fade + 1 ∧ (t.lamp n).lit = true ∧ (t.lamp n).blink = (s.lamp n).blink
              ∧ (∀ m, m ≠ n.val → t.lamp m = s.lamp m) ∧ t.lmp.lfsr = s.lmp.lfsr ∧ reachesOnly [.lmp] s t)
      ∧ ((s.lamp n).strobe ≠ 49 → (s.lamp n).strobe < 999 → exec (.strobePhaseAdvance n) s = .next s)
      ∧ ((s.lamp n).lit = true ∨ (s.lamp n).switchedOn = true → (s.lamp n).strobe = 49 ∨ 999 ≤ (s.lamp n).strobe →
          answers (.strobePhaseAdvance n) s fun t =>
            (t.lamp n).strobe = (if (s.lamp n).strobe < 50 then 50 else 0) ∧ (t.lamp n).fade = (s.lamp n).fade
              ∧ (∀ m, m ≠ n.val → t.lamp m = s.lamp m) ∧ t.lmp.lfsr = s.lmp.lfsr ∧ reachesOnly [.lmp] s t)
      ∧ (∀ b, (s.lamp n).blink = some b → 1 < b.left → exec (.blinkPhaseEnd n) s = .next s)
      ∧ (∀ b, (s.lamp n).blink = some b → b.left ≤ 1 →
          answers (.blinkPhaseEnd n) s fun t =>
            (t.lamp n).blink =
                (if b.on then some ⟨b.count, false, 250⟩
                  else if b.count ≤ 1 then none else some ⟨b.count - 1, true, 250⟩)
              ∧ (t.lamp n).lit = (s.lamp n).lit ∧ (∀ m, m ≠ n.val → t.lamp m = s.lamp m) ∧ t.lmp.lfsr = s.lmp.lfsr
              ∧ reachesOnly [.lmp] s t))

/-! ### Supply and start -/

/-- In NORMAL one low sample, the track's in TRACK mode and the store's in BATTERY mode, is counted, and a second in a row is a loss; a good
sample clears the count. In TRACK mode the loss goes to BRIDGING with its timer while the store holds, smoke shedding where nothing waits at
AUT, and to DEPLETED with SUPPLY raised while it does not; BRIDGING with an exhausted store goes to DEPLETED. In BATTERY mode the loss goes
to DEPLETED. Said for an empty pending-change slot. -/
def Obligations.TrackLossLeavesNormal : Prop :=
  ∀ (s : State) (track store : Byte), s.power = .running → FailsafeLaw s.aut → s.csu.slot = .empty →
    (s.image.identity.supplyMode = .track → s.sup.state = .normal →
        (s.image.supply.trackMin ≤ track.toNat →
            answers (.supplyEvaluation track store) s fun t =>
              t.sup = { s.sup with low := 0 } ∧ reachesOnly (.sup :: settlingBlocks) s t ∧ motionKept s t)
          ∧ (track.toNat < s.image.supply.trackMin → s.sup.low = 0 →
              answers (.supplyEvaluation track store) s fun t =>
                t.sup = { s.sup with low := 1, high := 0 } ∧ reachesOnly (.sup :: settlingBlocks) s t ∧ motionKept s t)
          ∧ (track.toNat < s.image.supply.trackMin → s.sup.low = 1 → s.image.supply.storeLow ≤ store.toNat →
              answers (.supplyLoss track store) s fun t =>
                t.sup =
                    { s.sup with
                      state := .bridging, low := 0, high := 0, bridging := some s.image.supply.bridgeMax, normalHold := none }
                  ∧ (smokeHeats s.smk.state = true → t.smk.heater = false)
                  ∧ (Settled s →
                      t.smk.state =
                        if s.smk.state ∈ [.warming, .ready, .idleHold, .zoneHold] then .shed else s.smk.state)
                  ∧ reachesOnly (.sup :: settlingBlocks) s t ∧ motionKept s t)
          ∧ (track.toNat < s.image.supply.trackMin → s.sup.low = 1 → store.toNat < s.image.supply.storeLow →
              answers (.supplyLoss track store) s fun t => entersDepleted s t))
      ∧ (s.image.identity.supplyMode = .track → s.sup.state = .bridging → store.toNat < s.image.supply.storeLow →
          answers (.supplyEvaluation track store) s fun t => entersDepleted s t)
      ∧ (s.image.identity.supplyMode = .battery → s.sup.state = .normal →
          (s.image.supply.storeLow ≤ store.toNat →
              answers (.supplyEvaluation track store) s fun t =>
                t.sup = { s.sup with low := 0 } ∧ reachesOnly (.sup :: settlingBlocks) s t ∧ motionKept s t)
            ∧ (store.toNat < s.image.supply.storeLow → s.sup.low = 0 →
                answers (.supplyEvaluation track store) s fun t =>
                  t.sup = { s.sup with low := 1, high := 0 } ∧ reachesOnly (.sup :: settlingBlocks) s t ∧ motionKept s t)
            ∧ (store.toNat < s.image.supply.storeLow → s.sup.low = 1 →
                answers (.supplyLoss track store) s fun t => entersDepleted s t))

/-- Outside NORMAL a good sample is counted and a bad one clears the count, and the tenth good one in a row returns the supply to NORMAL,
the hold of 500 ms starting where SUPPLY was raised and smoke warming afresh from SHED where nothing waits at AUT. The bridging timer's
expiry raises SUPPLY, and the hold's expiry removes it, each in the timer's last ms and not before (log entry 7). -/
def Obligations.SupplyReturnsAndItsTimersExpire : Prop :=
  ∀ (s : State) (track store : Byte), s.power = .running → FailsafeLaw s.aut →
    (s.sup.state ≠ .normal → s.sup.high = 9 →
        (s.image.identity.supplyMode = .track → s.image.supply.trackMin + 4 ≤ track.toNat) →
        (s.image.identity.supplyMode = .battery → s.image.supply.storeLow + 4 ≤ store.toNat) →
        (s.sup.state = .bridging → s.image.identity.supplyMode = .track → s.image.supply.storeLow ≤ store.toNat) →
      answers (.supplyReturn track store) s fun t =>
        t.sup =
            { s.sup with
              state := .normal, low := 0, high := 0, bridging := none,
              normalHold := if s.sup.raised then some 500 else none }
          ∧ (Settled s → t.smk.state = if s.smk.state = .shed then .warming else s.smk.state)
          ∧ reachesOnly (.sup :: settlingBlocks) s t ∧ motionKept s t)
      ∧ (∀ good : Bool, s.sup.state ≠ .normal →
          (s.image.identity.supplyMode = .track → good = decide (s.image.supply.trackMin + 4 ≤ track.toNat)) →
          (s.image.identity.supplyMode = .battery → good = decide (s.image.supply.storeLow + 4 ≤ store.toNat)) →
          (s.sup.state = .bridging → s.image.identity.supplyMode = .track → s.image.supply.storeLow ≤ store.toNat) →
          (good = true → s.sup.high < 9) →
          answers (.supplyEvaluation track store) s fun t =>
            t.sup = { s.sup with high := if good then s.sup.high + 1 else 0 }
              ∧ reachesOnly (.sup :: settlingBlocks) s t ∧ motionKept s t)
      ∧ (∀ n, 1 < n →
          (s.sup.bridging = some n → exec .bridgingTimerExpires s = .next s)
            ∧ (s.sup.normalHold = some n → exec .normalHoldExpires s = .next s))
      ∧ (lastMs s.sup.bridging = true →
          answers .bridgingTimerExpires s fun t =>
            t.sup = { s.sup with bridging := none, raised := true } ∧ t.aut.causes.supply = true ∧ t.head = .failsafe
              ∧ reachesOnly (.sup :: settlingBlocks) s t ∧ motionKept s t)
      ∧ (lastMs s.sup.normalHold = true →
          answers .normalHoldExpires s fun t =>
            t.sup = { s.sup with normalHold := none, raised := false } ∧ t.aut.causes.supply = false
              ∧ reachesOnly (.sup :: settlingBlocks) s t ∧ motionKept s t)

/-- A brown-out stops a part that is not off: every block stands at its start value, the receiver off, and of a page write in flight the
bytes that had come are stored. Power begins the start sequence at a stopped part alone: the image the EEPROM holds, or the defaults with
CONFIG_INVALID, and the receiver on with an estimate of a free level (log entry 28). The entry test counts good evaluations; the tenth in a
row completes the start, with PARKED at the head and the part at rest. Where PARKED's initial part has no override and no entry actions,
every block then stands at its start value, but for the startup sound's lookup in flight, one CLAIM of PARKED counted, the wheel
sensor's level taken, and at the receiver a header in collection and the channel estimate, which the entry test's completion keeps as
they stood (log entries 26 and 28: the model's inference and its free value). That the blocks hold their start values from the brown-out
and the beginning of the sequence on, where the manual gives them at its seventh step, is the model's choice (log entries 21 and 22), as
is what an empty supervision record holds (log entry 46). -/
def Obligations.PowerGoesThroughTheStart : Prop :=
  ∀ s : State,
    (∀ (stored : BitVec 16) (memory : List Host.Cell), s.power ≠ .off →
        (s.cfg.writing = none → memory = s.eeprom) →
        (∀ w, s.cfg.writing = some w →
          memory = memWriteAll s.eeprom (w.inFlight.filter fun c => stored.getLsbD (c.1 % 16))) →
        exec (.brownOut stored) s =
          .next
            { pending := s.pending
              power := .off
              rxc := { renewals := s.rxc.renewals }
              aut := { parked := { claimed := true, started := true } }
              chg := { cam := s.chg.sensor, sensor := s.chg.sensor }
              cfg := { image := s.cfg.image, configInvalid := s.cfg.configInvalid }
              eeprom := memory
              flash := s.flash })
      ∧ (∀ answered : Bool, s.power = .off →
          exec (.powerOn answered) s =
            .next
              { pending := s.pending
                power := .starting
                rxc := freshEstimate { renewals := s.rxc.renewals }
                aut := { parked := { claimed := true, started := true } }
                chg := { cam := s.chg.sensor, sensor := s.chg.sensor }
                cfg :=
                  { image :=
                      clampImage
                        (if answered = true ∧ imageCrcHolds s.eeprom = true then imageAt (memBytes s.eeprom 0 510)
                          else defaultImage)
                    configInvalid := !(answered && imageCrcHolds s.eeprom) }
                eeprom := s.eeprom
                flash := s.flash })
      ∧ (∀ answered : Bool, s.power ≠ .off → exec (.powerOn answered) s = .next s)
      ∧ (∀ (track store : Byte) (good : Bool), s.power = .starting →
          (s.image.identity.supplyMode = .track → good = decide (s.image.supply.trackMin + 4 ≤ track.toNat)) →
          (s.image.identity.supplyMode = .battery → good = decide (s.image.supply.storeLow + 4 ≤ store.toNat)) →
          (good = false → exec (.supplyEvaluation track store) s = .next { s with sup := { s.sup with entryRun := 0 } })
            ∧ (good = true → s.sup.entryRun < 9 →
                exec (.supplyEvaluation track store) s =
                  .next { s with sup := { s.sup with entryRun := s.sup.entryRun + 1 } })
            ∧ (good = true → s.sup.entryRun = 9 →
                answers (.entryTestPassed track store) s fun t =>
                  t.power = .running ∧ t.head = .parked ∧ t.aut.parked.started = true ∧ t.spr.ref = 0
                    ∧ t.spr.running = .forward ∧ t.spr.stopped = true ∧ t.mrg = {} ∧ t.sup = {} ∧ t.ptb = {} ∧ t.tkm = {}
                    ∧ t.csu = {} ∧ t.rpt.activity = .holdoff ∧ t.rpt.credit = 0 ∧ t.cfg.image = s.cfg.image
                    ∧ t.cfg.configInvalid = s.cfg.configInvalid ∧ t.eeprom = s.eeprom ∧ FunctionLaw t
                    ∧ (s.image.ctxParked.funcMask = 0#32 → s.image.ctxParked.lampMask = 0#8 → s.image.ctxParked.mode = .never →
                        counted 11 (fun mask => mask.getLsbD 4) { s with rpt := {} } t
                          ∧ t =
                            { pending := s.pending
                              power := .running
                              rxc := { s.rxc with
                                accepted := 0, dropped := 0, rssi := 255, driverLink := {}, leadLink := {} }
                              rpt := { counterA := t.rpt.counterA, counterB := t.rpt.counterB }
                              aut := { parked := { claimed := true, started := true } }
                              chg := { cam := s.chg.sensor, sensor := s.chg.sensor }
                              snd :=
                                { port :=
                                    .lookup
                                      { hold := false
                                        owner := .system
                                        prio := s.image.sound.systemPrio
                                        group := 4
                                        index := 1 }
                                      false }
                              cfg := { image := s.cfg.image, configInvalid := s.cfg.configInvalid }
                              eeprom := s.eeprom
                              flash := s.flash })))

/-- The end of a page write that the EEPROM answers stores the page's bytes, those that came out otherwise being the command's (log entry
23). One that is not the CRC's puts the next page in flight with that page's bytes. The CRC page's completes the write: DONE where every
byte written reads back as written, WRITE_FAILED otherwise. One that the EEPROM does not answer completes the write with WRITE_FAILED at
any page. A completed write makes a report due, and where a restart waits the start sequence begins in the same event. The state that
begins it is the model's choice: every block at its start value from the sequence's beginning on, steps 1 to 5 as one event, and an
estimate of a free level (log entries 21, 27 and 28). That a WRITE in the last page alone fails for want of an answer only here is the
model's choice too (log entry 52), and so is that the lower of two data pages comes first (log entry 53). -/
def Obligations.PageWritesLeadToDone : Prop :=
  ∀ (s : State) (w : Writing) (wrong : List (Nat × BitVec 8)) (again : Bool),
    s.power = .running → s.cfg.writing = some w →
    (w.hasCrc = false →
      answers (.pageWriteComplete true wrong again) s fun t =>
        t.eeprom = pageStored s.eeprom w wrong
          ∧ t.cfg =
              { s.cfg with
                writing :=
                  some
                    { offset := w.offset
                      count := w.count
                      data := w.data
                      page := nextPage w.offset w.count w.page
                      inFlight := pageCells t.eeprom w.offset w.data (nextPage w.offset w.count w.page)
                      hasCrc := nextPage w.offset w.count w.page == 31
                      written := w.written ++ w.inFlight } }
          ∧ reachesOnly (.cfg :: .eeprom :: settlingBlocks) s t ∧ motionKept s t)
      ∧ (∀ answered : Bool, (answered = true → w.hasCrc = true) → s.cfg.restartPending = false →
          answers (.pageWriteComplete answered wrong again) s fun t =>
            t.eeprom = pageStored s.eeprom w wrong
              ∧ t.cfg =
                  { s.cfg with
                    writing := none
                    status :=
                      if answered = true ∧ ∀ c ∈ w.written ++ w.inFlight, memRead t.eeprom c.1 = c.2 then .done
                      else .writeFailed }
              ∧ t.rpt.due = true ∧ reachesOnly (.cfg :: .eeprom :: settlingBlocks) s t ∧ motionKept s t)
      ∧ (∀ answered : Bool, (answered = true → w.hasCrc = true) → s.cfg.restartPending = true →
          exec (.pageWriteComplete answered wrong again) s =
            .next
              { pending := s.pending
                power := .starting
                rxc := freshEstimate { renewals := s.rxc.renewals }
                aut := { parked := { claimed := true, started := true } }
                chg := { cam := s.chg.sensor, sensor := s.chg.sensor }
                cfg :=
                  { image := chosenImage (pageStored s.eeprom w wrong) again
                    configInvalid := !(again && imageCrcHolds (pageStored s.eeprom w wrong)) }
                eeprom := pageStored s.eeprom w wrong
                flash := s.flash })
end

