-- ==== Sys2Proof/Laws/State.lean ====
section
/-! SUPPORT. Reading each field of State after each block's update: the field updated, and every other field as it was. -/

namespace Sys2Proof.Machine

section onRxc

variable (s : State) (f : Rxc → Rxc)

@[simp] theorem onRxc_pending : (s.onRxc f).pending = s.pending := rfl
@[simp] theorem onRxc_power : (s.onRxc f).power = s.power := rfl
@[simp] theorem onRxc_rxc : (s.onRxc f).rxc = f s.rxc := rfl
@[simp] theorem onRxc_rpt : (s.onRxc f).rpt = s.rpt := rfl
@[simp] theorem onRxc_ptb : (s.onRxc f).ptb = s.ptb := rfl
@[simp] theorem onRxc_tkm : (s.onRxc f).tkm = s.tkm := rfl
@[simp] theorem onRxc_aut : (s.onRxc f).aut = s.aut := rfl
@[simp] theorem onRxc_csu : (s.onRxc f).csu = s.csu := rfl
@[simp] theorem onRxc_spr : (s.onRxc f).spr = s.spr := rfl
@[simp] theorem onRxc_mrg : (s.onRxc f).mrg = s.mrg := rfl
@[simp] theorem onRxc_fnm : (s.onRxc f).fnm = s.fnm := rfl
@[simp] theorem onRxc_chg : (s.onRxc f).chg = s.chg := rfl
@[simp] theorem onRxc_snd : (s.onRxc f).snd = s.snd := rfl
@[simp] theorem onRxc_smk : (s.onRxc f).smk = s.smk := rfl
@[simp] theorem onRxc_lmp : (s.onRxc f).lmp = s.lmp := rfl
@[simp] theorem onRxc_sup : (s.onRxc f).sup = s.sup := rfl
@[simp] theorem onRxc_cfg : (s.onRxc f).cfg = s.cfg := rfl
@[simp] theorem onRxc_eeprom : (s.onRxc f).eeprom = s.eeprom := rfl
@[simp] theorem onRxc_flash : (s.onRxc f).flash = s.flash := rfl

end onRxc

section onRpt

variable (s : State) (f : Rpt → Rpt)

@[simp] theorem onRpt_pending : (s.onRpt f).pending = s.pending := rfl
@[simp] theorem onRpt_power : (s.onRpt f).power = s.power := rfl
@[simp] theorem onRpt_rxc : (s.onRpt f).rxc = s.rxc := rfl
@[simp] theorem onRpt_rpt : (s.onRpt f).rpt = f s.rpt := rfl
@[simp] theorem onRpt_ptb : (s.onRpt f).ptb = s.ptb := rfl
@[simp] theorem onRpt_tkm : (s.onRpt f).tkm = s.tkm := rfl
@[simp] theorem onRpt_aut : (s.onRpt f).aut = s.aut := rfl
@[simp] theorem onRpt_csu : (s.onRpt f).csu = s.csu := rfl
@[simp] theorem onRpt_spr : (s.onRpt f).spr = s.spr := rfl
@[simp] theorem onRpt_mrg : (s.onRpt f).mrg = s.mrg := rfl
@[simp] theorem onRpt_fnm : (s.onRpt f).fnm = s.fnm := rfl
@[simp] theorem onRpt_chg : (s.onRpt f).chg = s.chg := rfl
@[simp] theorem onRpt_snd : (s.onRpt f).snd = s.snd := rfl
@[simp] theorem onRpt_smk : (s.onRpt f).smk = s.smk := rfl
@[simp] theorem onRpt_lmp : (s.onRpt f).lmp = s.lmp := rfl
@[simp] theorem onRpt_sup : (s.onRpt f).sup = s.sup := rfl
@[simp] theorem onRpt_cfg : (s.onRpt f).cfg = s.cfg := rfl
@[simp] theorem onRpt_eeprom : (s.onRpt f).eeprom = s.eeprom := rfl
@[simp] theorem onRpt_flash : (s.onRpt f).flash = s.flash := rfl

end onRpt

section onPtb

variable (s : State) (f : Ptb → Ptb)

@[simp] theorem onPtb_pending : (s.onPtb f).pending = s.pending := rfl
@[simp] theorem onPtb_power : (s.onPtb f).power = s.power := rfl
@[simp] theorem onPtb_rxc : (s.onPtb f).rxc = s.rxc := rfl
@[simp] theorem onPtb_rpt : (s.onPtb f).rpt = s.rpt := rfl
@[simp] theorem onPtb_ptb : (s.onPtb f).ptb = f s.ptb := rfl
@[simp] theorem onPtb_tkm : (s.onPtb f).tkm = s.tkm := rfl
@[simp] theorem onPtb_aut : (s.onPtb f).aut = s.aut := rfl
@[simp] theorem onPtb_csu : (s.onPtb f).csu = s.csu := rfl
@[simp] theorem onPtb_spr : (s.onPtb f).spr = s.spr := rfl
@[simp] theorem onPtb_mrg : (s.onPtb f).mrg = s.mrg := rfl
@[simp] theorem onPtb_fnm : (s.onPtb f).fnm = s.fnm := rfl
@[simp] theorem onPtb_chg : (s.onPtb f).chg = s.chg := rfl
@[simp] theorem onPtb_snd : (s.onPtb f).snd = s.snd := rfl
@[simp] theorem onPtb_smk : (s.onPtb f).smk = s.smk := rfl
@[simp] theorem onPtb_lmp : (s.onPtb f).lmp = s.lmp := rfl
@[simp] theorem onPtb_sup : (s.onPtb f).sup = s.sup := rfl
@[simp] theorem onPtb_cfg : (s.onPtb f).cfg = s.cfg := rfl
@[simp] theorem onPtb_eeprom : (s.onPtb f).eeprom = s.eeprom := rfl
@[simp] theorem onPtb_flash : (s.onPtb f).flash = s.flash := rfl

end onPtb

section onTkm

variable (s : State) (f : Tkm → Tkm)

@[simp] theorem onTkm_pending : (s.onTkm f).pending = s.pending := rfl
@[simp] theorem onTkm_power : (s.onTkm f).power = s.power := rfl
@[simp] theorem onTkm_rxc : (s.onTkm f).rxc = s.rxc := rfl
@[simp] theorem onTkm_rpt : (s.onTkm f).rpt = s.rpt := rfl
@[simp] theorem onTkm_ptb : (s.onTkm f).ptb = s.ptb := rfl
@[simp] theorem onTkm_tkm : (s.onTkm f).tkm = f s.tkm := rfl
@[simp] theorem onTkm_aut : (s.onTkm f).aut = s.aut := rfl
@[simp] theorem onTkm_csu : (s.onTkm f).csu = s.csu := rfl
@[simp] theorem onTkm_spr : (s.onTkm f).spr = s.spr := rfl
@[simp] theorem onTkm_mrg : (s.onTkm f).mrg = s.mrg := rfl
@[simp] theorem onTkm_fnm : (s.onTkm f).fnm = s.fnm := rfl
@[simp] theorem onTkm_chg : (s.onTkm f).chg = s.chg := rfl
@[simp] theorem onTkm_snd : (s.onTkm f).snd = s.snd := rfl
@[simp] theorem onTkm_smk : (s.onTkm f).smk = s.smk := rfl
@[simp] theorem onTkm_lmp : (s.onTkm f).lmp = s.lmp := rfl
@[simp] theorem onTkm_sup : (s.onTkm f).sup = s.sup := rfl
@[simp] theorem onTkm_cfg : (s.onTkm f).cfg = s.cfg := rfl
@[simp] theorem onTkm_eeprom : (s.onTkm f).eeprom = s.eeprom := rfl
@[simp] theorem onTkm_flash : (s.onTkm f).flash = s.flash := rfl

end onTkm

section onAut

variable (s : State) (f : Aut → Aut)

@[simp] theorem onAut_pending : (s.onAut f).pending = s.pending := rfl
@[simp] theorem onAut_power : (s.onAut f).power = s.power := rfl
@[simp] theorem onAut_rxc : (s.onAut f).rxc = s.rxc := rfl
@[simp] theorem onAut_rpt : (s.onAut f).rpt = s.rpt := rfl
@[simp] theorem onAut_ptb : (s.onAut f).ptb = s.ptb := rfl
@[simp] theorem onAut_tkm : (s.onAut f).tkm = s.tkm := rfl
@[simp] theorem onAut_aut : (s.onAut f).aut = f s.aut := rfl
@[simp] theorem onAut_csu : (s.onAut f).csu = s.csu := rfl
@[simp] theorem onAut_spr : (s.onAut f).spr = s.spr := rfl
@[simp] theorem onAut_mrg : (s.onAut f).mrg = s.mrg := rfl
@[simp] theorem onAut_fnm : (s.onAut f).fnm = s.fnm := rfl
@[simp] theorem onAut_chg : (s.onAut f).chg = s.chg := rfl
@[simp] theorem onAut_snd : (s.onAut f).snd = s.snd := rfl
@[simp] theorem onAut_smk : (s.onAut f).smk = s.smk := rfl
@[simp] theorem onAut_lmp : (s.onAut f).lmp = s.lmp := rfl
@[simp] theorem onAut_sup : (s.onAut f).sup = s.sup := rfl
@[simp] theorem onAut_cfg : (s.onAut f).cfg = s.cfg := rfl
@[simp] theorem onAut_eeprom : (s.onAut f).eeprom = s.eeprom := rfl
@[simp] theorem onAut_flash : (s.onAut f).flash = s.flash := rfl

end onAut

section onCsu

variable (s : State) (f : Csu → Csu)

@[simp] theorem onCsu_pending : (s.onCsu f).pending = s.pending := rfl
@[simp] theorem onCsu_power : (s.onCsu f).power = s.power := rfl
@[simp] theorem onCsu_rxc : (s.onCsu f).rxc = s.rxc := rfl
@[simp] theorem onCsu_rpt : (s.onCsu f).rpt = s.rpt := rfl
@[simp] theorem onCsu_ptb : (s.onCsu f).ptb = s.ptb := rfl
@[simp] theorem onCsu_tkm : (s.onCsu f).tkm = s.tkm := rfl
@[simp] theorem onCsu_aut : (s.onCsu f).aut = s.aut := rfl
@[simp] theorem onCsu_csu : (s.onCsu f).csu = f s.csu := rfl
@[simp] theorem onCsu_spr : (s.onCsu f).spr = s.spr := rfl
@[simp] theorem onCsu_mrg : (s.onCsu f).mrg = s.mrg := rfl
@[simp] theorem onCsu_fnm : (s.onCsu f).fnm = s.fnm := rfl
@[simp] theorem onCsu_chg : (s.onCsu f).chg = s.chg := rfl
@[simp] theorem onCsu_snd : (s.onCsu f).snd = s.snd := rfl
@[simp] theorem onCsu_smk : (s.onCsu f).smk = s.smk := rfl
@[simp] theorem onCsu_lmp : (s.onCsu f).lmp = s.lmp := rfl
@[simp] theorem onCsu_sup : (s.onCsu f).sup = s.sup := rfl
@[simp] theorem onCsu_cfg : (s.onCsu f).cfg = s.cfg := rfl
@[simp] theorem onCsu_eeprom : (s.onCsu f).eeprom = s.eeprom := rfl
@[simp] theorem onCsu_flash : (s.onCsu f).flash = s.flash := rfl

end onCsu

section onSpr

variable (s : State) (f : Spr → Spr)

@[simp] theorem onSpr_pending : (s.onSpr f).pending = s.pending := rfl
@[simp] theorem onSpr_power : (s.onSpr f).power = s.power := rfl
@[simp] theorem onSpr_rxc : (s.onSpr f).rxc = s.rxc := rfl
@[simp] theorem onSpr_rpt : (s.onSpr f).rpt = s.rpt := rfl
@[simp] theorem onSpr_ptb : (s.onSpr f).ptb = s.ptb := rfl
@[simp] theorem onSpr_tkm : (s.onSpr f).tkm = s.tkm := rfl
@[simp] theorem onSpr_aut : (s.onSpr f).aut = s.aut := rfl
@[simp] theorem onSpr_csu : (s.onSpr f).csu = s.csu := rfl
@[simp] theorem onSpr_spr : (s.onSpr f).spr = f s.spr := rfl
@[simp] theorem onSpr_mrg : (s.onSpr f).mrg = s.mrg := rfl
@[simp] theorem onSpr_fnm : (s.onSpr f).fnm = s.fnm := rfl
@[simp] theorem onSpr_chg : (s.onSpr f).chg = s.chg := rfl
@[simp] theorem onSpr_snd : (s.onSpr f).snd = s.snd := rfl
@[simp] theorem onSpr_smk : (s.onSpr f).smk = s.smk := rfl
@[simp] theorem onSpr_lmp : (s.onSpr f).lmp = s.lmp := rfl
@[simp] theorem onSpr_sup : (s.onSpr f).sup = s.sup := rfl
@[simp] theorem onSpr_cfg : (s.onSpr f).cfg = s.cfg := rfl
@[simp] theorem onSpr_eeprom : (s.onSpr f).eeprom = s.eeprom := rfl
@[simp] theorem onSpr_flash : (s.onSpr f).flash = s.flash := rfl

end onSpr

section onMrg

variable (s : State) (f : Mrg → Mrg)

@[simp] theorem onMrg_pending : (s.onMrg f).pending = s.pending := rfl
@[simp] theorem onMrg_power : (s.onMrg f).power = s.power := rfl
@[simp] theorem onMrg_rxc : (s.onMrg f).rxc = s.rxc := rfl
@[simp] theorem onMrg_rpt : (s.onMrg f).rpt = s.rpt := rfl
@[simp] theorem onMrg_ptb : (s.onMrg f).ptb = s.ptb := rfl
@[simp] theorem onMrg_tkm : (s.onMrg f).tkm = s.tkm := rfl
@[simp] theorem onMrg_aut : (s.onMrg f).aut = s.aut := rfl
@[simp] theorem onMrg_csu : (s.onMrg f).csu = s.csu := rfl
@[simp] theorem onMrg_spr : (s.onMrg f).spr = s.spr := rfl
@[simp] theorem onMrg_mrg : (s.onMrg f).mrg = f s.mrg := rfl
@[simp] theorem onMrg_fnm : (s.onMrg f).fnm = s.fnm := rfl
@[simp] theorem onMrg_chg : (s.onMrg f).chg = s.chg := rfl
@[simp] theorem onMrg_snd : (s.onMrg f).snd = s.snd := rfl
@[simp] theorem onMrg_smk : (s.onMrg f).smk = s.smk := rfl
@[simp] theorem onMrg_lmp : (s.onMrg f).lmp = s.lmp := rfl
@[simp] theorem onMrg_sup : (s.onMrg f).sup = s.sup := rfl
@[simp] theorem onMrg_cfg : (s.onMrg f).cfg = s.cfg := rfl
@[simp] theorem onMrg_eeprom : (s.onMrg f).eeprom = s.eeprom := rfl
@[simp] theorem onMrg_flash : (s.onMrg f).flash = s.flash := rfl

end onMrg

section onFnm

variable (s : State) (f : Fnm → Fnm)

@[simp] theorem onFnm_pending : (s.onFnm f).pending = s.pending := rfl
@[simp] theorem onFnm_power : (s.onFnm f).power = s.power := rfl
@[simp] theorem onFnm_rxc : (s.onFnm f).rxc = s.rxc := rfl
@[simp] theorem onFnm_rpt : (s.onFnm f).rpt = s.rpt := rfl
@[simp] theorem onFnm_ptb : (s.onFnm f).ptb = s.ptb := rfl
@[simp] theorem onFnm_tkm : (s.onFnm f).tkm = s.tkm := rfl
@[simp] theorem onFnm_aut : (s.onFnm f).aut = s.aut := rfl
@[simp] theorem onFnm_csu : (s.onFnm f).csu = s.csu := rfl
@[simp] theorem onFnm_spr : (s.onFnm f).spr = s.spr := rfl
@[simp] theorem onFnm_mrg : (s.onFnm f).mrg = s.mrg := rfl
@[simp] theorem onFnm_fnm : (s.onFnm f).fnm = f s.fnm := rfl
@[simp] theorem onFnm_chg : (s.onFnm f).chg = s.chg := rfl
@[simp] theorem onFnm_snd : (s.onFnm f).snd = s.snd := rfl
@[simp] theorem onFnm_smk : (s.onFnm f).smk = s.smk := rfl
@[simp] theorem onFnm_lmp : (s.onFnm f).lmp = s.lmp := rfl
@[simp] theorem onFnm_sup : (s.onFnm f).sup = s.sup := rfl
@[simp] theorem onFnm_cfg : (s.onFnm f).cfg = s.cfg := rfl
@[simp] theorem onFnm_eeprom : (s.onFnm f).eeprom = s.eeprom := rfl
@[simp] theorem onFnm_flash : (s.onFnm f).flash = s.flash := rfl

end onFnm

section onChg

variable (s : State) (f : Chg → Chg)

@[simp] theorem onChg_pending : (s.onChg f).pending = s.pending := rfl
@[simp] theorem onChg_power : (s.onChg f).power = s.power := rfl
@[simp] theorem onChg_rxc : (s.onChg f).rxc = s.rxc := rfl
@[simp] theorem onChg_rpt : (s.onChg f).rpt = s.rpt := rfl
@[simp] theorem onChg_ptb : (s.onChg f).ptb = s.ptb := rfl
@[simp] theorem onChg_tkm : (s.onChg f).tkm = s.tkm := rfl
@[simp] theorem onChg_aut : (s.onChg f).aut = s.aut := rfl
@[simp] theorem onChg_csu : (s.onChg f).csu = s.csu := rfl
@[simp] theorem onChg_spr : (s.onChg f).spr = s.spr := rfl
@[simp] theorem onChg_mrg : (s.onChg f).mrg = s.mrg := rfl
@[simp] theorem onChg_fnm : (s.onChg f).fnm = s.fnm := rfl
@[simp] theorem onChg_chg : (s.onChg f).chg = f s.chg := rfl
@[simp] theorem onChg_snd : (s.onChg f).snd = s.snd := rfl
@[simp] theorem onChg_smk : (s.onChg f).smk = s.smk := rfl
@[simp] theorem onChg_lmp : (s.onChg f).lmp = s.lmp := rfl
@[simp] theorem onChg_sup : (s.onChg f).sup = s.sup := rfl
@[simp] theorem onChg_cfg : (s.onChg f).cfg = s.cfg := rfl
@[simp] theorem onChg_eeprom : (s.onChg f).eeprom = s.eeprom := rfl
@[simp] theorem onChg_flash : (s.onChg f).flash = s.flash := rfl

end onChg

section onSnd

variable (s : State) (f : Snd → Snd)

@[simp] theorem onSnd_pending : (s.onSnd f).pending = s.pending := rfl
@[simp] theorem onSnd_power : (s.onSnd f).power = s.power := rfl
@[simp] theorem onSnd_rxc : (s.onSnd f).rxc = s.rxc := rfl
@[simp] theorem onSnd_rpt : (s.onSnd f).rpt = s.rpt := rfl
@[simp] theorem onSnd_ptb : (s.onSnd f).ptb = s.ptb := rfl
@[simp] theorem onSnd_tkm : (s.onSnd f).tkm = s.tkm := rfl
@[simp] theorem onSnd_aut : (s.onSnd f).aut = s.aut := rfl
@[simp] theorem onSnd_csu : (s.onSnd f).csu = s.csu := rfl
@[simp] theorem onSnd_spr : (s.onSnd f).spr = s.spr := rfl
@[simp] theorem onSnd_mrg : (s.onSnd f).mrg = s.mrg := rfl
@[simp] theorem onSnd_fnm : (s.onSnd f).fnm = s.fnm := rfl
@[simp] theorem onSnd_chg : (s.onSnd f).chg = s.chg := rfl
@[simp] theorem onSnd_snd : (s.onSnd f).snd = f s.snd := rfl
@[simp] theorem onSnd_smk : (s.onSnd f).smk = s.smk := rfl
@[simp] theorem onSnd_lmp : (s.onSnd f).lmp = s.lmp := rfl
@[simp] theorem onSnd_sup : (s.onSnd f).sup = s.sup := rfl
@[simp] theorem onSnd_cfg : (s.onSnd f).cfg = s.cfg := rfl
@[simp] theorem onSnd_eeprom : (s.onSnd f).eeprom = s.eeprom := rfl
@[simp] theorem onSnd_flash : (s.onSnd f).flash = s.flash := rfl

end onSnd

section onSmk

variable (s : State) (f : Smk → Smk)

@[simp] theorem onSmk_pending : (s.onSmk f).pending = s.pending := rfl
@[simp] theorem onSmk_power : (s.onSmk f).power = s.power := rfl
@[simp] theorem onSmk_rxc : (s.onSmk f).rxc = s.rxc := rfl
@[simp] theorem onSmk_rpt : (s.onSmk f).rpt = s.rpt := rfl
@[simp] theorem onSmk_ptb : (s.onSmk f).ptb = s.ptb := rfl
@[simp] theorem onSmk_tkm : (s.onSmk f).tkm = s.tkm := rfl
@[simp] theorem onSmk_aut : (s.onSmk f).aut = s.aut := rfl
@[simp] theorem onSmk_csu : (s.onSmk f).csu = s.csu := rfl
@[simp] theorem onSmk_spr : (s.onSmk f).spr = s.spr := rfl
@[simp] theorem onSmk_mrg : (s.onSmk f).mrg = s.mrg := rfl
@[simp] theorem onSmk_fnm : (s.onSmk f).fnm = s.fnm := rfl
@[simp] theorem onSmk_chg : (s.onSmk f).chg = s.chg := rfl
@[simp] theorem onSmk_snd : (s.onSmk f).snd = s.snd := rfl
@[simp] theorem onSmk_smk : (s.onSmk f).smk = f s.smk := rfl
@[simp] theorem onSmk_lmp : (s.onSmk f).lmp = s.lmp := rfl
@[simp] theorem onSmk_sup : (s.onSmk f).sup = s.sup := rfl
@[simp] theorem onSmk_cfg : (s.onSmk f).cfg = s.cfg := rfl
@[simp] theorem onSmk_eeprom : (s.onSmk f).eeprom = s.eeprom := rfl
@[simp] theorem onSmk_flash : (s.onSmk f).flash = s.flash := rfl

end onSmk

section onLmp

variable (s : State) (f : Lmp → Lmp)

@[simp] theorem onLmp_pending : (s.onLmp f).pending = s.pending := rfl
@[simp] theorem onLmp_power : (s.onLmp f).power = s.power := rfl
@[simp] theorem onLmp_rxc : (s.onLmp f).rxc = s.rxc := rfl
@[simp] theorem onLmp_rpt : (s.onLmp f).rpt = s.rpt := rfl
@[simp] theorem onLmp_ptb : (s.onLmp f).ptb = s.ptb := rfl
@[simp] theorem onLmp_tkm : (s.onLmp f).tkm = s.tkm := rfl
@[simp] theorem onLmp_aut : (s.onLmp f).aut = s.aut := rfl
@[simp] theorem onLmp_csu : (s.onLmp f).csu = s.csu := rfl
@[simp] theorem onLmp_spr : (s.onLmp f).spr = s.spr := rfl
@[simp] theorem onLmp_mrg : (s.onLmp f).mrg = s.mrg := rfl
@[simp] theorem onLmp_fnm : (s.onLmp f).fnm = s.fnm := rfl
@[simp] theorem onLmp_chg : (s.onLmp f).chg = s.chg := rfl
@[simp] theorem onLmp_snd : (s.onLmp f).snd = s.snd := rfl
@[simp] theorem onLmp_smk : (s.onLmp f).smk = s.smk := rfl
@[simp] theorem onLmp_lmp : (s.onLmp f).lmp = f s.lmp := rfl
@[simp] theorem onLmp_sup : (s.onLmp f).sup = s.sup := rfl
@[simp] theorem onLmp_cfg : (s.onLmp f).cfg = s.cfg := rfl
@[simp] theorem onLmp_eeprom : (s.onLmp f).eeprom = s.eeprom := rfl
@[simp] theorem onLmp_flash : (s.onLmp f).flash = s.flash := rfl

end onLmp

section onSup

variable (s : State) (f : Sup → Sup)

@[simp] theorem onSup_pending : (s.onSup f).pending = s.pending := rfl
@[simp] theorem onSup_power : (s.onSup f).power = s.power := rfl
@[simp] theorem onSup_rxc : (s.onSup f).rxc = s.rxc := rfl
@[simp] theorem onSup_rpt : (s.onSup f).rpt = s.rpt := rfl
@[simp] theorem onSup_ptb : (s.onSup f).ptb = s.ptb := rfl
@[simp] theorem onSup_tkm : (s.onSup f).tkm = s.tkm := rfl
@[simp] theorem onSup_aut : (s.onSup f).aut = s.aut := rfl
@[simp] theorem onSup_csu : (s.onSup f).csu = s.csu := rfl
@[simp] theorem onSup_spr : (s.onSup f).spr = s.spr := rfl
@[simp] theorem onSup_mrg : (s.onSup f).mrg = s.mrg := rfl
@[simp] theorem onSup_fnm : (s.onSup f).fnm = s.fnm := rfl
@[simp] theorem onSup_chg : (s.onSup f).chg = s.chg := rfl
@[simp] theorem onSup_snd : (s.onSup f).snd = s.snd := rfl
@[simp] theorem onSup_smk : (s.onSup f).smk = s.smk := rfl
@[simp] theorem onSup_lmp : (s.onSup f).lmp = s.lmp := rfl
@[simp] theorem onSup_sup : (s.onSup f).sup = f s.sup := rfl
@[simp] theorem onSup_cfg : (s.onSup f).cfg = s.cfg := rfl
@[simp] theorem onSup_eeprom : (s.onSup f).eeprom = s.eeprom := rfl
@[simp] theorem onSup_flash : (s.onSup f).flash = s.flash := rfl

end onSup

section onCfg

variable (s : State) (f : Cfg → Cfg)

@[simp] theorem onCfg_pending : (s.onCfg f).pending = s.pending := rfl
@[simp] theorem onCfg_power : (s.onCfg f).power = s.power := rfl
@[simp] theorem onCfg_rxc : (s.onCfg f).rxc = s.rxc := rfl
@[simp] theorem onCfg_rpt : (s.onCfg f).rpt = s.rpt := rfl
@[simp] theorem onCfg_ptb : (s.onCfg f).ptb = s.ptb := rfl
@[simp] theorem onCfg_tkm : (s.onCfg f).tkm = s.tkm := rfl
@[simp] theorem onCfg_aut : (s.onCfg f).aut = s.aut := rfl
@[simp] theorem onCfg_csu : (s.onCfg f).csu = s.csu := rfl
@[simp] theorem onCfg_spr : (s.onCfg f).spr = s.spr := rfl
@[simp] theorem onCfg_mrg : (s.onCfg f).mrg = s.mrg := rfl
@[simp] theorem onCfg_fnm : (s.onCfg f).fnm = s.fnm := rfl
@[simp] theorem onCfg_chg : (s.onCfg f).chg = s.chg := rfl
@[simp] theorem onCfg_snd : (s.onCfg f).snd = s.snd := rfl
@[simp] theorem onCfg_smk : (s.onCfg f).smk = s.smk := rfl
@[simp] theorem onCfg_lmp : (s.onCfg f).lmp = s.lmp := rfl
@[simp] theorem onCfg_sup : (s.onCfg f).sup = s.sup := rfl
@[simp] theorem onCfg_cfg : (s.onCfg f).cfg = f s.cfg := rfl
@[simp] theorem onCfg_eeprom : (s.onCfg f).eeprom = s.eeprom := rfl
@[simp] theorem onCfg_flash : (s.onCfg f).flash = s.flash := rfl

end onCfg

section onEeprom

variable (s : State) (f : List Host.Cell → List Host.Cell)

@[simp] theorem onEeprom_pending : (s.onEeprom f).pending = s.pending := rfl
@[simp] theorem onEeprom_power : (s.onEeprom f).power = s.power := rfl
@[simp] theorem onEeprom_rxc : (s.onEeprom f).rxc = s.rxc := rfl
@[simp] theorem onEeprom_rpt : (s.onEeprom f).rpt = s.rpt := rfl
@[simp] theorem onEeprom_ptb : (s.onEeprom f).ptb = s.ptb := rfl
@[simp] theorem onEeprom_tkm : (s.onEeprom f).tkm = s.tkm := rfl
@[simp] theorem onEeprom_aut : (s.onEeprom f).aut = s.aut := rfl
@[simp] theorem onEeprom_csu : (s.onEeprom f).csu = s.csu := rfl
@[simp] theorem onEeprom_spr : (s.onEeprom f).spr = s.spr := rfl
@[simp] theorem onEeprom_mrg : (s.onEeprom f).mrg = s.mrg := rfl
@[simp] theorem onEeprom_fnm : (s.onEeprom f).fnm = s.fnm := rfl
@[simp] theorem onEeprom_chg : (s.onEeprom f).chg = s.chg := rfl
@[simp] theorem onEeprom_snd : (s.onEeprom f).snd = s.snd := rfl
@[simp] theorem onEeprom_smk : (s.onEeprom f).smk = s.smk := rfl
@[simp] theorem onEeprom_lmp : (s.onEeprom f).lmp = s.lmp := rfl
@[simp] theorem onEeprom_sup : (s.onEeprom f).sup = s.sup := rfl
@[simp] theorem onEeprom_cfg : (s.onEeprom f).cfg = s.cfg := rfl
@[simp] theorem onEeprom_eeprom : (s.onEeprom f).eeprom = f s.eeprom := rfl
@[simp] theorem onEeprom_flash : (s.onEeprom f).flash = s.flash := rfl

end onEeprom

/-! ### The channel estimate renewed (R3; entry 28): everything else of RXC as it was -/

section freshEstimate

variable (r : Rxc)

@[simp] theorem freshEstimate_collecting : (freshEstimate r).collecting = r.collecting := rfl
@[simp] theorem freshEstimate_estimate : (freshEstimate r).estimate = some (clampLevel (Config.channelLevel r.renewals)) := rfl
@[simp] theorem freshEstimate_renewals : (freshEstimate r).renewals = r.renewals + 1 := rfl
@[simp] theorem freshEstimate_accepted : (freshEstimate r).accepted = r.accepted := rfl
@[simp] theorem freshEstimate_dropped : (freshEstimate r).dropped = r.dropped := rfl
@[simp] theorem freshEstimate_rssi : (freshEstimate r).rssi = r.rssi := rfl
@[simp] theorem freshEstimate_driverLink : (freshEstimate r).driverLink = r.driverLink := rfl
@[simp] theorem freshEstimate_leadLink : (freshEstimate r).leadLink = r.leadLink := rfl

end freshEstimate

end Sys2Proof.Machine
end

