-- ==== Sys2Proof/Laws/OpsFrames.lean ====
section
/-! SUPPORT. What each shared operation leaves as it was, block by block: one lemma per operation, every untouched field in it. -/

namespace Sys2Proof.Machine

@[simp] theorem signal_frame (e : DiagEvent) (s : State) :
    (s.signal e).pending = s.pending ∧ (s.signal e).power = s.power ∧ (s.signal e).rxc = s.rxc ∧ (s.signal e).ptb = s.ptb ∧
    (s.signal e).tkm = s.tkm ∧ (s.signal e).aut = s.aut ∧ (s.signal e).csu = s.csu ∧ (s.signal e).spr = s.spr ∧
    (s.signal e).mrg = s.mrg ∧ (s.signal e).fnm = s.fnm ∧ (s.signal e).chg = s.chg ∧ (s.signal e).snd = s.snd ∧
    (s.signal e).smk = s.smk ∧ (s.signal e).lmp = s.lmp ∧ (s.signal e).sup = s.sup ∧ (s.signal e).cfg = s.cfg ∧
    (s.signal e).eeprom = s.eeprom ∧ (s.signal e).flash = s.flash :=
  by
  simp [State.signal]

@[simp] theorem makeDue_frame (s : State) :
    (s.makeDue).pending = s.pending ∧ (s.makeDue).power = s.power ∧ (s.makeDue).rxc = s.rxc ∧ (s.makeDue).ptb = s.ptb ∧
    (s.makeDue).tkm = s.tkm ∧ (s.makeDue).aut = s.aut ∧ (s.makeDue).csu = s.csu ∧ (s.makeDue).spr = s.spr ∧
    (s.makeDue).mrg = s.mrg ∧ (s.makeDue).fnm = s.fnm ∧ (s.makeDue).chg = s.chg ∧ (s.makeDue).snd = s.snd ∧
    (s.makeDue).smk = s.smk ∧ (s.makeDue).lmp = s.lmp ∧ (s.makeDue).sup = s.sup ∧ (s.makeDue).cfg = s.cfg ∧
    (s.makeDue).eeprom = s.eeprom ∧ (s.makeDue).flash = s.flash :=
  by
  simp [State.makeDue]

@[simp] theorem periodTest_frame (s : State) :
    (s.periodTest).pending = s.pending ∧ (s.periodTest).power = s.power ∧ (s.periodTest).rxc = s.rxc ∧
    (s.periodTest).ptb = s.ptb ∧ (s.periodTest).tkm = s.tkm ∧ (s.periodTest).aut = s.aut ∧ (s.periodTest).csu = s.csu ∧
    (s.periodTest).spr = s.spr ∧ (s.periodTest).mrg = s.mrg ∧ (s.periodTest).fnm = s.fnm ∧ (s.periodTest).chg = s.chg ∧
    (s.periodTest).snd = s.snd ∧ (s.periodTest).smk = s.smk ∧ (s.periodTest).lmp = s.lmp ∧ (s.periodTest).sup = s.sup ∧
    (s.periodTest).cfg = s.cfg ∧ (s.periodTest).eeprom = s.eeprom ∧ (s.periodTest).flash = s.flash :=
  by
  unfold State.periodTest; (repeat' split) <;> simp

@[simp] theorem reportTest_frame (s0 : State) (s : State) :
    (s.reportTest s0).pending = s.pending ∧ (s.reportTest s0).power = s.power ∧ (s.reportTest s0).rxc = s.rxc ∧
    (s.reportTest s0).ptb = s.ptb ∧ (s.reportTest s0).tkm = s.tkm ∧ (s.reportTest s0).aut = s.aut ∧
    (s.reportTest s0).csu = s.csu ∧ (s.reportTest s0).spr = s.spr ∧ (s.reportTest s0).mrg = s.mrg ∧
    (s.reportTest s0).fnm = s.fnm ∧ (s.reportTest s0).chg = s.chg ∧ (s.reportTest s0).snd = s.snd ∧
    (s.reportTest s0).smk = s.smk ∧ (s.reportTest s0).lmp = s.lmp ∧ (s.reportTest s0).sup = s.sup ∧
    (s.reportTest s0).cfg = s.cfg ∧ (s.reportTest s0).eeprom = s.eeprom ∧ (s.reportTest s0).flash = s.flash :=
  by
  unfold State.reportTest; split <;> simp

@[simp] theorem answer_frame (st : ServiceStatus) (s : State) :
    (s.answer st).pending = s.pending ∧ (s.answer st).power = s.power ∧ (s.answer st).rxc = s.rxc ∧
    (s.answer st).ptb = s.ptb ∧ (s.answer st).tkm = s.tkm ∧ (s.answer st).aut = s.aut ∧ (s.answer st).csu = s.csu ∧
    (s.answer st).spr = s.spr ∧ (s.answer st).mrg = s.mrg ∧ (s.answer st).fnm = s.fnm ∧ (s.answer st).chg = s.chg ∧
    (s.answer st).snd = s.snd ∧ (s.answer st).smk = s.smk ∧ (s.answer st).lmp = s.lmp ∧ (s.answer st).sup = s.sup ∧
    (s.answer st).eeprom = s.eeprom ∧ (s.answer st).flash = s.flash :=
  by
  simp [State.answer]

@[simp] theorem takePeer_frame (info : FrameInfo) (role : PeerRole) (rec : Option LocoRecord) (s : State) :
    (s.takePeer info role rec).pending = s.pending ∧ (s.takePeer info role rec).power = s.power ∧
    (s.takePeer info role rec).rxc = s.rxc ∧ (s.takePeer info role rec).tkm = s.tkm ∧
    (s.takePeer info role rec).aut = s.aut ∧ (s.takePeer info role rec).csu = s.csu ∧
    (s.takePeer info role rec).spr = s.spr ∧ (s.takePeer info role rec).mrg = s.mrg ∧
    (s.takePeer info role rec).fnm = s.fnm ∧ (s.takePeer info role rec).chg = s.chg ∧
    (s.takePeer info role rec).snd = s.snd ∧ (s.takePeer info role rec).smk = s.smk ∧
    (s.takePeer info role rec).lmp = s.lmp ∧ (s.takePeer info role rec).sup = s.sup ∧
    (s.takePeer info role rec).cfg = s.cfg ∧ (s.takePeer info role rec).eeprom = s.eeprom ∧
    (s.takePeer info role rec).flash = s.flash :=
  by
  unfold State.takePeer; (repeat' split) <;> simp

@[simp] theorem occupancyTest_frame (s : State) :
    (s.occupancyTest).pending = s.pending ∧ (s.occupancyTest).power = s.power ∧ (s.occupancyTest).rxc = s.rxc ∧
    (s.occupancyTest).rpt = s.rpt ∧ (s.occupancyTest).ptb = s.ptb ∧ (s.occupancyTest).aut = s.aut ∧
    (s.occupancyTest).csu = s.csu ∧ (s.occupancyTest).spr = s.spr ∧ (s.occupancyTest).mrg = s.mrg ∧
    (s.occupancyTest).fnm = s.fnm ∧ (s.occupancyTest).chg = s.chg ∧ (s.occupancyTest).snd = s.snd ∧
    (s.occupancyTest).smk = s.smk ∧ (s.occupancyTest).lmp = s.lmp ∧ (s.occupancyTest).sup = s.sup ∧
    (s.occupancyTest).cfg = s.cfg ∧ (s.occupancyTest).eeprom = s.eeprom ∧ (s.occupancyTest).flash = s.flash :=
  by
  simp [State.occupancyTest]

@[simp] theorem claim_frame (l : Level) (src : Option Nat) (s : State) :
    (s.claim l src).pending = s.pending ∧ (s.claim l src).power = s.power ∧ (s.claim l src).rxc = s.rxc ∧
    (s.claim l src).ptb = s.ptb ∧ (s.claim l src).tkm = s.tkm ∧ (s.claim l src).csu = s.csu ∧ (s.claim l src).spr = s.spr ∧
    (s.claim l src).mrg = s.mrg ∧ (s.claim l src).fnm = s.fnm ∧ (s.claim l src).chg = s.chg ∧ (s.claim l src).snd = s.snd ∧
    (s.claim l src).smk = s.smk ∧ (s.claim l src).lmp = s.lmp ∧ (s.claim l src).sup = s.sup ∧ (s.claim l src).cfg = s.cfg ∧
    (s.claim l src).eeprom = s.eeprom ∧ (s.claim l src).flash = s.flash :=
  by
  simp [State.claim]

@[simp] theorem release_frame (l : Level) (s : State) :
    (s.release l).pending = s.pending ∧ (s.release l).power = s.power ∧ (s.release l).rxc = s.rxc ∧
    (s.release l).rpt = s.rpt ∧ (s.release l).ptb = s.ptb ∧ (s.release l).tkm = s.tkm ∧ (s.release l).csu = s.csu ∧
    (s.release l).spr = s.spr ∧ (s.release l).mrg = s.mrg ∧ (s.release l).fnm = s.fnm ∧ (s.release l).chg = s.chg ∧
    (s.release l).snd = s.snd ∧ (s.release l).smk = s.smk ∧ (s.release l).lmp = s.lmp ∧ (s.release l).sup = s.sup ∧
    (s.release l).cfg = s.cfg ∧ (s.release l).eeprom = s.eeprom ∧ (s.release l).flash = s.flash :=
  by
  unfold State.release; split <;> simp

@[simp] theorem addCause_frame (c : Cause) (s : State) :
    (s.addCause c).pending = s.pending ∧ (s.addCause c).power = s.power ∧ (s.addCause c).rxc = s.rxc ∧
    (s.addCause c).ptb = s.ptb ∧ (s.addCause c).tkm = s.tkm ∧ (s.addCause c).csu = s.csu ∧ (s.addCause c).spr = s.spr ∧
    (s.addCause c).mrg = s.mrg ∧ (s.addCause c).fnm = s.fnm ∧ (s.addCause c).chg = s.chg ∧ (s.addCause c).snd = s.snd ∧
    (s.addCause c).smk = s.smk ∧ (s.addCause c).lmp = s.lmp ∧ (s.addCause c).sup = s.sup ∧ (s.addCause c).cfg = s.cfg ∧
    (s.addCause c).eeprom = s.eeprom ∧ (s.addCause c).flash = s.flash :=
  by
  unfold State.addCause; (repeat' split) <;> simp

@[simp] theorem removeCause_frame (c : Cause) (s : State) :
    (s.removeCause c).pending = s.pending ∧ (s.removeCause c).power = s.power ∧ (s.removeCause c).rxc = s.rxc ∧
    (s.removeCause c).rpt = s.rpt ∧ (s.removeCause c).ptb = s.ptb ∧ (s.removeCause c).tkm = s.tkm ∧
    (s.removeCause c).csu = s.csu ∧ (s.removeCause c).spr = s.spr ∧ (s.removeCause c).mrg = s.mrg ∧
    (s.removeCause c).fnm = s.fnm ∧ (s.removeCause c).chg = s.chg ∧ (s.removeCause c).snd = s.snd ∧
    (s.removeCause c).smk = s.smk ∧ (s.removeCause c).lmp = s.lmp ∧ (s.removeCause c).sup = s.sup ∧
    (s.removeCause c).cfg = s.cfg ∧ (s.removeCause c).eeprom = s.eeprom ∧ (s.removeCause c).flash = s.flash :=
  by
  unfold State.removeCause; split <;> simp

@[simp] theorem setLink_frame (l : Link) (src : Option Nat) (st : LinkState) (s : State) :
    (s.setLink l src st).pending = s.pending ∧ (s.setLink l src st).power = s.power ∧ (s.setLink l src st).rpt = s.rpt ∧
    (s.setLink l src st).ptb = s.ptb ∧ (s.setLink l src st).tkm = s.tkm ∧ (s.setLink l src st).aut = s.aut ∧
    (s.setLink l src st).csu = s.csu ∧ (s.setLink l src st).spr = s.spr ∧ (s.setLink l src st).mrg = s.mrg ∧
    (s.setLink l src st).fnm = s.fnm ∧ (s.setLink l src st).chg = s.chg ∧ (s.setLink l src st).snd = s.snd ∧
    (s.setLink l src st).smk = s.smk ∧ (s.setLink l src st).lmp = s.lmp ∧ (s.setLink l src st).sup = s.sup ∧
    (s.setLink l src st).cfg = s.cfg ∧ (s.setLink l src st).eeprom = s.eeprom ∧ (s.setLink l src st).flash = s.flash :=
  by
  simp [State.setLink]

@[simp] theorem validFrame_frame (l : Link) (s : State) :
    (s.validFrame l).pending = s.pending ∧ (s.validFrame l).power = s.power ∧ (s.validFrame l).rpt = s.rpt ∧
    (s.validFrame l).ptb = s.ptb ∧ (s.validFrame l).tkm = s.tkm ∧ (s.validFrame l).csu = s.csu ∧
    (s.validFrame l).spr = s.spr ∧ (s.validFrame l).mrg = s.mrg ∧ (s.validFrame l).fnm = s.fnm ∧
    (s.validFrame l).chg = s.chg ∧ (s.validFrame l).snd = s.snd ∧ (s.validFrame l).smk = s.smk ∧
    (s.validFrame l).lmp = s.lmp ∧ (s.validFrame l).sup = s.sup ∧ (s.validFrame l).cfg = s.cfg ∧
    (s.validFrame l).eeprom = s.eeprom ∧ (s.validFrame l).flash = s.flash :=
  by
  unfold State.validFrame; split <;> simp

@[simp] theorem setVoice_frame (i : Nat) (v : Voice) (s : State) :
    (s.setVoice i v).pending = s.pending ∧ (s.setVoice i v).power = s.power ∧ (s.setVoice i v).rxc = s.rxc ∧
    (s.setVoice i v).rpt = s.rpt ∧ (s.setVoice i v).ptb = s.ptb ∧ (s.setVoice i v).tkm = s.tkm ∧
    (s.setVoice i v).aut = s.aut ∧ (s.setVoice i v).csu = s.csu ∧ (s.setVoice i v).spr = s.spr ∧
    (s.setVoice i v).mrg = s.mrg ∧ (s.setVoice i v).fnm = s.fnm ∧ (s.setVoice i v).chg = s.chg ∧
    (s.setVoice i v).smk = s.smk ∧ (s.setVoice i v).lmp = s.lmp ∧ (s.setVoice i v).sup = s.sup ∧
    (s.setVoice i v).cfg = s.cfg ∧ (s.setVoice i v).eeprom = s.eeprom ∧ (s.setVoice i v).flash = s.flash :=
  by
  simp [State.setVoice]

@[simp] theorem arbitrate_frame (s : State) :
    (s.arbitrate).pending = s.pending ∧ (s.arbitrate).power = s.power ∧ (s.arbitrate).rxc = s.rxc ∧
    (s.arbitrate).rpt = s.rpt ∧ (s.arbitrate).ptb = s.ptb ∧ (s.arbitrate).tkm = s.tkm ∧ (s.arbitrate).aut = s.aut ∧
    (s.arbitrate).csu = s.csu ∧ (s.arbitrate).spr = s.spr ∧ (s.arbitrate).mrg = s.mrg ∧ (s.arbitrate).fnm = s.fnm ∧
    (s.arbitrate).chg = s.chg ∧ (s.arbitrate).smk = s.smk ∧ (s.arbitrate).lmp = s.lmp ∧ (s.arbitrate).sup = s.sup ∧
    (s.arbitrate).cfg = s.cfg ∧ (s.arbitrate).eeprom = s.eeprom ∧ (s.arbitrate).flash = s.flash :=
  by
  simp [State.arbitrate]

@[simp] theorem request_frame (t : Trigger) (s : State) :
    (s.request t).pending = s.pending ∧ (s.request t).power = s.power ∧ (s.request t).rxc = s.rxc ∧
    (s.request t).ptb = s.ptb ∧ (s.request t).tkm = s.tkm ∧ (s.request t).aut = s.aut ∧ (s.request t).csu = s.csu ∧
    (s.request t).spr = s.spr ∧ (s.request t).mrg = s.mrg ∧ (s.request t).fnm = s.fnm ∧ (s.request t).chg = s.chg ∧
    (s.request t).smk = s.smk ∧ (s.request t).lmp = s.lmp ∧ (s.request t).sup = s.sup ∧ (s.request t).cfg = s.cfg ∧
    (s.request t).eeprom = s.eeprom ∧ (s.request t).flash = s.flash :=
  by
  unfold State.request; (repeat' split) <;> simp

@[simp] theorem stopOwner_frame (o : Owner) (s : State) :
    (s.stopOwner o).pending = s.pending ∧ (s.stopOwner o).power = s.power ∧ (s.stopOwner o).rxc = s.rxc ∧
    (s.stopOwner o).rpt = s.rpt ∧ (s.stopOwner o).ptb = s.ptb ∧ (s.stopOwner o).tkm = s.tkm ∧ (s.stopOwner o).aut = s.aut ∧
    (s.stopOwner o).csu = s.csu ∧ (s.stopOwner o).spr = s.spr ∧ (s.stopOwner o).mrg = s.mrg ∧ (s.stopOwner o).fnm = s.fnm ∧
    (s.stopOwner o).chg = s.chg ∧ (s.stopOwner o).smk = s.smk ∧ (s.stopOwner o).lmp = s.lmp ∧ (s.stopOwner o).sup = s.sup ∧
    (s.stopOwner o).cfg = s.cfg ∧ (s.stopOwner o).eeprom = s.eeprom ∧ (s.stopOwner o).flash = s.flash :=
  by
  simp [State.stopOwner]

@[simp] theorem systemRequest_frame (hold : Bool) (index : Nat) (s : State) :
    (s.systemRequest hold index).pending = s.pending ∧ (s.systemRequest hold index).power = s.power ∧
    (s.systemRequest hold index).rxc = s.rxc ∧ (s.systemRequest hold index).ptb = s.ptb ∧
    (s.systemRequest hold index).tkm = s.tkm ∧ (s.systemRequest hold index).aut = s.aut ∧
    (s.systemRequest hold index).csu = s.csu ∧ (s.systemRequest hold index).spr = s.spr ∧
    (s.systemRequest hold index).mrg = s.mrg ∧ (s.systemRequest hold index).fnm = s.fnm ∧
    (s.systemRequest hold index).chg = s.chg ∧ (s.systemRequest hold index).smk = s.smk ∧
    (s.systemRequest hold index).lmp = s.lmp ∧ (s.systemRequest hold index).sup = s.sup ∧
    (s.systemRequest hold index).cfg = s.cfg ∧ (s.systemRequest hold index).eeprom = s.eeprom ∧
    (s.systemRequest hold index).flash = s.flash :=
  by
  simp [State.systemRequest]

@[simp] theorem allocate_frame (t : Trigger) (c : Clip) (s : State) :
    (s.allocate t c).pending = s.pending ∧ (s.allocate t c).power = s.power ∧ (s.allocate t c).rxc = s.rxc ∧
    (s.allocate t c).ptb = s.ptb ∧ (s.allocate t c).tkm = s.tkm ∧ (s.allocate t c).aut = s.aut ∧
    (s.allocate t c).csu = s.csu ∧ (s.allocate t c).spr = s.spr ∧ (s.allocate t c).mrg = s.mrg ∧
    (s.allocate t c).fnm = s.fnm ∧ (s.allocate t c).chg = s.chg ∧ (s.allocate t c).smk = s.smk ∧
    (s.allocate t c).lmp = s.lmp ∧ (s.allocate t c).sup = s.sup ∧ (s.allocate t c).cfg = s.cfg ∧
    (s.allocate t c).eeprom = s.eeprom ∧ (s.allocate t c).flash = s.flash :=
  by
  unfold State.allocate; split <;> simp

@[simp] theorem lookupDone_frame (t : Trigger) (void : Bool) (s : State) :
    (s.lookupDone t void).pending = s.pending ∧ (s.lookupDone t void).power = s.power ∧ (s.lookupDone t void).rxc = s.rxc ∧
    (s.lookupDone t void).ptb = s.ptb ∧ (s.lookupDone t void).tkm = s.tkm ∧ (s.lookupDone t void).aut = s.aut ∧
    (s.lookupDone t void).csu = s.csu ∧ (s.lookupDone t void).spr = s.spr ∧ (s.lookupDone t void).mrg = s.mrg ∧
    (s.lookupDone t void).fnm = s.fnm ∧ (s.lookupDone t void).chg = s.chg ∧ (s.lookupDone t void).smk = s.smk ∧
    (s.lookupDone t void).lmp = s.lmp ∧ (s.lookupDone t void).sup = s.sup ∧ (s.lookupDone t void).cfg = s.cfg ∧
    (s.lookupDone t void).eeprom = s.eeprom ∧ (s.lookupDone t void).flash = s.flash :=
  by
  unfold State.lookupDone; (repeat' split) <;> simp

@[simp] theorem refillDone_frame (i : Nat) (pos : Nat) (n : Nat) (s : State) :
    (s.refillDone i pos n).pending = s.pending ∧ (s.refillDone i pos n).power = s.power ∧
    (s.refillDone i pos n).rxc = s.rxc ∧ (s.refillDone i pos n).rpt = s.rpt ∧ (s.refillDone i pos n).ptb = s.ptb ∧
    (s.refillDone i pos n).tkm = s.tkm ∧ (s.refillDone i pos n).aut = s.aut ∧ (s.refillDone i pos n).csu = s.csu ∧
    (s.refillDone i pos n).spr = s.spr ∧ (s.refillDone i pos n).mrg = s.mrg ∧ (s.refillDone i pos n).fnm = s.fnm ∧
    (s.refillDone i pos n).chg = s.chg ∧ (s.refillDone i pos n).smk = s.smk ∧ (s.refillDone i pos n).lmp = s.lmp ∧
    (s.refillDone i pos n).sup = s.sup ∧ (s.refillDone i pos n).cfg = s.cfg ∧ (s.refillDone i pos n).eeprom = s.eeprom ∧
    (s.refillDone i pos n).flash = s.flash :=
  by
  unfold State.refillDone; split <;> simp

@[simp] theorem sampleEvent_frame (s : State) :
    (s.sampleEvent).pending = s.pending ∧ (s.sampleEvent).power = s.power ∧ (s.sampleEvent).rxc = s.rxc ∧
    (s.sampleEvent).rpt = s.rpt ∧ (s.sampleEvent).ptb = s.ptb ∧ (s.sampleEvent).tkm = s.tkm ∧ (s.sampleEvent).aut = s.aut ∧
    (s.sampleEvent).csu = s.csu ∧ (s.sampleEvent).spr = s.spr ∧ (s.sampleEvent).mrg = s.mrg ∧ (s.sampleEvent).fnm = s.fnm ∧
    (s.sampleEvent).chg = s.chg ∧ (s.sampleEvent).smk = s.smk ∧ (s.sampleEvent).lmp = s.lmp ∧ (s.sampleEvent).sup = s.sup ∧
    (s.sampleEvent).cfg = s.cfg ∧ (s.sampleEvent).eeprom = s.eeprom ∧ (s.sampleEvent).flash = s.flash :=
  by
  simp [State.sampleEvent]

@[simp] theorem squealTest_frame (s : State) :
    (s.squealTest).pending = s.pending ∧ (s.squealTest).power = s.power ∧ (s.squealTest).rxc = s.rxc ∧
    (s.squealTest).ptb = s.ptb ∧ (s.squealTest).tkm = s.tkm ∧ (s.squealTest).aut = s.aut ∧ (s.squealTest).csu = s.csu ∧
    (s.squealTest).spr = s.spr ∧ (s.squealTest).mrg = s.mrg ∧ (s.squealTest).fnm = s.fnm ∧ (s.squealTest).chg = s.chg ∧
    (s.squealTest).smk = s.smk ∧ (s.squealTest).lmp = s.lmp ∧ (s.squealTest).sup = s.sup ∧ (s.squealTest).cfg = s.cfg ∧
    (s.squealTest).eeprom = s.eeprom ∧ (s.squealTest).flash = s.flash :=
  by
  unfold State.squealTest; split <;> simp

@[simp] theorem fanRefresh_frame (s : State) :
    (s.fanRefresh).pending = s.pending ∧ (s.fanRefresh).power = s.power ∧ (s.fanRefresh).rxc = s.rxc ∧
    (s.fanRefresh).rpt = s.rpt ∧ (s.fanRefresh).ptb = s.ptb ∧ (s.fanRefresh).tkm = s.tkm ∧ (s.fanRefresh).aut = s.aut ∧
    (s.fanRefresh).csu = s.csu ∧ (s.fanRefresh).spr = s.spr ∧ (s.fanRefresh).mrg = s.mrg ∧ (s.fanRefresh).fnm = s.fnm ∧
    (s.fanRefresh).chg = s.chg ∧ (s.fanRefresh).snd = s.snd ∧ (s.fanRefresh).lmp = s.lmp ∧ (s.fanRefresh).sup = s.sup ∧
    (s.fanRefresh).cfg = s.cfg ∧ (s.fanRefresh).eeprom = s.eeprom ∧ (s.fanRefresh).flash = s.flash :=
  by
  simp [State.fanRefresh]

@[simp] theorem entryBurst_frame (ms : Nat) (s : State) :
    (s.entryBurst ms).pending = s.pending ∧ (s.entryBurst ms).power = s.power ∧ (s.entryBurst ms).rxc = s.rxc ∧
    (s.entryBurst ms).rpt = s.rpt ∧ (s.entryBurst ms).ptb = s.ptb ∧ (s.entryBurst ms).tkm = s.tkm ∧
    (s.entryBurst ms).aut = s.aut ∧ (s.entryBurst ms).csu = s.csu ∧ (s.entryBurst ms).spr = s.spr ∧
    (s.entryBurst ms).mrg = s.mrg ∧ (s.entryBurst ms).fnm = s.fnm ∧ (s.entryBurst ms).chg = s.chg ∧
    (s.entryBurst ms).snd = s.snd ∧ (s.entryBurst ms).lmp = s.lmp ∧ (s.entryBurst ms).sup = s.sup ∧
    (s.entryBurst ms).cfg = s.cfg ∧ (s.entryBurst ms).eeprom = s.eeprom ∧ (s.entryBurst ms).flash = s.flash :=
  by
  unfold State.entryBurst; split <;> simp

@[simp] theorem chuffBurst_frame (s : State) :
    (s.chuffBurst).pending = s.pending ∧ (s.chuffBurst).power = s.power ∧ (s.chuffBurst).rxc = s.rxc ∧
    (s.chuffBurst).rpt = s.rpt ∧ (s.chuffBurst).ptb = s.ptb ∧ (s.chuffBurst).tkm = s.tkm ∧ (s.chuffBurst).aut = s.aut ∧
    (s.chuffBurst).csu = s.csu ∧ (s.chuffBurst).spr = s.spr ∧ (s.chuffBurst).mrg = s.mrg ∧ (s.chuffBurst).fnm = s.fnm ∧
    (s.chuffBurst).chg = s.chg ∧ (s.chuffBurst).snd = s.snd ∧ (s.chuffBurst).lmp = s.lmp ∧ (s.chuffBurst).sup = s.sup ∧
    (s.chuffBurst).cfg = s.cfg ∧ (s.chuffBurst).eeprom = s.eeprom ∧ (s.chuffBurst).flash = s.flash :=
  by
  unfold State.chuffBurst; split <;> simp

@[simp] theorem smokeEnter_frame (st : SmokeState) (s : State) :
    (s.smokeEnter st).pending = s.pending ∧ (s.smokeEnter st).power = s.power ∧ (s.smokeEnter st).rxc = s.rxc ∧
    (s.smokeEnter st).rpt = s.rpt ∧ (s.smokeEnter st).ptb = s.ptb ∧ (s.smokeEnter st).tkm = s.tkm ∧
    (s.smokeEnter st).aut = s.aut ∧ (s.smokeEnter st).csu = s.csu ∧ (s.smokeEnter st).spr = s.spr ∧
    (s.smokeEnter st).mrg = s.mrg ∧ (s.smokeEnter st).fnm = s.fnm ∧ (s.smokeEnter st).chg = s.chg ∧
    (s.smokeEnter st).snd = s.snd ∧ (s.smokeEnter st).lmp = s.lmp ∧ (s.smokeEnter st).sup = s.sup ∧
    (s.smokeEnter st).cfg = s.cfg ∧ (s.smokeEnter st).eeprom = s.eeprom ∧ (s.smokeEnter st).flash = s.flash :=
  by
  simp [State.smokeEnter]

@[simp] theorem smokeReach_frame (s : State) :
    (s.smokeReach).pending = s.pending ∧ (s.smokeReach).power = s.power ∧ (s.smokeReach).rxc = s.rxc ∧
    (s.smokeReach).rpt = s.rpt ∧ (s.smokeReach).ptb = s.ptb ∧ (s.smokeReach).tkm = s.tkm ∧ (s.smokeReach).aut = s.aut ∧
    (s.smokeReach).csu = s.csu ∧ (s.smokeReach).spr = s.spr ∧ (s.smokeReach).mrg = s.mrg ∧ (s.smokeReach).fnm = s.fnm ∧
    (s.smokeReach).chg = s.chg ∧ (s.smokeReach).snd = s.snd ∧ (s.smokeReach).lmp = s.lmp ∧ (s.smokeReach).sup = s.sup ∧
    (s.smokeReach).cfg = s.cfg ∧ (s.smokeReach).eeprom = s.eeprom ∧ (s.smokeReach).flash = s.flash :=
  by
  simp [State.smokeReach]

@[simp] theorem smokeEnabled_frame (on : Bool) (s : State) :
    (s.smokeEnabled on).pending = s.pending ∧ (s.smokeEnabled on).power = s.power ∧ (s.smokeEnabled on).rxc = s.rxc ∧
    (s.smokeEnabled on).rpt = s.rpt ∧ (s.smokeEnabled on).ptb = s.ptb ∧ (s.smokeEnabled on).tkm = s.tkm ∧
    (s.smokeEnabled on).aut = s.aut ∧ (s.smokeEnabled on).csu = s.csu ∧ (s.smokeEnabled on).spr = s.spr ∧
    (s.smokeEnabled on).mrg = s.mrg ∧ (s.smokeEnabled on).fnm = s.fnm ∧ (s.smokeEnabled on).chg = s.chg ∧
    (s.smokeEnabled on).snd = s.snd ∧ (s.smokeEnabled on).lmp = s.lmp ∧ (s.smokeEnabled on).sup = s.sup ∧
    (s.smokeEnabled on).cfg = s.cfg ∧ (s.smokeEnabled on).eeprom = s.eeprom ∧ (s.smokeEnabled on).flash = s.flash :=
  by
  unfold State.smokeEnabled; (repeat' split) <;> simp

@[simp] theorem smokeZone_frame (s : State) :
    (s.smokeZone).pending = s.pending ∧ (s.smokeZone).power = s.power ∧ (s.smokeZone).rxc = s.rxc ∧
    (s.smokeZone).rpt = s.rpt ∧ (s.smokeZone).ptb = s.ptb ∧ (s.smokeZone).tkm = s.tkm ∧ (s.smokeZone).aut = s.aut ∧
    (s.smokeZone).csu = s.csu ∧ (s.smokeZone).spr = s.spr ∧ (s.smokeZone).mrg = s.mrg ∧ (s.smokeZone).fnm = s.fnm ∧
    (s.smokeZone).chg = s.chg ∧ (s.smokeZone).snd = s.snd ∧ (s.smokeZone).lmp = s.lmp ∧ (s.smokeZone).sup = s.sup ∧
    (s.smokeZone).cfg = s.cfg ∧ (s.smokeZone).eeprom = s.eeprom ∧ (s.smokeZone).flash = s.flash :=
  by
  unfold State.smokeZone; (repeat' split) <;> simp

@[simp] theorem smokeSupply_frame (s : State) :
    (s.smokeSupply).pending = s.pending ∧ (s.smokeSupply).power = s.power ∧ (s.smokeSupply).rxc = s.rxc ∧
    (s.smokeSupply).rpt = s.rpt ∧ (s.smokeSupply).ptb = s.ptb ∧ (s.smokeSupply).tkm = s.tkm ∧ (s.smokeSupply).aut = s.aut ∧
    (s.smokeSupply).csu = s.csu ∧ (s.smokeSupply).spr = s.spr ∧ (s.smokeSupply).mrg = s.mrg ∧ (s.smokeSupply).fnm = s.fnm ∧
    (s.smokeSupply).chg = s.chg ∧ (s.smokeSupply).snd = s.snd ∧ (s.smokeSupply).lmp = s.lmp ∧ (s.smokeSupply).sup = s.sup ∧
    (s.smokeSupply).cfg = s.cfg ∧ (s.smokeSupply).eeprom = s.eeprom ∧ (s.smokeSupply).flash = s.flash :=
  by
  unfold State.smokeSupply; (repeat' split) <;> simp

@[simp] theorem smokeStopBegins_frame (s : State) :
    (s.smokeStopBegins).pending = s.pending ∧ (s.smokeStopBegins).power = s.power ∧ (s.smokeStopBegins).rxc = s.rxc ∧
    (s.smokeStopBegins).rpt = s.rpt ∧ (s.smokeStopBegins).ptb = s.ptb ∧ (s.smokeStopBegins).tkm = s.tkm ∧
    (s.smokeStopBegins).aut = s.aut ∧ (s.smokeStopBegins).csu = s.csu ∧ (s.smokeStopBegins).spr = s.spr ∧
    (s.smokeStopBegins).mrg = s.mrg ∧ (s.smokeStopBegins).fnm = s.fnm ∧ (s.smokeStopBegins).chg = s.chg ∧
    (s.smokeStopBegins).snd = s.snd ∧ (s.smokeStopBegins).lmp = s.lmp ∧ (s.smokeStopBegins).sup = s.sup ∧
    (s.smokeStopBegins).cfg = s.cfg ∧ (s.smokeStopBegins).eeprom = s.eeprom ∧ (s.smokeStopBegins).flash = s.flash :=
  by
  simp [State.smokeStopBegins]

@[simp] theorem smokeStopEnds_frame (s : State) :
    (s.smokeStopEnds).pending = s.pending ∧ (s.smokeStopEnds).power = s.power ∧ (s.smokeStopEnds).rxc = s.rxc ∧
    (s.smokeStopEnds).rpt = s.rpt ∧ (s.smokeStopEnds).ptb = s.ptb ∧ (s.smokeStopEnds).tkm = s.tkm ∧
    (s.smokeStopEnds).aut = s.aut ∧ (s.smokeStopEnds).csu = s.csu ∧ (s.smokeStopEnds).spr = s.spr ∧
    (s.smokeStopEnds).mrg = s.mrg ∧ (s.smokeStopEnds).fnm = s.fnm ∧ (s.smokeStopEnds).chg = s.chg ∧
    (s.smokeStopEnds).snd = s.snd ∧ (s.smokeStopEnds).lmp = s.lmp ∧ (s.smokeStopEnds).sup = s.sup ∧
    (s.smokeStopEnds).cfg = s.cfg ∧ (s.smokeStopEnds).eeprom = s.eeprom ∧ (s.smokeStopEnds).flash = s.flash :=
  by
  simp only [State.smokeStopEnds]; (repeat' split) <;> simp

@[simp] theorem standstillDone_frame (s : State) :
    (s.standstillDone).pending = s.pending ∧ (s.standstillDone).power = s.power ∧ (s.standstillDone).rxc = s.rxc ∧
    (s.standstillDone).rpt = s.rpt ∧ (s.standstillDone).ptb = s.ptb ∧ (s.standstillDone).tkm = s.tkm ∧
    (s.standstillDone).aut = s.aut ∧ (s.standstillDone).csu = s.csu ∧ (s.standstillDone).spr = s.spr ∧
    (s.standstillDone).mrg = s.mrg ∧ (s.standstillDone).fnm = s.fnm ∧ (s.standstillDone).chg = s.chg ∧
    (s.standstillDone).snd = s.snd ∧ (s.standstillDone).lmp = s.lmp ∧ (s.standstillDone).sup = s.sup ∧
    (s.standstillDone).cfg = s.cfg ∧ (s.standstillDone).eeprom = s.eeprom ∧ (s.standstillDone).flash = s.flash :=
  by
  simp only [State.standstillDone]; (repeat' split) <;> simp

@[simp] theorem heaterDecision_frame (s : State) :
    (s.heaterDecision).pending = s.pending ∧ (s.heaterDecision).power = s.power ∧ (s.heaterDecision).rxc = s.rxc ∧
    (s.heaterDecision).rpt = s.rpt ∧ (s.heaterDecision).ptb = s.ptb ∧ (s.heaterDecision).tkm = s.tkm ∧
    (s.heaterDecision).aut = s.aut ∧ (s.heaterDecision).csu = s.csu ∧ (s.heaterDecision).spr = s.spr ∧
    (s.heaterDecision).mrg = s.mrg ∧ (s.heaterDecision).fnm = s.fnm ∧ (s.heaterDecision).chg = s.chg ∧
    (s.heaterDecision).snd = s.snd ∧ (s.heaterDecision).lmp = s.lmp ∧ (s.heaterDecision).sup = s.sup ∧
    (s.heaterDecision).cfg = s.cfg ∧ (s.heaterDecision).eeprom = s.eeprom ∧ (s.heaterDecision).flash = s.flash :=
  by
  simp [State.heaterDecision]

@[simp] theorem overtempTest_frame (s : State) :
    (s.overtempTest).pending = s.pending ∧ (s.overtempTest).power = s.power ∧ (s.overtempTest).rxc = s.rxc ∧
    (s.overtempTest).rpt = s.rpt ∧ (s.overtempTest).ptb = s.ptb ∧ (s.overtempTest).tkm = s.tkm ∧
    (s.overtempTest).aut = s.aut ∧ (s.overtempTest).csu = s.csu ∧ (s.overtempTest).spr = s.spr ∧
    (s.overtempTest).mrg = s.mrg ∧ (s.overtempTest).fnm = s.fnm ∧ (s.overtempTest).chg = s.chg ∧
    (s.overtempTest).snd = s.snd ∧ (s.overtempTest).lmp = s.lmp ∧ (s.overtempTest).sup = s.sup ∧
    (s.overtempTest).eeprom = s.eeprom ∧ (s.overtempTest).flash = s.flash :=
  by
  unfold State.overtempTest; split <;> simp

@[simp] theorem dryTest_frame (s : State) :
    (s.dryTest).pending = s.pending ∧ (s.dryTest).power = s.power ∧ (s.dryTest).rxc = s.rxc ∧ (s.dryTest).rpt = s.rpt ∧
    (s.dryTest).ptb = s.ptb ∧ (s.dryTest).tkm = s.tkm ∧ (s.dryTest).aut = s.aut ∧ (s.dryTest).csu = s.csu ∧
    (s.dryTest).spr = s.spr ∧ (s.dryTest).mrg = s.mrg ∧ (s.dryTest).fnm = s.fnm ∧ (s.dryTest).chg = s.chg ∧
    (s.dryTest).snd = s.snd ∧ (s.dryTest).lmp = s.lmp ∧ (s.dryTest).sup = s.sup ∧ (s.dryTest).cfg = s.cfg ∧
    (s.dryTest).eeprom = s.eeprom ∧ (s.dryTest).flash = s.flash :=
  by
  unfold State.dryTest; split <;> simp

@[simp] theorem warmTest_frame (s : State) :
    (s.warmTest).pending = s.pending ∧ (s.warmTest).power = s.power ∧ (s.warmTest).rxc = s.rxc ∧ (s.warmTest).rpt = s.rpt ∧
    (s.warmTest).ptb = s.ptb ∧ (s.warmTest).tkm = s.tkm ∧ (s.warmTest).aut = s.aut ∧ (s.warmTest).csu = s.csu ∧
    (s.warmTest).spr = s.spr ∧ (s.warmTest).mrg = s.mrg ∧ (s.warmTest).fnm = s.fnm ∧ (s.warmTest).chg = s.chg ∧
    (s.warmTest).snd = s.snd ∧ (s.warmTest).lmp = s.lmp ∧ (s.warmTest).sup = s.sup ∧ (s.warmTest).cfg = s.cfg ∧
    (s.warmTest).eeprom = s.eeprom ∧ (s.warmTest).flash = s.flash :=
  by
  unfold State.warmTest; split <;> simp

@[simp] theorem thermostat_frame (raw : Nat) (s : State) :
    (s.thermostat raw).pending = s.pending ∧ (s.thermostat raw).power = s.power ∧ (s.thermostat raw).rxc = s.rxc ∧
    (s.thermostat raw).rpt = s.rpt ∧ (s.thermostat raw).ptb = s.ptb ∧ (s.thermostat raw).tkm = s.tkm ∧
    (s.thermostat raw).aut = s.aut ∧ (s.thermostat raw).csu = s.csu ∧ (s.thermostat raw).spr = s.spr ∧
    (s.thermostat raw).mrg = s.mrg ∧ (s.thermostat raw).fnm = s.fnm ∧ (s.thermostat raw).chg = s.chg ∧
    (s.thermostat raw).snd = s.snd ∧ (s.thermostat raw).lmp = s.lmp ∧ (s.thermostat raw).sup = s.sup ∧
    (s.thermostat raw).eeprom = s.eeprom ∧ (s.thermostat raw).flash = s.flash :=
  by
  simp [State.thermostat]

@[simp] theorem budgetCut_frame (s : State) :
    (s.budgetCut).pending = s.pending ∧ (s.budgetCut).power = s.power ∧ (s.budgetCut).rxc = s.rxc ∧
    (s.budgetCut).rpt = s.rpt ∧ (s.budgetCut).ptb = s.ptb ∧ (s.budgetCut).tkm = s.tkm ∧ (s.budgetCut).aut = s.aut ∧
    (s.budgetCut).csu = s.csu ∧ (s.budgetCut).spr = s.spr ∧ (s.budgetCut).mrg = s.mrg ∧ (s.budgetCut).fnm = s.fnm ∧
    (s.budgetCut).chg = s.chg ∧ (s.budgetCut).snd = s.snd ∧ (s.budgetCut).lmp = s.lmp ∧ (s.budgetCut).sup = s.sup ∧
    (s.budgetCut).cfg = s.cfg ∧ (s.budgetCut).eeprom = s.eeprom ∧ (s.budgetCut).flash = s.flash :=
  by
  unfold State.budgetCut; split <;> simp

@[simp] theorem lampsRefresh_frame (s : State) :
    (s.lampsRefresh).pending = s.pending ∧ (s.lampsRefresh).power = s.power ∧ (s.lampsRefresh).rxc = s.rxc ∧
    (s.lampsRefresh).rpt = s.rpt ∧ (s.lampsRefresh).ptb = s.ptb ∧ (s.lampsRefresh).tkm = s.tkm ∧
    (s.lampsRefresh).aut = s.aut ∧ (s.lampsRefresh).csu = s.csu ∧ (s.lampsRefresh).spr = s.spr ∧
    (s.lampsRefresh).mrg = s.mrg ∧ (s.lampsRefresh).fnm = s.fnm ∧ (s.lampsRefresh).chg = s.chg ∧
    (s.lampsRefresh).snd = s.snd ∧ (s.lampsRefresh).smk = s.smk ∧ (s.lampsRefresh).sup = s.sup ∧
    (s.lampsRefresh).cfg = s.cfg ∧ (s.lampsRefresh).eeprom = s.eeprom ∧ (s.lampsRefresh).flash = s.flash :=
  by
  simp [State.lampsRefresh]

@[simp] theorem ditchChange_frame (before : Bool) (after : Bool) (s : State) :
    (s.ditchChange before after).pending = s.pending ∧ (s.ditchChange before after).power = s.power ∧
    (s.ditchChange before after).rxc = s.rxc ∧ (s.ditchChange before after).rpt = s.rpt ∧
    (s.ditchChange before after).ptb = s.ptb ∧ (s.ditchChange before after).tkm = s.tkm ∧
    (s.ditchChange before after).aut = s.aut ∧ (s.ditchChange before after).csu = s.csu ∧
    (s.ditchChange before after).spr = s.spr ∧ (s.ditchChange before after).mrg = s.mrg ∧
    (s.ditchChange before after).fnm = s.fnm ∧ (s.ditchChange before after).chg = s.chg ∧
    (s.ditchChange before after).snd = s.snd ∧ (s.ditchChange before after).smk = s.smk ∧
    (s.ditchChange before after).sup = s.sup ∧ (s.ditchChange before after).cfg = s.cfg ∧
    (s.ditchChange before after).eeprom = s.eeprom ∧ (s.ditchChange before after).flash = s.flash :=
  by
  simp [State.ditchChange]

@[simp] theorem blink_frame (mask : BitVec 8) (count : Nat) (s : State) :
    (s.blink mask count).pending = s.pending ∧ (s.blink mask count).power = s.power ∧ (s.blink mask count).rxc = s.rxc ∧
    (s.blink mask count).rpt = s.rpt ∧ (s.blink mask count).ptb = s.ptb ∧ (s.blink mask count).tkm = s.tkm ∧
    (s.blink mask count).aut = s.aut ∧ (s.blink mask count).csu = s.csu ∧ (s.blink mask count).spr = s.spr ∧
    (s.blink mask count).mrg = s.mrg ∧ (s.blink mask count).fnm = s.fnm ∧ (s.blink mask count).chg = s.chg ∧
    (s.blink mask count).snd = s.snd ∧ (s.blink mask count).smk = s.smk ∧ (s.blink mask count).sup = s.sup ∧
    (s.blink mask count).cfg = s.cfg ∧ (s.blink mask count).eeprom = s.eeprom ∧ (s.blink mask count).flash = s.flash :=
  by
  simp [State.blink]

@[simp] theorem flare_frame (s : State) :
    (s.flare).pending = s.pending ∧ (s.flare).power = s.power ∧ (s.flare).rxc = s.rxc ∧ (s.flare).rpt = s.rpt ∧
    (s.flare).ptb = s.ptb ∧ (s.flare).tkm = s.tkm ∧ (s.flare).aut = s.aut ∧ (s.flare).csu = s.csu ∧ (s.flare).spr = s.spr ∧
    (s.flare).mrg = s.mrg ∧ (s.flare).fnm = s.fnm ∧ (s.flare).chg = s.chg ∧ (s.flare).snd = s.snd ∧ (s.flare).smk = s.smk ∧
    (s.flare).sup = s.sup ∧ (s.flare).cfg = s.cfg ∧ (s.flare).eeprom = s.eeprom ∧ (s.flare).flash = s.flash :=
  by
  simp [State.flare]

@[simp] theorem onLamp_frame (n : Nat) (f : LampState → LampState) (s : State) :
    (s.onLamp n f).pending = s.pending ∧ (s.onLamp n f).power = s.power ∧ (s.onLamp n f).rxc = s.rxc ∧
    (s.onLamp n f).rpt = s.rpt ∧ (s.onLamp n f).ptb = s.ptb ∧ (s.onLamp n f).tkm = s.tkm ∧ (s.onLamp n f).aut = s.aut ∧
    (s.onLamp n f).csu = s.csu ∧ (s.onLamp n f).spr = s.spr ∧ (s.onLamp n f).mrg = s.mrg ∧ (s.onLamp n f).fnm = s.fnm ∧
    (s.onLamp n f).chg = s.chg ∧ (s.onLamp n f).snd = s.snd ∧ (s.onLamp n f).smk = s.smk ∧ (s.onLamp n f).sup = s.sup ∧
    (s.onLamp n f).cfg = s.cfg ∧ (s.onLamp n f).eeprom = s.eeprom ∧ (s.onLamp n f).flash = s.flash :=
  by
  simp [State.onLamp]

@[simp] theorem ask_frame (k : SoundAsk) (s : State) :
    (s.ask k).pending = s.pending ∧ (s.ask k).power = s.power ∧ (s.ask k).rxc = s.rxc ∧ (s.ask k).ptb = s.ptb ∧
    (s.ask k).tkm = s.tkm ∧ (s.ask k).aut = s.aut ∧ (s.ask k).csu = s.csu ∧ (s.ask k).spr = s.spr ∧ (s.ask k).mrg = s.mrg ∧
    (s.ask k).fnm = s.fnm ∧ (s.ask k).chg = s.chg ∧ (s.ask k).smk = s.smk ∧ (s.ask k).lmp = s.lmp ∧ (s.ask k).sup = s.sup ∧
    (s.ask k).cfg = s.cfg ∧ (s.ask k).eeprom = s.eeprom ∧ (s.ask k).flash = s.flash :=
  by
  unfold State.ask; split <;> simp

@[simp] theorem askAll_frame (ks : List SoundAsk) (s : State) :
    ((ks.foldl State.ask s)).pending = s.pending ∧ ((ks.foldl State.ask s)).power = s.power ∧
    ((ks.foldl State.ask s)).rxc = s.rxc ∧ ((ks.foldl State.ask s)).ptb = s.ptb ∧ ((ks.foldl State.ask s)).tkm = s.tkm ∧
    ((ks.foldl State.ask s)).aut = s.aut ∧ ((ks.foldl State.ask s)).csu = s.csu ∧ ((ks.foldl State.ask s)).spr = s.spr ∧
    ((ks.foldl State.ask s)).mrg = s.mrg ∧ ((ks.foldl State.ask s)).fnm = s.fnm ∧ ((ks.foldl State.ask s)).chg = s.chg ∧
    ((ks.foldl State.ask s)).smk = s.smk ∧ ((ks.foldl State.ask s)).lmp = s.lmp ∧ ((ks.foldl State.ask s)).sup = s.sup ∧
    ((ks.foldl State.ask s)).cfg = s.cfg ∧ ((ks.foldl State.ask s)).eeprom = s.eeprom ∧
    ((ks.foldl State.ask s)).flash = s.flash :=
  by
  induction ks generalizing s with
  | nil => simp
  | cons k ks ih => simp [ih]

@[simp] theorem evaluate_frame (s : State) :
    (s.evaluate).pending = s.pending ∧ (s.evaluate).power = s.power ∧ (s.evaluate).rxc = s.rxc ∧ (s.evaluate).ptb = s.ptb ∧
    (s.evaluate).tkm = s.tkm ∧ (s.evaluate).aut = s.aut ∧ (s.evaluate).csu = s.csu ∧ (s.evaluate).mrg = s.mrg ∧
    (s.evaluate).chg = s.chg ∧ (s.evaluate).sup = s.sup ∧ (s.evaluate).cfg = s.cfg ∧ (s.evaluate).eeprom = s.eeprom ∧
    (s.evaluate).flash = s.flash :=
  by
  simp only [State.evaluate]; (repeat' split) <;> simp

@[simp] theorem functionsRefresh_frame (s : State) :
    (s.functionsRefresh).pending = s.pending ∧ (s.functionsRefresh).power = s.power ∧ (s.functionsRefresh).rxc = s.rxc ∧
    (s.functionsRefresh).ptb = s.ptb ∧ (s.functionsRefresh).tkm = s.tkm ∧ (s.functionsRefresh).aut = s.aut ∧
    (s.functionsRefresh).csu = s.csu ∧ (s.functionsRefresh).mrg = s.mrg ∧ (s.functionsRefresh).chg = s.chg ∧
    (s.functionsRefresh).sup = s.sup ∧ (s.functionsRefresh).cfg = s.cfg ∧ (s.functionsRefresh).eeprom = s.eeprom ∧
    (s.functionsRefresh).flash = s.flash :=
  by
  unfold State.functionsRefresh; split <;> simp

@[simp] theorem signalTest_frame (h0 : Level) (s : State) :
    (s.signalTest h0).pending = s.pending ∧ (s.signalTest h0).power = s.power ∧ (s.signalTest h0).rxc = s.rxc ∧
    (s.signalTest h0).rpt = s.rpt ∧ (s.signalTest h0).ptb = s.ptb ∧ (s.signalTest h0).tkm = s.tkm ∧
    (s.signalTest h0).csu = s.csu ∧ (s.signalTest h0).spr = s.spr ∧ (s.signalTest h0).mrg = s.mrg ∧
    (s.signalTest h0).fnm = s.fnm ∧ (s.signalTest h0).chg = s.chg ∧ (s.signalTest h0).snd = s.snd ∧
    (s.signalTest h0).smk = s.smk ∧ (s.signalTest h0).lmp = s.lmp ∧ (s.signalTest h0).sup = s.sup ∧
    (s.signalTest h0).cfg = s.cfg ∧ (s.signalTest h0).eeprom = s.eeprom ∧ (s.signalTest h0).flash = s.flash :=
  by
  unfold State.signalTest; split <;> simp

@[simp] theorem stopReachedTest_frame (h0 : Level) (s : State) :
    (s.stopReachedTest h0).pending = s.pending ∧ (s.stopReachedTest h0).power = s.power ∧
    (s.stopReachedTest h0).rxc = s.rxc ∧ (s.stopReachedTest h0).rpt = s.rpt ∧ (s.stopReachedTest h0).ptb = s.ptb ∧
    (s.stopReachedTest h0).tkm = s.tkm ∧ (s.stopReachedTest h0).csu = s.csu ∧ (s.stopReachedTest h0).spr = s.spr ∧
    (s.stopReachedTest h0).mrg = s.mrg ∧ (s.stopReachedTest h0).fnm = s.fnm ∧ (s.stopReachedTest h0).chg = s.chg ∧
    (s.stopReachedTest h0).snd = s.snd ∧ (s.stopReachedTest h0).smk = s.smk ∧ (s.stopReachedTest h0).lmp = s.lmp ∧
    (s.stopReachedTest h0).sup = s.sup ∧ (s.stopReachedTest h0).cfg = s.cfg ∧ (s.stopReachedTest h0).eeprom = s.eeprom ∧
    (s.stopReachedTest h0).flash = s.flash :=
  by
  unfold State.stopReachedTest; split <;> simp

@[simp] theorem stallTest_frame (h0 : Level) (s : State) :
    (s.stallTest h0).pending = s.pending ∧ (s.stallTest h0).power = s.power ∧ (s.stallTest h0).rxc = s.rxc ∧
    (s.stallTest h0).rpt = s.rpt ∧ (s.stallTest h0).ptb = s.ptb ∧ (s.stallTest h0).tkm = s.tkm ∧
    (s.stallTest h0).csu = s.csu ∧ (s.stallTest h0).spr = s.spr ∧ (s.stallTest h0).mrg = s.mrg ∧
    (s.stallTest h0).fnm = s.fnm ∧ (s.stallTest h0).chg = s.chg ∧ (s.stallTest h0).snd = s.snd ∧
    (s.stallTest h0).smk = s.smk ∧ (s.stallTest h0).lmp = s.lmp ∧ (s.stallTest h0).sup = s.sup ∧
    (s.stallTest h0).cfg = s.cfg ∧ (s.stallTest h0).eeprom = s.eeprom ∧ (s.stallTest h0).flash = s.flash :=
  by
  unfold State.stallTest; split <;> simp

@[simp] theorem holdTest_frame (s : State) :
    (s.holdTest).pending = s.pending ∧ (s.holdTest).power = s.power ∧ (s.holdTest).rxc = s.rxc ∧ (s.holdTest).rpt = s.rpt ∧
    (s.holdTest).ptb = s.ptb ∧ (s.holdTest).tkm = s.tkm ∧ (s.holdTest).csu = s.csu ∧ (s.holdTest).spr = s.spr ∧
    (s.holdTest).mrg = s.mrg ∧ (s.holdTest).fnm = s.fnm ∧ (s.holdTest).chg = s.chg ∧ (s.holdTest).snd = s.snd ∧
    (s.holdTest).smk = s.smk ∧ (s.holdTest).lmp = s.lmp ∧ (s.holdTest).sup = s.sup ∧ (s.holdTest).cfg = s.cfg ∧
    (s.holdTest).eeprom = s.eeprom ∧ (s.holdTest).flash = s.flash :=
  by
  unfold State.holdTest; split <;> simp

@[simp] theorem entryAction_frame (k : EntryAction) (s : State) :
    (s.entryAction k).pending = s.pending ∧ (s.entryAction k).power = s.power ∧ (s.entryAction k).rxc = s.rxc ∧
    (s.entryAction k).ptb = s.ptb ∧ (s.entryAction k).tkm = s.tkm ∧ (s.entryAction k).aut = s.aut ∧
    (s.entryAction k).csu = s.csu ∧ (s.entryAction k).spr = s.spr ∧ (s.entryAction k).mrg = s.mrg ∧
    (s.entryAction k).fnm = s.fnm ∧ (s.entryAction k).chg = s.chg ∧ (s.entryAction k).sup = s.sup ∧
    (s.entryAction k).cfg = s.cfg ∧ (s.entryAction k).eeprom = s.eeprom ∧ (s.entryAction k).flash = s.flash :=
  by
  unfold State.entryAction; split <;> simp

@[simp] theorem runActions_frame (ks : List EntryAction) (s : State) :
    ((ks.foldl State.entryAction s)).pending = s.pending ∧ ((ks.foldl State.entryAction s)).power = s.power ∧
    ((ks.foldl State.entryAction s)).rxc = s.rxc ∧ ((ks.foldl State.entryAction s)).ptb = s.ptb ∧
    ((ks.foldl State.entryAction s)).tkm = s.tkm ∧ ((ks.foldl State.entryAction s)).aut = s.aut ∧
    ((ks.foldl State.entryAction s)).csu = s.csu ∧ ((ks.foldl State.entryAction s)).spr = s.spr ∧
    ((ks.foldl State.entryAction s)).mrg = s.mrg ∧ ((ks.foldl State.entryAction s)).fnm = s.fnm ∧
    ((ks.foldl State.entryAction s)).chg = s.chg ∧ ((ks.foldl State.entryAction s)).sup = s.sup ∧
    ((ks.foldl State.entryAction s)).cfg = s.cfg ∧ ((ks.foldl State.entryAction s)).eeprom = s.eeprom ∧
    ((ks.foldl State.entryAction s)).flash = s.flash :=
  by
  induction ks generalizing s with
  | nil => simp
  | cons k ks ih => simp [ih]

@[simp] theorem entryActions_frame (l : Level) (resume : Bool) (s : State) :
    (s.entryActions l resume).pending = s.pending ∧ (s.entryActions l resume).power = s.power ∧
    (s.entryActions l resume).rxc = s.rxc ∧ (s.entryActions l resume).ptb = s.ptb ∧ (s.entryActions l resume).tkm = s.tkm ∧
    (s.entryActions l resume).aut = s.aut ∧ (s.entryActions l resume).csu = s.csu ∧ (s.entryActions l resume).spr = s.spr ∧
    (s.entryActions l resume).mrg = s.mrg ∧ (s.entryActions l resume).fnm = s.fnm ∧ (s.entryActions l resume).chg = s.chg ∧
    (s.entryActions l resume).sup = s.sup ∧ (s.entryActions l resume).cfg = s.cfg ∧
    (s.entryActions l resume).eeprom = s.eeprom ∧ (s.entryActions l resume).flash = s.flash :=
  by
  unfold State.entryActions; split <;> simp

@[simp] theorem requestedRefresh_frame (s : State) :
    (s.requestedRefresh).pending = s.pending ∧ (s.requestedRefresh).power = s.power ∧ (s.requestedRefresh).rxc = s.rxc ∧
    (s.requestedRefresh).rpt = s.rpt ∧ (s.requestedRefresh).ptb = s.ptb ∧ (s.requestedRefresh).tkm = s.tkm ∧
    (s.requestedRefresh).csu = s.csu ∧ (s.requestedRefresh).spr = s.spr ∧ (s.requestedRefresh).mrg = s.mrg ∧
    (s.requestedRefresh).fnm = s.fnm ∧ (s.requestedRefresh).chg = s.chg ∧ (s.requestedRefresh).snd = s.snd ∧
    (s.requestedRefresh).smk = s.smk ∧ (s.requestedRefresh).lmp = s.lmp ∧ (s.requestedRefresh).sup = s.sup ∧
    (s.requestedRefresh).cfg = s.cfg ∧ (s.requestedRefresh).eeprom = s.eeprom ∧ (s.requestedRefresh).flash = s.flash :=
  by
  simp [State.requestedRefresh]

@[simp] theorem activate_frame (h0 : Level) (l : Level) (s : State) :
    (s.activate h0 l).pending = s.pending ∧ (s.activate h0 l).power = s.power ∧ (s.activate h0 l).rxc = s.rxc ∧
    (s.activate h0 l).ptb = s.ptb ∧ (s.activate h0 l).tkm = s.tkm ∧ (s.activate h0 l).csu = s.csu ∧
    (s.activate h0 l).mrg = s.mrg ∧ (s.activate h0 l).chg = s.chg ∧ (s.activate h0 l).sup = s.sup ∧
    (s.activate h0 l).cfg = s.cfg ∧ (s.activate h0 l).eeprom = s.eeprom ∧ (s.activate h0 l).flash = s.flash :=
  by
  unfold State.activate; split <;> simp

@[simp] theorem changeHead_frame (h0 : Level) (s : State) :
    (s.changeHead h0).pending = s.pending ∧ (s.changeHead h0).power = s.power ∧ (s.changeHead h0).rxc = s.rxc ∧
    (s.changeHead h0).ptb = s.ptb ∧ (s.changeHead h0).tkm = s.tkm ∧ (s.changeHead h0).csu = s.csu ∧
    (s.changeHead h0).mrg = s.mrg ∧ (s.changeHead h0).chg = s.chg ∧ (s.changeHead h0).sup = s.sup ∧
    (s.changeHead h0).cfg = s.cfg ∧ (s.changeHead h0).eeprom = s.eeprom ∧ (s.changeHead h0).flash = s.flash :=
  by
  unfold State.changeHead; (repeat' split) <;> simp

@[simp] theorem settleClaims_frame (h0 : Level) (s : State) :
    (s.settleClaims h0).pending = s.pending ∧ (s.settleClaims h0).power = s.power ∧ (s.settleClaims h0).rxc = s.rxc ∧
    (s.settleClaims h0).rpt = s.rpt ∧ (s.settleClaims h0).ptb = s.ptb ∧ (s.settleClaims h0).tkm = s.tkm ∧
    (s.settleClaims h0).csu = s.csu ∧ (s.settleClaims h0).spr = s.spr ∧ (s.settleClaims h0).mrg = s.mrg ∧
    (s.settleClaims h0).fnm = s.fnm ∧ (s.settleClaims h0).chg = s.chg ∧ (s.settleClaims h0).snd = s.snd ∧
    (s.settleClaims h0).smk = s.smk ∧ (s.settleClaims h0).lmp = s.lmp ∧ (s.settleClaims h0).sup = s.sup ∧
    (s.settleClaims h0).cfg = s.cfg ∧ (s.settleClaims h0).eeprom = s.eeprom ∧ (s.settleClaims h0).flash = s.flash :=
  by
  simp [State.settleClaims]

@[simp] theorem settle_frame (s0 : State) (s : State) :
    (s.settle s0).pending = s.pending ∧ (s.settle s0).power = s.power ∧ (s.settle s0).rxc = s.rxc ∧
    (s.settle s0).ptb = s.ptb ∧ (s.settle s0).tkm = s.tkm ∧ (s.settle s0).csu = s.csu ∧ (s.settle s0).mrg = s.mrg ∧
    (s.settle s0).chg = s.chg ∧ (s.settle s0).sup = s.sup ∧ (s.settle s0).cfg = s.cfg ∧ (s.settle s0).eeprom = s.eeprom ∧
    (s.settle s0).flash = s.flash :=
  by
  simp [State.settle]

end Sys2Proof.Machine
end

