-- ==== Sys2Proof/Laws/BlockFrames.lean ====
section
/-! SUPPORT. What the operations of CSU, CHG, SPR and MRG leave as it was: one lemma per operation, every untouched field in it. -/

namespace Sys2Proof.Machine

@[simp] theorem memberTest_frame (s : State) :
    (s.memberTest).pending = s.pending ∧ (s.memberTest).power = s.power ∧ (s.memberTest).rxc = s.rxc ∧
    (s.memberTest).ptb = s.ptb ∧ (s.memberTest).tkm = s.tkm ∧ (s.memberTest).csu = s.csu ∧ (s.memberTest).spr = s.spr ∧
    (s.memberTest).mrg = s.mrg ∧ (s.memberTest).fnm = s.fnm ∧ (s.memberTest).chg = s.chg ∧ (s.memberTest).snd = s.snd ∧
    (s.memberTest).smk = s.smk ∧ (s.memberTest).lmp = s.lmp ∧ (s.memberTest).sup = s.sup ∧ (s.memberTest).cfg = s.cfg ∧
    (s.memberTest).eeprom = s.eeprom ∧ (s.memberTest).flash = s.flash :=
  by
  unfold State.memberTest; (repeat' split) <;> simp

@[simp] theorem watchMembers_frame (always : Bool) (s : State) :
    (s.watchMembers always).pending = s.pending ∧ (s.watchMembers always).power = s.power ∧
    (s.watchMembers always).rxc = s.rxc ∧ (s.watchMembers always).ptb = s.ptb ∧ (s.watchMembers always).tkm = s.tkm ∧
    (s.watchMembers always).spr = s.spr ∧ (s.watchMembers always).mrg = s.mrg ∧ (s.watchMembers always).fnm = s.fnm ∧
    (s.watchMembers always).chg = s.chg ∧ (s.watchMembers always).snd = s.snd ∧ (s.watchMembers always).smk = s.smk ∧
    (s.watchMembers always).lmp = s.lmp ∧ (s.watchMembers always).sup = s.sup ∧ (s.watchMembers always).cfg = s.cfg ∧
    (s.watchMembers always).eeprom = s.eeprom ∧ (s.watchMembers always).flash = s.flash :=
  by
  simp only [State.watchMembers]; (repeat' split) <;> simp

@[simp] theorem putFollow_frame (h0 : Level) (speed : Nat) (dir : Direction) (s : State) :
    (s.putFollow h0 speed dir).pending = s.pending ∧ (s.putFollow h0 speed dir).power = s.power ∧
    (s.putFollow h0 speed dir).rxc = s.rxc ∧ (s.putFollow h0 speed dir).rpt = s.rpt ∧
    (s.putFollow h0 speed dir).ptb = s.ptb ∧ (s.putFollow h0 speed dir).tkm = s.tkm ∧
    (s.putFollow h0 speed dir).csu = s.csu ∧ (s.putFollow h0 speed dir).spr = s.spr ∧
    (s.putFollow h0 speed dir).mrg = s.mrg ∧ (s.putFollow h0 speed dir).fnm = s.fnm ∧
    (s.putFollow h0 speed dir).chg = s.chg ∧ (s.putFollow h0 speed dir).snd = s.snd ∧
    (s.putFollow h0 speed dir).smk = s.smk ∧ (s.putFollow h0 speed dir).lmp = s.lmp ∧
    (s.putFollow h0 speed dir).sup = s.sup ∧ (s.putFollow h0 speed dir).cfg = s.cfg ∧
    (s.putFollow h0 speed dir).eeprom = s.eeprom ∧ (s.putFollow h0 speed dir).flash = s.flash :=
  by
  simp [State.putFollow]

@[simp] theorem followReport_frame (h0 : Level) (d : LocoData) (s : State) :
    (s.followReport h0 d).pending = s.pending ∧ (s.followReport h0 d).power = s.power ∧ (s.followReport h0 d).rxc = s.rxc ∧
    (s.followReport h0 d).rpt = s.rpt ∧ (s.followReport h0 d).ptb = s.ptb ∧ (s.followReport h0 d).tkm = s.tkm ∧
    (s.followReport h0 d).spr = s.spr ∧ (s.followReport h0 d).mrg = s.mrg ∧ (s.followReport h0 d).fnm = s.fnm ∧
    (s.followReport h0 d).chg = s.chg ∧ (s.followReport h0 d).snd = s.snd ∧ (s.followReport h0 d).smk = s.smk ∧
    (s.followReport h0 d).lmp = s.lmp ∧ (s.followReport h0 d).sup = s.sup ∧ (s.followReport h0 d).cfg = s.cfg ∧
    (s.followReport h0 d).eeprom = s.eeprom ∧ (s.followReport h0 d).flash = s.flash :=
  by
  simp [State.followReport]

@[simp] theorem leaveFollower_frame (s : State) :
    (s.leaveFollower).pending = s.pending ∧ (s.leaveFollower).power = s.power ∧ (s.leaveFollower).rpt = s.rpt ∧
    (s.leaveFollower).ptb = s.ptb ∧ (s.leaveFollower).tkm = s.tkm ∧ (s.leaveFollower).spr = s.spr ∧
    (s.leaveFollower).mrg = s.mrg ∧ (s.leaveFollower).fnm = s.fnm ∧ (s.leaveFollower).chg = s.chg ∧
    (s.leaveFollower).snd = s.snd ∧ (s.leaveFollower).smk = s.smk ∧ (s.leaveFollower).lmp = s.lmp ∧
    (s.leaveFollower).sup = s.sup ∧ (s.leaveFollower).cfg = s.cfg ∧ (s.leaveFollower).eeprom = s.eeprom ∧
    (s.leaveFollower).flash = s.flash :=
  by
  simp [State.leaveFollower]

@[simp] theorem leaveLead_frame (s : State) :
    (s.leaveLead).pending = s.pending ∧ (s.leaveLead).power = s.power ∧ (s.leaveLead).rxc = s.rxc ∧
    (s.leaveLead).rpt = s.rpt ∧ (s.leaveLead).ptb = s.ptb ∧ (s.leaveLead).tkm = s.tkm ∧ (s.leaveLead).spr = s.spr ∧
    (s.leaveLead).mrg = s.mrg ∧ (s.leaveLead).fnm = s.fnm ∧ (s.leaveLead).chg = s.chg ∧ (s.leaveLead).snd = s.snd ∧
    (s.leaveLead).smk = s.smk ∧ (s.leaveLead).lmp = s.lmp ∧ (s.leaveLead).sup = s.sup ∧ (s.leaveLead).cfg = s.cfg ∧
    (s.leaveLead).eeprom = s.eeprom ∧ (s.leaveLead).flash = s.flash :=
  by
  simp [State.leaveLead]

@[simp] theorem joinFollower_frame (s : State) :
    (s.joinFollower).pending = s.pending ∧ (s.joinFollower).power = s.power ∧ (s.joinFollower).ptb = s.ptb ∧
    (s.joinFollower).tkm = s.tkm ∧ (s.joinFollower).spr = s.spr ∧ (s.joinFollower).mrg = s.mrg ∧
    (s.joinFollower).fnm = s.fnm ∧ (s.joinFollower).chg = s.chg ∧ (s.joinFollower).snd = s.snd ∧
    (s.joinFollower).smk = s.smk ∧ (s.joinFollower).lmp = s.lmp ∧ (s.joinFollower).sup = s.sup ∧
    (s.joinFollower).cfg = s.cfg ∧ (s.joinFollower).eeprom = s.eeprom ∧ (s.joinFollower).flash = s.flash :=
  by
  simp [State.joinFollower]

@[simp] theorem stayFollower_frame (h0 : Level) (before : Option Membership) (s : State) :
    (s.stayFollower h0 before).pending = s.pending ∧ (s.stayFollower h0 before).power = s.power ∧
    (s.stayFollower h0 before).rpt = s.rpt ∧ (s.stayFollower h0 before).ptb = s.ptb ∧
    (s.stayFollower h0 before).tkm = s.tkm ∧ (s.stayFollower h0 before).spr = s.spr ∧
    (s.stayFollower h0 before).mrg = s.mrg ∧ (s.stayFollower h0 before).fnm = s.fnm ∧
    (s.stayFollower h0 before).chg = s.chg ∧ (s.stayFollower h0 before).snd = s.snd ∧
    (s.stayFollower h0 before).smk = s.smk ∧ (s.stayFollower h0 before).lmp = s.lmp ∧
    (s.stayFollower h0 before).sup = s.sup ∧ (s.stayFollower h0 before).cfg = s.cfg ∧
    (s.stayFollower h0 before).eeprom = s.eeprom ∧ (s.stayFollower h0 before).flash = s.flash :=
  by
  unfold State.stayFollower; (repeat' split) <;> simp

@[simp] theorem roleEffects_frame (h0 : Level) (before : Option Membership) (old : ConsistRole) (new : ConsistRole) (s : State) :
    (s.roleEffects h0 before old new).pending = s.pending ∧ (s.roleEffects h0 before old new).power = s.power ∧
    (s.roleEffects h0 before old new).ptb = s.ptb ∧ (s.roleEffects h0 before old new).tkm = s.tkm ∧
    (s.roleEffects h0 before old new).spr = s.spr ∧ (s.roleEffects h0 before old new).mrg = s.mrg ∧
    (s.roleEffects h0 before old new).fnm = s.fnm ∧ (s.roleEffects h0 before old new).chg = s.chg ∧
    (s.roleEffects h0 before old new).snd = s.snd ∧ (s.roleEffects h0 before old new).smk = s.smk ∧
    (s.roleEffects h0 before old new).lmp = s.lmp ∧ (s.roleEffects h0 before old new).sup = s.sup ∧
    (s.roleEffects h0 before old new).cfg = s.cfg ∧ (s.roleEffects h0 before old new).eeprom = s.eeprom ∧
    (s.roleEffects h0 before old new).flash = s.flash :=
  by
  unfold State.roleEffects; split <;> simp

@[simp] theorem applyMembership_frame (h0 : Level) (m : Option Membership) (s : State) :
    (s.applyMembership h0 m).pending = s.pending ∧ (s.applyMembership h0 m).power = s.power ∧
    (s.applyMembership h0 m).ptb = s.ptb ∧ (s.applyMembership h0 m).spr = s.spr ∧ (s.applyMembership h0 m).mrg = s.mrg ∧
    (s.applyMembership h0 m).fnm = s.fnm ∧ (s.applyMembership h0 m).chg = s.chg ∧ (s.applyMembership h0 m).snd = s.snd ∧
    (s.applyMembership h0 m).smk = s.smk ∧ (s.applyMembership h0 m).lmp = s.lmp ∧ (s.applyMembership h0 m).sup = s.sup ∧
    (s.applyMembership h0 m).cfg = s.cfg ∧ (s.applyMembership h0 m).eeprom = s.eeprom ∧
    (s.applyMembership h0 m).flash = s.flash :=
  by
  simp only [State.applyMembership]; (repeat' split) <;> simp

@[simp] theorem takeMembership_frame (h0 : Level) (m : Option Membership) (s : State) :
    (s.takeMembership h0 m).pending = s.pending ∧ (s.takeMembership h0 m).power = s.power ∧
    (s.takeMembership h0 m).ptb = s.ptb ∧ (s.takeMembership h0 m).spr = s.spr ∧ (s.takeMembership h0 m).mrg = s.mrg ∧
    (s.takeMembership h0 m).fnm = s.fnm ∧ (s.takeMembership h0 m).chg = s.chg ∧ (s.takeMembership h0 m).snd = s.snd ∧
    (s.takeMembership h0 m).smk = s.smk ∧ (s.takeMembership h0 m).lmp = s.lmp ∧ (s.takeMembership h0 m).sup = s.sup ∧
    (s.takeMembership h0 m).cfg = s.cfg ∧ (s.takeMembership h0 m).eeprom = s.eeprom ∧
    (s.takeMembership h0 m).flash = s.flash :=
  by
  unfold State.takeMembership; (repeat' split) <;> simp

@[simp] theorem applySlot_frame (h0 : Level) (s : State) :
    (s.applySlot h0).pending = s.pending ∧ (s.applySlot h0).power = s.power ∧ (s.applySlot h0).ptb = s.ptb ∧
    (s.applySlot h0).spr = s.spr ∧ (s.applySlot h0).mrg = s.mrg ∧ (s.applySlot h0).fnm = s.fnm ∧
    (s.applySlot h0).chg = s.chg ∧ (s.applySlot h0).snd = s.snd ∧ (s.applySlot h0).smk = s.smk ∧
    (s.applySlot h0).lmp = s.lmp ∧ (s.applySlot h0).sup = s.sup ∧ (s.applySlot h0).cfg = s.cfg ∧
    (s.applySlot h0).eeprom = s.eeprom ∧ (s.applySlot h0).flash = s.flash :=
  by
  unfold State.applySlot; split <;> simp

@[simp] theorem takeConsist_frame (h0 : Level) (d : ConsistData) (s : State) :
    (s.takeConsist h0 d).pending = s.pending ∧ (s.takeConsist h0 d).power = s.power ∧ (s.takeConsist h0 d).ptb = s.ptb ∧
    (s.takeConsist h0 d).spr = s.spr ∧ (s.takeConsist h0 d).mrg = s.mrg ∧ (s.takeConsist h0 d).fnm = s.fnm ∧
    (s.takeConsist h0 d).chg = s.chg ∧ (s.takeConsist h0 d).snd = s.snd ∧ (s.takeConsist h0 d).smk = s.smk ∧
    (s.takeConsist h0 d).lmp = s.lmp ∧ (s.takeConsist h0 d).sup = s.sup ∧ (s.takeConsist h0 d).cfg = s.cfg ∧
    (s.takeConsist h0 d).eeprom = s.eeprom ∧ (s.takeConsist h0 d).flash = s.flash :=
  by
  unfold State.takeConsist; split <;> simp

@[simp] theorem chuffEvent_frame (s : State) :
    (s.chuffEvent).pending = s.pending ∧ (s.chuffEvent).power = s.power ∧ (s.chuffEvent).rxc = s.rxc ∧
    (s.chuffEvent).ptb = s.ptb ∧ (s.chuffEvent).tkm = s.tkm ∧ (s.chuffEvent).aut = s.aut ∧ (s.chuffEvent).csu = s.csu ∧
    (s.chuffEvent).spr = s.spr ∧ (s.chuffEvent).mrg = s.mrg ∧ (s.chuffEvent).fnm = s.fnm ∧ (s.chuffEvent).sup = s.sup ∧
    (s.chuffEvent).cfg = s.cfg ∧ (s.chuffEvent).eeprom = s.eeprom ∧ (s.chuffEvent).flash = s.flash :=
  by
  simp [State.chuffEvent]

@[simp] theorem syntheticChuff_frame (s : State) :
    (s.syntheticChuff).pending = s.pending ∧ (s.syntheticChuff).power = s.power ∧ (s.syntheticChuff).rxc = s.rxc ∧
    (s.syntheticChuff).ptb = s.ptb ∧ (s.syntheticChuff).tkm = s.tkm ∧ (s.syntheticChuff).aut = s.aut ∧
    (s.syntheticChuff).csu = s.csu ∧ (s.syntheticChuff).spr = s.spr ∧ (s.syntheticChuff).mrg = s.mrg ∧
    (s.syntheticChuff).fnm = s.fnm ∧ (s.syntheticChuff).sup = s.sup ∧ (s.syntheticChuff).cfg = s.cfg ∧
    (s.syntheticChuff).eeprom = s.eeprom ∧ (s.syntheticChuff).flash = s.flash :=
  by
  unfold State.syntheticChuff; (repeat' split) <;> simp

@[simp] theorem camTake_frame (s : State) :
    (s.camTake).pending = s.pending ∧ (s.camTake).power = s.power ∧ (s.camTake).rxc = s.rxc ∧ (s.camTake).ptb = s.ptb ∧
    (s.camTake).tkm = s.tkm ∧ (s.camTake).aut = s.aut ∧ (s.camTake).csu = s.csu ∧ (s.camTake).spr = s.spr ∧
    (s.camTake).mrg = s.mrg ∧ (s.camTake).fnm = s.fnm ∧ (s.camTake).sup = s.sup ∧ (s.camTake).cfg = s.cfg ∧
    (s.camTake).eeprom = s.eeprom ∧ (s.camTake).flash = s.flash :=
  by
  unfold State.camTake; split <;> simp

@[simp] theorem camEdge_frame (s : State) :
    (s.camEdge).pending = s.pending ∧ (s.camEdge).power = s.power ∧ (s.camEdge).rxc = s.rxc ∧ (s.camEdge).ptb = s.ptb ∧
    (s.camEdge).tkm = s.tkm ∧ (s.camEdge).aut = s.aut ∧ (s.camEdge).csu = s.csu ∧ (s.camEdge).spr = s.spr ∧
    (s.camEdge).mrg = s.mrg ∧ (s.camEdge).fnm = s.fnm ∧ (s.camEdge).sup = s.sup ∧ (s.camEdge).cfg = s.cfg ∧
    (s.camEdge).eeprom = s.eeprom ∧ (s.camEdge).flash = s.flash :=
  by
  unfold State.camEdge; split <;> simp

@[simp] theorem camExpiry_frame (s : State) :
    (s.camExpiry).pending = s.pending ∧ (s.camExpiry).power = s.power ∧ (s.camExpiry).rxc = s.rxc ∧
    (s.camExpiry).ptb = s.ptb ∧ (s.camExpiry).tkm = s.tkm ∧ (s.camExpiry).aut = s.aut ∧ (s.camExpiry).csu = s.csu ∧
    (s.camExpiry).spr = s.spr ∧ (s.camExpiry).mrg = s.mrg ∧ (s.camExpiry).fnm = s.fnm ∧ (s.camExpiry).sup = s.sup ∧
    (s.camExpiry).cfg = s.cfg ∧ (s.camExpiry).eeprom = s.eeprom ∧ (s.camExpiry).flash = s.flash :=
  by
  simp [State.camExpiry]

@[simp] theorem sprCompute_frame (s : State) :
    (s.sprCompute).pending = s.pending ∧ (s.sprCompute).power = s.power ∧ (s.sprCompute).rxc = s.rxc ∧
    (s.sprCompute).rpt = s.rpt ∧ (s.sprCompute).ptb = s.ptb ∧ (s.sprCompute).tkm = s.tkm ∧ (s.sprCompute).aut = s.aut ∧
    (s.sprCompute).csu = s.csu ∧ (s.sprCompute).mrg = s.mrg ∧ (s.sprCompute).fnm = s.fnm ∧ (s.sprCompute).chg = s.chg ∧
    (s.sprCompute).smk = s.smk ∧ (s.sprCompute).lmp = s.lmp ∧ (s.sprCompute).sup = s.sup ∧ (s.sprCompute).cfg = s.cfg ∧
    (s.sprCompute).eeprom = s.eeprom ∧ (s.sprCompute).flash = s.flash :=
  by
  simp [State.sprCompute]

@[simp] theorem judgeStopped_frame (h0 : Level) (s : State) :
    (s.judgeStopped h0).pending = s.pending ∧ (s.judgeStopped h0).power = s.power ∧ (s.judgeStopped h0).ptb = s.ptb ∧
    (s.judgeStopped h0).mrg = s.mrg ∧ (s.judgeStopped h0).fnm = s.fnm ∧ (s.judgeStopped h0).chg = s.chg ∧
    (s.judgeStopped h0).lmp = s.lmp ∧ (s.judgeStopped h0).sup = s.sup ∧ (s.judgeStopped h0).cfg = s.cfg ∧
    (s.judgeStopped h0).eeprom = s.eeprom ∧ (s.judgeStopped h0).flash = s.flash :=
  by
  unfold State.judgeStopped; (repeat' split) <;> simp

@[simp] theorem judgeAfterStop_frame (h0 : Level) (ref : Nat) (s : State) :
    (s.judgeAfterStop h0 ref).pending = s.pending ∧ (s.judgeAfterStop h0 ref).power = s.power ∧ (s.judgeAfterStop h0 ref).ptb = s.ptb ∧
    (s.judgeAfterStop h0 ref).mrg = s.mrg ∧ (s.judgeAfterStop h0 ref).fnm = s.fnm ∧ (s.judgeAfterStop h0 ref).chg = s.chg ∧
    (s.judgeAfterStop h0 ref).lmp = s.lmp ∧ (s.judgeAfterStop h0 ref).sup = s.sup ∧ (s.judgeAfterStop h0 ref).cfg = s.cfg ∧
    (s.judgeAfterStop h0 ref).eeprom = s.eeprom ∧ (s.judgeAfterStop h0 ref).flash = s.flash :=
  by
  unfold State.judgeAfterStop; split <;> simp

@[simp] theorem mrgLaw_frame (s : State) :
    (s.mrgLaw).pending = s.pending ∧ (s.mrgLaw).power = s.power ∧ (s.mrgLaw).rxc = s.rxc ∧ (s.mrgLaw).rpt = s.rpt ∧
    (s.mrgLaw).ptb = s.ptb ∧ (s.mrgLaw).tkm = s.tkm ∧ (s.mrgLaw).aut = s.aut ∧ (s.mrgLaw).csu = s.csu ∧
    (s.mrgLaw).spr = s.spr ∧ (s.mrgLaw).fnm = s.fnm ∧ (s.mrgLaw).chg = s.chg ∧ (s.mrgLaw).snd = s.snd ∧
    (s.mrgLaw).smk = s.smk ∧ (s.mrgLaw).lmp = s.lmp ∧ (s.mrgLaw).sup = s.sup ∧ (s.mrgLaw).cfg = s.cfg ∧
    (s.mrgLaw).eeprom = s.eeprom ∧ (s.mrgLaw).flash = s.flash :=
  by
  simp [State.mrgLaw]

@[simp] theorem mrgBridge_frame (s : State) :
    (s.mrgBridge).pending = s.pending ∧ (s.mrgBridge).power = s.power ∧ (s.mrgBridge).rxc = s.rxc ∧
    (s.mrgBridge).rpt = s.rpt ∧ (s.mrgBridge).ptb = s.ptb ∧ (s.mrgBridge).tkm = s.tkm ∧ (s.mrgBridge).aut = s.aut ∧
    (s.mrgBridge).csu = s.csu ∧ (s.mrgBridge).spr = s.spr ∧ (s.mrgBridge).fnm = s.fnm ∧ (s.mrgBridge).chg = s.chg ∧
    (s.mrgBridge).snd = s.snd ∧ (s.mrgBridge).smk = s.smk ∧ (s.mrgBridge).lmp = s.lmp ∧ (s.mrgBridge).sup = s.sup ∧
    (s.mrgBridge).cfg = s.cfg ∧ (s.mrgBridge).eeprom = s.eeprom ∧ (s.mrgBridge).flash = s.flash :=
  by
  simp [State.mrgBridge]

@[simp] theorem stallCount_frame (s : State) :
    (s.stallCount).pending = s.pending ∧ (s.stallCount).power = s.power ∧ (s.stallCount).rxc = s.rxc ∧
    (s.stallCount).rpt = s.rpt ∧ (s.stallCount).ptb = s.ptb ∧ (s.stallCount).tkm = s.tkm ∧ (s.stallCount).aut = s.aut ∧
    (s.stallCount).csu = s.csu ∧ (s.stallCount).spr = s.spr ∧ (s.stallCount).fnm = s.fnm ∧ (s.stallCount).chg = s.chg ∧
    (s.stallCount).snd = s.snd ∧ (s.stallCount).smk = s.smk ∧ (s.stallCount).lmp = s.lmp ∧ (s.stallCount).sup = s.sup ∧
    (s.stallCount).cfg = s.cfg ∧ (s.stallCount).eeprom = s.eeprom ∧ (s.stallCount).flash = s.flash :=
  by
  simp [State.stallCount]

@[simp] theorem refStop_frame (s : State) :
    (s.refStop).pending = s.pending ∧ (s.refStop).power = s.power ∧ (s.refStop).rxc = s.rxc ∧ (s.refStop).rpt = s.rpt ∧
    (s.refStop).ptb = s.ptb ∧ (s.refStop).tkm = s.tkm ∧ (s.refStop).aut = s.aut ∧ (s.refStop).csu = s.csu ∧
    (s.refStop).mrg = s.mrg ∧ (s.refStop).fnm = s.fnm ∧ (s.refStop).chg = s.chg ∧ (s.refStop).snd = s.snd ∧
    (s.refStop).smk = s.smk ∧ (s.refStop).lmp = s.lmp ∧ (s.refStop).sup = s.sup ∧ (s.refStop).cfg = s.cfg ∧
    (s.refStop).eeprom = s.eeprom ∧ (s.refStop).flash = s.flash :=
  by
  simp [State.refStop]

@[simp] theorem stallStop_frame (h0 : Level) (s : State) :
    (s.stallStop h0).pending = s.pending ∧ (s.stallStop h0).power = s.power ∧ (s.stallStop h0).ptb = s.ptb ∧
    (s.stallStop h0).fnm = s.fnm ∧ (s.stallStop h0).chg = s.chg ∧ (s.stallStop h0).lmp = s.lmp ∧
    (s.stallStop h0).sup = s.sup ∧ (s.stallStop h0).cfg = s.cfg ∧ (s.stallStop h0).eeprom = s.eeprom ∧
    (s.stallStop h0).flash = s.flash :=
  by
  simp [State.stallStop]

@[simp] theorem periodCompute_frame (s : State) :
    (s.periodCompute).pending = s.pending ∧ (s.periodCompute).power = s.power ∧ (s.periodCompute).rxc = s.rxc ∧
    (s.periodCompute).rpt = s.rpt ∧ (s.periodCompute).ptb = s.ptb ∧ (s.periodCompute).tkm = s.tkm ∧
    (s.periodCompute).aut = s.aut ∧ (s.periodCompute).csu = s.csu ∧ (s.periodCompute).fnm = s.fnm ∧
    (s.periodCompute).chg = s.chg ∧ (s.periodCompute).smk = s.smk ∧ (s.periodCompute).lmp = s.lmp ∧
    (s.periodCompute).sup = s.sup ∧ (s.periodCompute).cfg = s.cfg ∧ (s.periodCompute).eeprom = s.eeprom ∧
    (s.periodCompute).flash = s.flash :=
  by
  simp [State.periodCompute]

@[simp] theorem controlPeriod_frame (s : State) :
    (s.controlPeriod).pending = s.pending ∧ (s.controlPeriod).power = s.power ∧ (s.controlPeriod).ptb = s.ptb ∧
    (s.controlPeriod).fnm = s.fnm ∧ (s.controlPeriod).chg = s.chg ∧ (s.controlPeriod).lmp = s.lmp ∧
    (s.controlPeriod).sup = s.sup ∧ (s.controlPeriod).cfg = s.cfg ∧ (s.controlPeriod).eeprom = s.eeprom ∧
    (s.controlPeriod).flash = s.flash :=
  by
  simp only [State.controlPeriod]; (repeat' split) <;> simp

@[simp] theorem emergencyStop_frame (h0 : Level) (s : State) :
    (s.emergencyStop h0).pending = s.pending ∧ (s.emergencyStop h0).power = s.power ∧ (s.emergencyStop h0).ptb = s.ptb ∧
    (s.emergencyStop h0).fnm = s.fnm ∧ (s.emergencyStop h0).chg = s.chg ∧ (s.emergencyStop h0).lmp = s.lmp ∧
    (s.emergencyStop h0).sup = s.sup ∧ (s.emergencyStop h0).cfg = s.cfg ∧ (s.emergencyStop h0).eeprom = s.eeprom ∧
    (s.emergencyStop h0).flash = s.flash :=
  by
  simp [State.emergencyStop]

@[simp] theorem depletedStop_frame (h0 : Level) (s : State) :
    (s.depletedStop h0).pending = s.pending ∧ (s.depletedStop h0).power = s.power ∧ (s.depletedStop h0).ptb = s.ptb ∧
    (s.depletedStop h0).fnm = s.fnm ∧ (s.depletedStop h0).chg = s.chg ∧ (s.depletedStop h0).lmp = s.lmp ∧
    (s.depletedStop h0).sup = s.sup ∧ (s.depletedStop h0).cfg = s.cfg ∧ (s.depletedStop h0).eeprom = s.eeprom ∧
    (s.depletedStop h0).flash = s.flash :=
  by
  simp [State.depletedStop]

@[simp] theorem currentTaken_frame (current : Nat) (s : State) :
    (s.currentTaken current).pending = s.pending ∧ (s.currentTaken current).power = s.power ∧
    (s.currentTaken current).rxc = s.rxc ∧ (s.currentTaken current).rpt = s.rpt ∧ (s.currentTaken current).ptb = s.ptb ∧
    (s.currentTaken current).tkm = s.tkm ∧ (s.currentTaken current).aut = s.aut ∧ (s.currentTaken current).csu = s.csu ∧
    (s.currentTaken current).spr = s.spr ∧ (s.currentTaken current).fnm = s.fnm ∧ (s.currentTaken current).chg = s.chg ∧
    (s.currentTaken current).snd = s.snd ∧ (s.currentTaken current).lmp = s.lmp ∧ (s.currentTaken current).sup = s.sup ∧
    (s.currentTaken current).cfg = s.cfg ∧ (s.currentTaken current).eeprom = s.eeprom ∧
    (s.currentTaken current).flash = s.flash :=
  by
  simp [State.currentTaken]

@[simp] theorem overcurrentLatch_frame (s : State) :
    (s.overcurrentLatch).pending = s.pending ∧ (s.overcurrentLatch).power = s.power ∧ (s.overcurrentLatch).rxc = s.rxc ∧
    (s.overcurrentLatch).ptb = s.ptb ∧ (s.overcurrentLatch).tkm = s.tkm ∧ (s.overcurrentLatch).csu = s.csu ∧
    (s.overcurrentLatch).spr = s.spr ∧ (s.overcurrentLatch).fnm = s.fnm ∧ (s.overcurrentLatch).chg = s.chg ∧
    (s.overcurrentLatch).snd = s.snd ∧ (s.overcurrentLatch).smk = s.smk ∧ (s.overcurrentLatch).lmp = s.lmp ∧
    (s.overcurrentLatch).sup = s.sup ∧ (s.overcurrentLatch).eeprom = s.eeprom ∧ (s.overcurrentLatch).flash = s.flash :=
  by
  simp [State.overcurrentLatch]

@[simp] theorem trip_frame (s : State) :
    (s.trip).pending = s.pending ∧ (s.trip).power = s.power ∧ (s.trip).rxc = s.rxc ∧ (s.trip).ptb = s.ptb ∧
    (s.trip).tkm = s.tkm ∧ (s.trip).csu = s.csu ∧ (s.trip).spr = s.spr ∧ (s.trip).fnm = s.fnm ∧ (s.trip).chg = s.chg ∧
    (s.trip).snd = s.snd ∧ (s.trip).smk = s.smk ∧ (s.trip).lmp = s.lmp ∧ (s.trip).sup = s.sup ∧ (s.trip).eeprom = s.eeprom ∧
    (s.trip).flash = s.flash :=
  by
  simp only [State.trip]; (repeat' split) <;> simp

@[simp] theorem overRunCount_frame (current : Nat) (s : State) :
    (s.overRunCount current).pending = s.pending ∧ (s.overRunCount current).power = s.power ∧
    (s.overRunCount current).rxc = s.rxc ∧ (s.overRunCount current).rpt = s.rpt ∧ (s.overRunCount current).ptb = s.ptb ∧
    (s.overRunCount current).tkm = s.tkm ∧ (s.overRunCount current).aut = s.aut ∧ (s.overRunCount current).csu = s.csu ∧
    (s.overRunCount current).spr = s.spr ∧ (s.overRunCount current).fnm = s.fnm ∧ (s.overRunCount current).chg = s.chg ∧
    (s.overRunCount current).snd = s.snd ∧ (s.overRunCount current).smk = s.smk ∧ (s.overRunCount current).lmp = s.lmp ∧
    (s.overRunCount current).sup = s.sup ∧ (s.overRunCount current).cfg = s.cfg ∧
    (s.overRunCount current).eeprom = s.eeprom ∧ (s.overRunCount current).flash = s.flash :=
  by
  simp [State.overRunCount]

@[simp] theorem coolCount_frame (s : State) :
    (s.coolCount).pending = s.pending ∧ (s.coolCount).power = s.power ∧ (s.coolCount).rxc = s.rxc ∧
    (s.coolCount).rpt = s.rpt ∧ (s.coolCount).ptb = s.ptb ∧ (s.coolCount).tkm = s.tkm ∧ (s.coolCount).aut = s.aut ∧
    (s.coolCount).csu = s.csu ∧ (s.coolCount).spr = s.spr ∧ (s.coolCount).fnm = s.fnm ∧ (s.coolCount).chg = s.chg ∧
    (s.coolCount).snd = s.snd ∧ (s.coolCount).smk = s.smk ∧ (s.coolCount).lmp = s.lmp ∧ (s.coolCount).sup = s.sup ∧
    (s.coolCount).cfg = s.cfg ∧ (s.coolCount).eeprom = s.eeprom ∧ (s.coolCount).flash = s.flash :=
  by
  unfold State.coolCount; split <;> simp

@[simp] theorem phaseEnd_frame (current : Nat) (s : State) :
    (s.phaseEnd current).pending = s.pending ∧ (s.phaseEnd current).power = s.power ∧ (s.phaseEnd current).rxc = s.rxc ∧
    (s.phaseEnd current).ptb = s.ptb ∧ (s.phaseEnd current).tkm = s.tkm ∧ (s.phaseEnd current).csu = s.csu ∧
    (s.phaseEnd current).spr = s.spr ∧ (s.phaseEnd current).fnm = s.fnm ∧ (s.phaseEnd current).chg = s.chg ∧
    (s.phaseEnd current).snd = s.snd ∧ (s.phaseEnd current).lmp = s.lmp ∧ (s.phaseEnd current).sup = s.sup ∧
    (s.phaseEnd current).eeprom = s.eeprom ∧ (s.phaseEnd current).flash = s.flash :=
  by
  unfold State.phaseEnd; split <;> simp

@[simp] theorem measure_frame (raw : Nat) (s : State) :
    (s.measure raw).pending = s.pending ∧ (s.measure raw).power = s.power ∧ (s.measure raw).rxc = s.rxc ∧
    (s.measure raw).rpt = s.rpt ∧ (s.measure raw).ptb = s.ptb ∧ (s.measure raw).tkm = s.tkm ∧ (s.measure raw).aut = s.aut ∧
    (s.measure raw).csu = s.csu ∧ (s.measure raw).spr = s.spr ∧ (s.measure raw).fnm = s.fnm ∧ (s.measure raw).chg = s.chg ∧
    (s.measure raw).snd = s.snd ∧ (s.measure raw).smk = s.smk ∧ (s.measure raw).lmp = s.lmp ∧ (s.measure raw).sup = s.sup ∧
    (s.measure raw).cfg = s.cfg ∧ (s.measure raw).eeprom = s.eeprom ∧ (s.measure raw).flash = s.flash :=
  by
  simp [State.measure]

@[simp] theorem bemf_frame (raw : Nat) (s : State) :
    (s.bemf raw).pending = s.pending ∧ (s.bemf raw).power = s.power ∧ (s.bemf raw).ptb = s.ptb ∧ (s.bemf raw).fnm = s.fnm ∧
    (s.bemf raw).sup = s.sup ∧ (s.bemf raw).cfg = s.cfg ∧ (s.bemf raw).eeprom = s.eeprom ∧ (s.bemf raw).flash = s.flash :=
  by
  simp [State.bemf]

@[simp] theorem tripClear_frame (s : State) :
    (s.tripClear).pending = s.pending ∧ (s.tripClear).power = s.power ∧ (s.tripClear).rxc = s.rxc ∧
    (s.tripClear).rpt = s.rpt ∧ (s.tripClear).ptb = s.ptb ∧ (s.tripClear).tkm = s.tkm ∧ (s.tripClear).aut = s.aut ∧
    (s.tripClear).csu = s.csu ∧ (s.tripClear).spr = s.spr ∧ (s.tripClear).fnm = s.fnm ∧ (s.tripClear).chg = s.chg ∧
    (s.tripClear).snd = s.snd ∧ (s.tripClear).smk = s.smk ∧ (s.tripClear).lmp = s.lmp ∧ (s.tripClear).sup = s.sup ∧
    (s.tripClear).cfg = s.cfg ∧ (s.tripClear).eeprom = s.eeprom ∧ (s.tripClear).flash = s.flash :=
  by
  simp [State.tripClear]

end Sys2Proof.Machine
end

