-- ==== Sys2Proof/Laws/Commands.lean ====
section
/-! SUPPORT. What the frame of an event, a frame's arrival and the shared operations of the claim list, the links, the peer table and the
trigger queue can do: each said once. -/

namespace Sys2Proof.Machine

/-! ### The frame of an event -/

theorem whenRunning_of_running {s t : State} (h : s.power = .running) : whenRunning s t = .next t := by
  simp [whenRunning, h]

theorem whenRunning_of_not_running {s t : State} (h : s.power ≠ .running) : whenRunning s t = .next s := by
  unfold whenRunning
  split
  · exact absurd ‹_› h
  · rfl
  · rfl

theorem close_of_running {s s0 : State} (h : s.power = .running) : s.close s0 = s.settle s0 := by
  simp [State.close, h]

theorem close_of_not_running {s s0 : State} (h : s.power ≠ .running) : s.close s0 = s := by
  unfold State.close
  split
  · exact absurd ‹_› h
  · rfl
  · rfl

theorem whenRunningClose_cases (s t : State) :
    whenRunningClose s t = .next (t.close s) ∧ s.power = .running ∨ whenRunningClose s t = .next s ∧ s.power ≠ .running := by
  by_cases h : s.power = .running
  · exact .inl ⟨whenRunning_of_running h, h⟩
  · exact .inr ⟨whenRunning_of_not_running h, h⟩

/-! ### A frame's arrival -/

/-- The state that a dispatch starts from: collection over, the frame counted (R9). -/
def State.accepted (kind : Nat) (s : State) : State :=
  (s.onRxc fun r => { r with collecting := none }).acceptFrame kind

theorem dropReason_of_arrives {kind : Nat} {s : State} {h : Collected} {payload : List Byte} {crc : BitVec 16}
    (ha : arrives kind s h payload crc) (h1 : 1 ≤ kind) (h5 : kind ≤ 5) :
    dropReason s.image.identity.layout h.bytes payload crc = none := by
  obtain ⟨_, _, _, hk, _, hl, hw, hc⟩ := ha
  simp [dropReason, hl, hk, hc, show ¬kind < 1 by omega, show ¬5 < kind by omega, Nat.not_lt.2 hw]

theorem completed_of_arrives {kind : Nat} {s : State} {h : Collected} {payload : List Byte} {crc : BitVec 16} {kinds : Nat → Bool}
    (ha : arrives kind s h payload crc) (hk : kinds kind = true) : s.completed kinds payload = some h := by
  obtain ⟨hp, hs, hc, hkind, hlen, _⟩ := ha
  simp [State.completed, State.receiverOn, hp, hs, hc, hkind, hk, hlen]

/-- An arriving frame has its dispatch as its effect, and the event ends at AUT. -/
theorem takeFrame_of_arrives {kind : Nat} {s : State} {h : Collected} {payload : List Byte} {crc : BitVec 16} {kinds : Nat → Bool}
    {dispatch : FrameInfo → State → State} (ha : arrives kind s h payload crc) (h1 : 1 ≤ kind) (h5 : kind ≤ 5)
    (hk : kinds kind = true) :
    s.takeFrame kinds payload crc dispatch = (dispatch (frameInfo h) (s.accepted kind)).close s := by
  have hd := dropReason_of_arrives ha h1 h5
  have hc := completed_of_arrives ha hk
  obtain ⟨hp, _, _, hkind, _⟩ := ha
  simp only [State.takeFrame, hc, hp, State.judgeFrame, State.onRxc, State.accepted]
  simp only [State.image] at hd ⊢
  simp only [hd, hkind]

theorem exec_throttleFrame {s : State} {h : Collected} {payload : List Byte} {crc : BitVec 16} (ha : arrives 1 s h payload crc) :
    exec (.throttleFrame payload crc) s = .next ((State.dispatchThrottle payload (frameInfo h) (s.accepted 1)).close s) := by
  simp only [exec, execThrottleFrame, takeFrame_of_arrives ha (by omega) (by omega) (kinds := (· == 1)) rfl]

theorem exec_consistFrame {s : State} {h : Collected} {payload : List Byte} {crc : BitVec 16} (ha : arrives 2 s h payload crc) :
    exec (.consistFrame payload crc) s = .next ((State.dispatchConsist payload (frameInfo h) (s.accepted 2)).close s) := by
  simp only [exec, execConsistFrame, takeFrame_of_arrives ha (by omega) (by omega) (kinds := (· == 2)) rfl]

theorem exec_beaconFrame {s : State} {h : Collected} {payload : List Byte} {crc : BitVec 16} (ha : arrives 3 s h payload crc) :
    exec (.beaconFrame payload crc) s = .next ((State.dispatchBeacon payload (frameInfo h) (s.accepted 3)).close s) := by
  simp only [exec, execBeaconFrame, takeFrame_of_arrives ha (by omega) (by omega) (kinds := (· == 3)) rfl]

theorem exec_locoFrame {s : State} {h : Collected} {payload : List Byte} {crc : BitVec 16} (ha : arrives 4 s h payload crc) :
    exec (.locoFrame payload crc) s = .next ((State.dispatchLoco payload (frameInfo h) (s.accepted 4)).close s) := by
  simp only [exec, execLocoFrame, takeFrame_of_arrives ha (by omega) (by omega) (kinds := (· == 4)) rfl]

/-! ### The claim list -/

theorem release_cases (l : Level) (s : State) :
    s.release l = s ∨ s.release l = s.onAut fun a => clearLive l (autSetCtx a l {}) := by
  unfold State.release
  split
  · exact .inl rfl
  · exact .inr rfl

theorem addCause_cases (c : Cause) (s : State) :
    (causeIn c s.aut.causes = true ∧ s.addCause c = s) ∨
      (causeIn c s.aut.causes = false ∧
        s.addCause c =
          (if s.aut.failsafe.claimed then s else s.claim .failsafe none).onAut fun a =>
            { a with causes := causePut c true a.causes, hold := none }) := by
  unfold State.addCause
  split
  · exact .inl ⟨by assumption, rfl⟩
  · exact .inr ⟨by simp_all, rfl⟩

theorem causeIn_causePut (c : Cause) (v : Bool) (k : CauseSet) : causeIn c (causePut c v k) = v := by
  cases c <;> rfl

theorem causeIn_causePut_other {c d : Cause} (h : d ≠ c) (v : Bool) (k : CauseSet) :
    causeIn d (causePut c v k) = causeIn d k := by
  cases c <;> cases d <;> first | rfl | exact absurd rfl h

theorem causesEmpty_iff (k : CauseSet) : causesEmpty k = true ↔ ∀ c : Cause, causeIn c k = false := by
  constructor
  · intro h c
    simp only [causesEmpty, Bool.not_eq_true', Bool.or_eq_false_iff] at h
    cases c <;> simp_all [causeIn]
  · intro h
    simp only [causesEmpty, Bool.not_eq_true', Bool.or_eq_false_iff]
    exact ⟨⟨⟨⟨⟨h .linkLost, h .leadLost⟩, h .member⟩, h .supply⟩, h .motorFault⟩, h .stall⟩

/-! ### Lamps -/

/-- A recomputed lamp is lit as its rules say (R155). -/
@[simp] theorem relit_lit (lit : Bool) (e : LampEffect) (l : LampState) : (relit lit e l).lit = lit := by
  unfold relit
  split <;> simp_all

theorem relit_of_switch_on (e : LampEffect) (l : LampState) (h : l.lit = false) :
    relit true e l = { l with lit := true, switchedOn := true, strobe := 0, fade := if e = .fade then 0 else 16, fadeAge := 0 } := by
  simp [relit, h]

theorem relit_of_same (e : LampEffect) (l : LampState) : relit l.lit e l = l := by
  cases l with
  | mk lit => cases lit <;> simp [relit]

/-! ### Timers -/

theorem lastMs_iff (c : Option Nat) : lastMs c = true ↔ ∃ n, c = some n ∧ n ≤ 1 := by
  cases c <;> simp [lastMs]

/-! ### Links -/

/-- A window expires exactly on a record with a source, not LOST, in the last ms of its age (R15, R17). -/
theorem linkExpires_iff (window : Nat) (k : LinkRecord) :
    linkExpires window k = true ↔ k.source ≠ none ∧ k.state ≠ .lost ∧ window ≤ k.age + 1 := by
  simp [linkExpires, Option.isSome_iff_ne_none, and_assoc]

theorem validFrame_cases (l : Link) (s : State) :
    ((linkRecord l s.rxc).state = .up ∧ s.validFrame l = s.setLink l (linkRecord l s.rxc).source .up) ∨
      ((linkRecord l s.rxc).state = .lost ∧ s.validFrame l = s.setLink l (linkRecord l s.rxc).source .regaining) ∨
      ((linkRecord l s.rxc).state = .regaining ∧
        s.validFrame l = (s.setLink l (linkRecord l s.rxc).source .up).removeCause (linkCause l)) := by
  unfold State.validFrame
  cases h : (linkRecord l s.rxc).state <;> simp

theorem linkRecord_setLink (l : Link) (src : Option Nat) (st : LinkState) (s : State) :
    linkRecord l (s.setLink l src st).rxc = { source := src, state := st, age := 0 } := by
  cases l <;> rfl

/-! ### The peer table -/

/-- A station's entry is one of the table's. -/
theorem peerOf_mem {id : Nat} {es : List (Option Peer)} {p : Peer} (h : peerOf id es = some p) :
    some p ∈ es ∧ p.station = id := by
  induction es with
  | nil => simp [peerOf] at h
  | cons e es ih =>
    cases e with
    | none => exact ⟨List.mem_cons_of_mem _ (ih h).1, (ih h).2⟩
    | some q =>
      simp only [peerOf] at h
      split at h
      · cases h
        exact ⟨List.mem_cons_self, by assumption⟩
      · exact ⟨List.mem_cons_of_mem _ (ih h).1, (ih h).2⟩

theorem entryOf_isSome_iff {id : Nat} {es : List (Option Peer)} : (entryOf id es).isSome = (peerOf id es).isSome := by
  induction es with
  | nil => rfl
  | cons e es ih =>
    cases e with
    | none => simpa [entryOf, peerOf] using ih
    | some q => by_cases h : q.station = id <;> simp [entryOf, peerOf, h, ih]

/-! ### The trigger queue -/

/-- A request ends in one of five ways (R130). -/
theorem request_cases (t : Trigger) (s : State) :
    s.request t = (s.onSnd fun d => { d with queue := coalesceChuff t d.queue }).signal (.triggerDrop .chuff) ∨
      (s.snd.queue.length < 8 ∧ s.request t = (s.onSnd fun d => { d with queue := d.queue ++ [t] }).arbitrate) ∨
      (∃ i, s.request t =
        ((s.onSnd fun d => { d with queue := d.queue.eraseIdx i ++ [t] }).signal
          (.triggerDrop (ownerClass ((s.snd.queue.getD i t).owner)))).arbitrate) ∨
      s.request t = s.signal (.triggerDrop (ownerClass t.owner)) ∨ s.request t = s := by
  unfold State.request
  split
  · exact .inl rfl
  · split
    · exact .inr (.inl ⟨by assumption, rfl⟩)
    · split
      · split
        · exact .inr (.inr (.inl ⟨_, rfl⟩))
        · exact .inr (.inr (.inr (.inl rfl)))
      · exact .inr (.inr (.inr (.inr rfl)))

theorem coalesceChuff_length (t : Trigger) (q : List Trigger) : (coalesceChuff t q).length = q.length := by
  induction q with
  | nil => rfl
  | cons x xs ih =>
    simp only [coalesceChuff]
    split <;> simp [ih]

/-! ### Numbers -/

theorem clampNat_eq (x lo hi : Nat) (h : lo ≤ hi) : clampNat x lo hi = max lo (min x hi) := by
  unfold clampNat
  split
  · omega
  · split <;> omega

theorem clampInt_eq (x lo hi : Int) (h : lo ≤ hi) : clampInt x lo hi = max lo (min x hi) := by
  unfold clampInt
  split
  · omega
  · split <;> omega

/-- A level is used within 0..127 (R3). -/
theorem clampLevel_le (l : Int) : clampLevel l ≤ 127 := by
  rw [clampLevel, clampInt_eq _ _ _ (by decide)]
  omega

theorem satAdd_eq (x n cap : Nat) : satAdd x n cap = min (x + n) cap := by
  unfold satAdd
  split <;> omega

end Sys2Proof.Machine
end

