-- ==== Sys2Proof/Laws/EventFrames.lean ====
section
/-! SUPPORT. What the operations of TKM, DRIVER, RPT, SUP, CFG, RXC and PTB leave as it was: one lemma per operation, every untouched field in it. -/

namespace Sys2Proof.Machine

@[simp] theorem setRecord_frame (r : BeaconRecord) (s : State) :
    (s.setRecord r).pending = s.pending ∧ (s.setRecord r).power = s.power ∧ (s.setRecord r).rxc = s.rxc ∧
    (s.setRecord r).rpt = s.rpt ∧ (s.setRecord r).ptb = s.ptb ∧ (s.setRecord r).aut = s.aut ∧ (s.setRecord r).csu = s.csu ∧
    (s.setRecord r).spr = s.spr ∧ (s.setRecord r).mrg = s.mrg ∧ (s.setRecord r).fnm = s.fnm ∧ (s.setRecord r).chg = s.chg ∧
    (s.setRecord r).snd = s.snd ∧ (s.setRecord r).smk = s.smk ∧ (s.setRecord r).lmp = s.lmp ∧ (s.setRecord r).sup = s.sup ∧
    (s.setRecord r).cfg = s.cfg ∧ (s.setRecord r).eeprom = s.eeprom ∧ (s.setRecord r).flash = s.flash :=
  by
  simp [State.setRecord]

@[simp] theorem zoneRequest_frame (hold : Bool) (group : Nat) (index : Nat) (s : State) :
    (s.zoneRequest hold group index).pending = s.pending ∧ (s.zoneRequest hold group index).power = s.power ∧
    (s.zoneRequest hold group index).rxc = s.rxc ∧ (s.zoneRequest hold group index).ptb = s.ptb ∧
    (s.zoneRequest hold group index).tkm = s.tkm ∧ (s.zoneRequest hold group index).aut = s.aut ∧
    (s.zoneRequest hold group index).csu = s.csu ∧ (s.zoneRequest hold group index).spr = s.spr ∧
    (s.zoneRequest hold group index).mrg = s.mrg ∧ (s.zoneRequest hold group index).fnm = s.fnm ∧
    (s.zoneRequest hold group index).chg = s.chg ∧ (s.zoneRequest hold group index).smk = s.smk ∧
    (s.zoneRequest hold group index).lmp = s.lmp ∧ (s.zoneRequest hold group index).sup = s.sup ∧
    (s.zoneRequest hold group index).cfg = s.cfg ∧ (s.zoneRequest hold group index).eeprom = s.eeprom ∧
    (s.zoneRequest hold group index).flash = s.flash :=
  by
  simp [State.zoneRequest]

@[simp] theorem setZone_frame (passing : Bool) (f : ZoneFlags) (s : State) :
    (s.setZone passing f).pending = s.pending ∧ (s.setZone passing f).power = s.power ∧ (s.setZone passing f).rxc = s.rxc ∧
    (s.setZone passing f).ptb = s.ptb ∧ (s.setZone passing f).aut = s.aut ∧ (s.setZone passing f).csu = s.csu ∧
    (s.setZone passing f).spr = s.spr ∧ (s.setZone passing f).mrg = s.mrg ∧ (s.setZone passing f).fnm = s.fnm ∧
    (s.setZone passing f).chg = s.chg ∧ (s.setZone passing f).lmp = s.lmp ∧ (s.setZone passing f).sup = s.sup ∧
    (s.setZone passing f).cfg = s.cfg ∧ (s.setZone passing f).eeprom = s.eeprom ∧ (s.setZone passing f).flash = s.flash :=
  by
  unfold State.setZone; (repeat' split) <;> simp

@[simp] theorem passingNotice_frame (h0 : Level) (r : BeaconRecord) (s : State) :
    (s.passingNotice h0 r).pending = s.pending ∧ (s.passingNotice h0 r).power = s.power ∧
    (s.passingNotice h0 r).rxc = s.rxc ∧ (s.passingNotice h0 r).ptb = s.ptb ∧ (s.passingNotice h0 r).tkm = s.tkm ∧
    (s.passingNotice h0 r).csu = s.csu ∧ (s.passingNotice h0 r).spr = s.spr ∧ (s.passingNotice h0 r).mrg = s.mrg ∧
    (s.passingNotice h0 r).fnm = s.fnm ∧ (s.passingNotice h0 r).chg = s.chg ∧ (s.passingNotice h0 r).snd = s.snd ∧
    (s.passingNotice h0 r).smk = s.smk ∧ (s.passingNotice h0 r).lmp = s.lmp ∧ (s.passingNotice h0 r).sup = s.sup ∧
    (s.passingNotice h0 r).cfg = s.cfg ∧ (s.passingNotice h0 r).eeprom = s.eeprom ∧
    (s.passingNotice h0 r).flash = s.flash :=
  by
  unfold State.passingNotice; (repeat' split) <;> simp

@[simp] theorem dwellRefresh_frame (h0 : Level) (r : BeaconRecord) (s : State) :
    (s.dwellRefresh h0 r).pending = s.pending ∧ (s.dwellRefresh h0 r).power = s.power ∧ (s.dwellRefresh h0 r).rxc = s.rxc ∧
    (s.dwellRefresh h0 r).rpt = s.rpt ∧ (s.dwellRefresh h0 r).ptb = s.ptb ∧ (s.dwellRefresh h0 r).tkm = s.tkm ∧
    (s.dwellRefresh h0 r).csu = s.csu ∧ (s.dwellRefresh h0 r).spr = s.spr ∧ (s.dwellRefresh h0 r).mrg = s.mrg ∧
    (s.dwellRefresh h0 r).fnm = s.fnm ∧ (s.dwellRefresh h0 r).chg = s.chg ∧ (s.dwellRefresh h0 r).snd = s.snd ∧
    (s.dwellRefresh h0 r).smk = s.smk ∧ (s.dwellRefresh h0 r).lmp = s.lmp ∧ (s.dwellRefresh h0 r).sup = s.sup ∧
    (s.dwellRefresh h0 r).cfg = s.cfg ∧ (s.dwellRefresh h0 r).eeprom = s.eeprom ∧ (s.dwellRefresh h0 r).flash = s.flash :=
  by
  unfold State.dwellRefresh; split <;> simp

@[simp] theorem passBeacon_frame (h0 : Level) (b : Nat) (d : BeaconData) (s : State) :
    (s.passBeacon h0 b d).pending = s.pending ∧ (s.passBeacon h0 b d).power = s.power ∧ (s.passBeacon h0 b d).rxc = s.rxc ∧
    (s.passBeacon h0 b d).ptb = s.ptb ∧ (s.passBeacon h0 b d).csu = s.csu ∧ (s.passBeacon h0 b d).spr = s.spr ∧
    (s.passBeacon h0 b d).mrg = s.mrg ∧ (s.passBeacon h0 b d).fnm = s.fnm ∧ (s.passBeacon h0 b d).chg = s.chg ∧
    (s.passBeacon h0 b d).lmp = s.lmp ∧ (s.passBeacon h0 b d).sup = s.sup ∧ (s.passBeacon h0 b d).cfg = s.cfg ∧
    (s.passBeacon h0 b d).eeprom = s.eeprom ∧ (s.passBeacon h0 b d).flash = s.flash :=
  by
  simp [State.passBeacon]

@[simp] theorem updateBeacon_frame (h0 : Level) (r : BeaconRecord) (d : BeaconData) (s : State) :
    (s.updateBeacon h0 r d).pending = s.pending ∧ (s.updateBeacon h0 r d).power = s.power ∧
    (s.updateBeacon h0 r d).rxc = s.rxc ∧ (s.updateBeacon h0 r d).ptb = s.ptb ∧ (s.updateBeacon h0 r d).csu = s.csu ∧
    (s.updateBeacon h0 r d).spr = s.spr ∧ (s.updateBeacon h0 r d).mrg = s.mrg ∧ (s.updateBeacon h0 r d).fnm = s.fnm ∧
    (s.updateBeacon h0 r d).chg = s.chg ∧ (s.updateBeacon h0 r d).lmp = s.lmp ∧ (s.updateBeacon h0 r d).sup = s.sup ∧
    (s.updateBeacon h0 r d).cfg = s.cfg ∧ (s.updateBeacon h0 r d).eeprom = s.eeprom ∧
    (s.updateBeacon h0 r d).flash = s.flash :=
  by
  simp [State.updateBeacon]

@[simp] theorem takeBeacon_frame (h0 : Level) (info : FrameInfo) (d : BeaconData) (s : State) :
    (s.takeBeacon h0 info d).pending = s.pending ∧ (s.takeBeacon h0 info d).power = s.power ∧
    (s.takeBeacon h0 info d).rxc = s.rxc ∧ (s.takeBeacon h0 info d).ptb = s.ptb ∧ (s.takeBeacon h0 info d).csu = s.csu ∧
    (s.takeBeacon h0 info d).spr = s.spr ∧ (s.takeBeacon h0 info d).mrg = s.mrg ∧ (s.takeBeacon h0 info d).fnm = s.fnm ∧
    (s.takeBeacon h0 info d).chg = s.chg ∧ (s.takeBeacon h0 info d).lmp = s.lmp ∧ (s.takeBeacon h0 info d).sup = s.sup ∧
    (s.takeBeacon h0 info d).cfg = s.cfg ∧ (s.takeBeacon h0 info d).eeprom = s.eeprom ∧
    (s.takeBeacon h0 info d).flash = s.flash :=
  by
  unfold State.takeBeacon; (repeat' split) <;> simp

@[simp] theorem emergency_frame (h0 : Level) (s : State) :
    (s.emergency h0).pending = s.pending ∧ (s.emergency h0).power = s.power ∧ (s.emergency h0).ptb = s.ptb ∧
    (s.emergency h0).fnm = s.fnm ∧ (s.emergency h0).chg = s.chg ∧ (s.emergency h0).lmp = s.lmp ∧
    (s.emergency h0).sup = s.sup ∧ (s.emergency h0).cfg = s.cfg ∧ (s.emergency h0).eeprom = s.eeprom ∧
    (s.emergency h0).flash = s.flash :=
  by
  unfold State.emergency; split <;> simp

@[simp] theorem setRssi_frame (n : Nat) (s : State) :
    (s.setRssi n).pending = s.pending ∧ (s.setRssi n).power = s.power ∧ (s.setRssi n).rpt = s.rpt ∧
    (s.setRssi n).ptb = s.ptb ∧ (s.setRssi n).tkm = s.tkm ∧ (s.setRssi n).aut = s.aut ∧ (s.setRssi n).csu = s.csu ∧
    (s.setRssi n).spr = s.spr ∧ (s.setRssi n).mrg = s.mrg ∧ (s.setRssi n).fnm = s.fnm ∧ (s.setRssi n).chg = s.chg ∧
    (s.setRssi n).snd = s.snd ∧ (s.setRssi n).smk = s.smk ∧ (s.setRssi n).lmp = s.lmp ∧ (s.setRssi n).sup = s.sup ∧
    (s.setRssi n).cfg = s.cfg ∧ (s.setRssi n).eeprom = s.eeprom ∧ (s.setRssi n).flash = s.flash :=
  by
  simp [State.setRssi]

@[simp] theorem bindDriver_frame (h0 : Level) (info : FrameInfo) (d : ThrottleData) (s : State) :
    (s.bindDriver h0 info d).pending = s.pending ∧ (s.bindDriver h0 info d).power = s.power ∧
    (s.bindDriver h0 info d).ptb = s.ptb ∧ (s.bindDriver h0 info d).fnm = s.fnm ∧ (s.bindDriver h0 info d).chg = s.chg ∧
    (s.bindDriver h0 info d).lmp = s.lmp ∧ (s.bindDriver h0 info d).sup = s.sup ∧ (s.bindDriver h0 info d).cfg = s.cfg ∧
    (s.bindDriver h0 info d).eeprom = s.eeprom ∧ (s.bindDriver h0 info d).flash = s.flash :=
  by
  unfold State.bindDriver; split <;> simp

@[simp] theorem rebindDriver_frame (h0 : Level) (info : FrameInfo) (d : ThrottleData) (s : State) :
    (s.rebindDriver h0 info d).pending = s.pending ∧ (s.rebindDriver h0 info d).power = s.power ∧
    (s.rebindDriver h0 info d).ptb = s.ptb ∧ (s.rebindDriver h0 info d).fnm = s.fnm ∧
    (s.rebindDriver h0 info d).chg = s.chg ∧ (s.rebindDriver h0 info d).lmp = s.lmp ∧
    (s.rebindDriver h0 info d).sup = s.sup ∧ (s.rebindDriver h0 info d).cfg = s.cfg ∧
    (s.rebindDriver h0 info d).eeprom = s.eeprom ∧ (s.rebindDriver h0 info d).flash = s.flash :=
  by
  unfold State.rebindDriver; split <;> simp

@[simp] theorem releaseDriver_frame (h0 : Level) (d : ThrottleData) (s : State) :
    (s.releaseDriver h0 d).pending = s.pending ∧ (s.releaseDriver h0 d).power = s.power ∧
    (s.releaseDriver h0 d).ptb = s.ptb ∧ (s.releaseDriver h0 d).fnm = s.fnm ∧ (s.releaseDriver h0 d).chg = s.chg ∧
    (s.releaseDriver h0 d).lmp = s.lmp ∧ (s.releaseDriver h0 d).sup = s.sup ∧ (s.releaseDriver h0 d).cfg = s.cfg ∧
    (s.releaseDriver h0 d).eeprom = s.eeprom ∧ (s.releaseDriver h0 d).flash = s.flash :=
  by
  unfold State.releaseDriver; split <;> simp

@[simp] theorem boundFrame_frame (h0 : Level) (d : ThrottleData) (s : State) :
    (s.boundFrame h0 d).pending = s.pending ∧ (s.boundFrame h0 d).power = s.power ∧ (s.boundFrame h0 d).ptb = s.ptb ∧
    (s.boundFrame h0 d).fnm = s.fnm ∧ (s.boundFrame h0 d).chg = s.chg ∧ (s.boundFrame h0 d).lmp = s.lmp ∧
    (s.boundFrame h0 d).sup = s.sup ∧ (s.boundFrame h0 d).cfg = s.cfg ∧ (s.boundFrame h0 d).eeprom = s.eeprom ∧
    (s.boundFrame h0 d).flash = s.flash :=
  by
  unfold State.boundFrame; (repeat' split) <;> simp

@[simp] theorem driverFrame_frame (h0 : Level) (info : FrameInfo) (d : ThrottleData) (s : State) :
    (s.driverFrame h0 info d).pending = s.pending ∧ (s.driverFrame h0 info d).power = s.power ∧
    (s.driverFrame h0 info d).ptb = s.ptb ∧ (s.driverFrame h0 info d).fnm = s.fnm ∧ (s.driverFrame h0 info d).chg = s.chg ∧
    (s.driverFrame h0 info d).lmp = s.lmp ∧ (s.driverFrame h0 info d).sup = s.sup ∧ (s.driverFrame h0 info d).cfg = s.cfg ∧
    (s.driverFrame h0 info d).eeprom = s.eeprom ∧ (s.driverFrame h0 info d).flash = s.flash :=
  by
  unfold State.driverFrame; (repeat' split) <;> simp

@[simp] theorem consistFunctions_frame (f : FuncSet) (s : State) :
    (s.consistFunctions f).pending = s.pending ∧ (s.consistFunctions f).power = s.power ∧
    (s.consistFunctions f).rxc = s.rxc ∧ (s.consistFunctions f).rpt = s.rpt ∧ (s.consistFunctions f).ptb = s.ptb ∧
    (s.consistFunctions f).tkm = s.tkm ∧ (s.consistFunctions f).csu = s.csu ∧ (s.consistFunctions f).spr = s.spr ∧
    (s.consistFunctions f).mrg = s.mrg ∧ (s.consistFunctions f).fnm = s.fnm ∧ (s.consistFunctions f).chg = s.chg ∧
    (s.consistFunctions f).snd = s.snd ∧ (s.consistFunctions f).smk = s.smk ∧ (s.consistFunctions f).lmp = s.lmp ∧
    (s.consistFunctions f).sup = s.sup ∧ (s.consistFunctions f).cfg = s.cfg ∧ (s.consistFunctions f).eeprom = s.eeprom ∧
    (s.consistFunctions f).flash = s.flash :=
  by
  simp [State.consistFunctions]

@[simp] theorem driverHeard_frame (info : FrameInfo) (s : State) :
    (s.driverHeard info).pending = s.pending ∧ (s.driverHeard info).power = s.power ∧ (s.driverHeard info).rpt = s.rpt ∧
    (s.driverHeard info).ptb = s.ptb ∧ (s.driverHeard info).tkm = s.tkm ∧ (s.driverHeard info).csu = s.csu ∧
    (s.driverHeard info).spr = s.spr ∧ (s.driverHeard info).mrg = s.mrg ∧ (s.driverHeard info).fnm = s.fnm ∧
    (s.driverHeard info).chg = s.chg ∧ (s.driverHeard info).snd = s.snd ∧ (s.driverHeard info).smk = s.smk ∧
    (s.driverHeard info).lmp = s.lmp ∧ (s.driverHeard info).sup = s.sup ∧ (s.driverHeard info).cfg = s.cfg ∧
    (s.driverHeard info).eeprom = s.eeprom ∧ (s.driverHeard info).flash = s.flash :=
  by
  unfold State.driverHeard; split <;> simp

@[simp] theorem takeThrottle_frame (h0 : Level) (info : FrameInfo) (d : ThrottleData) (s : State) :
    (s.takeThrottle h0 info d).pending = s.pending ∧ (s.takeThrottle h0 info d).power = s.power ∧
    (s.takeThrottle h0 info d).ptb = s.ptb ∧ (s.takeThrottle h0 info d).fnm = s.fnm ∧
    (s.takeThrottle h0 info d).chg = s.chg ∧ (s.takeThrottle h0 info d).lmp = s.lmp ∧
    (s.takeThrottle h0 info d).sup = s.sup ∧ (s.takeThrottle h0 info d).cfg = s.cfg ∧
    (s.takeThrottle h0 info d).eeprom = s.eeprom ∧ (s.takeThrottle h0 info d).flash = s.flash :=
  by
  unfold State.takeThrottle; split <;> simp

@[simp] theorem takeSeed_frame (level : Int) (s : State) :
    (s.takeSeed level).pending = s.pending ∧ (s.takeSeed level).power = s.power ∧ (s.takeSeed level).ptb = s.ptb ∧
    (s.takeSeed level).tkm = s.tkm ∧ (s.takeSeed level).aut = s.aut ∧ (s.takeSeed level).csu = s.csu ∧
    (s.takeSeed level).spr = s.spr ∧ (s.takeSeed level).mrg = s.mrg ∧ (s.takeSeed level).fnm = s.fnm ∧
    (s.takeSeed level).chg = s.chg ∧ (s.takeSeed level).snd = s.snd ∧ (s.takeSeed level).smk = s.smk ∧
    (s.takeSeed level).lmp = s.lmp ∧ (s.takeSeed level).sup = s.sup ∧ (s.takeSeed level).cfg = s.cfg ∧
    (s.takeSeed level).eeprom = s.eeprom ∧ (s.takeSeed level).flash = s.flash :=
  by
  simp [State.takeSeed]

@[simp] theorem holdoffDone_frame (s : State) :
    (s.holdoffDone).pending = s.pending ∧ (s.holdoffDone).power = s.power ∧ (s.holdoffDone).rxc = s.rxc ∧
    (s.holdoffDone).ptb = s.ptb ∧ (s.holdoffDone).tkm = s.tkm ∧ (s.holdoffDone).aut = s.aut ∧ (s.holdoffDone).csu = s.csu ∧
    (s.holdoffDone).spr = s.spr ∧ (s.holdoffDone).mrg = s.mrg ∧ (s.holdoffDone).fnm = s.fnm ∧ (s.holdoffDone).chg = s.chg ∧
    (s.holdoffDone).snd = s.snd ∧ (s.holdoffDone).smk = s.smk ∧ (s.holdoffDone).lmp = s.lmp ∧ (s.holdoffDone).sup = s.sup ∧
    (s.holdoffDone).cfg = s.cfg ∧ (s.holdoffDone).eeprom = s.eeprom ∧ (s.holdoffDone).flash = s.flash :=
  by
  simp [State.holdoffDone]

@[simp] theorem beginCheck_frame (s : State) :
    (s.beginCheck).pending = s.pending ∧ (s.beginCheck).power = s.power ∧ (s.beginCheck).rxc = s.rxc ∧
    (s.beginCheck).ptb = s.ptb ∧ (s.beginCheck).tkm = s.tkm ∧ (s.beginCheck).aut = s.aut ∧ (s.beginCheck).csu = s.csu ∧
    (s.beginCheck).spr = s.spr ∧ (s.beginCheck).mrg = s.mrg ∧ (s.beginCheck).fnm = s.fnm ∧ (s.beginCheck).chg = s.chg ∧
    (s.beginCheck).snd = s.snd ∧ (s.beginCheck).smk = s.smk ∧ (s.beginCheck).lmp = s.lmp ∧ (s.beginCheck).sup = s.sup ∧
    (s.beginCheck).cfg = s.cfg ∧ (s.beginCheck).eeprom = s.eeprom ∧ (s.beginCheck).flash = s.flash :=
  by
  simp [State.beginCheck]

@[simp] theorem backOff_frame (s : State) :
    (s.backOff).pending = s.pending ∧ (s.backOff).power = s.power ∧ (s.backOff).rxc = s.rxc ∧ (s.backOff).ptb = s.ptb ∧
    (s.backOff).tkm = s.tkm ∧ (s.backOff).aut = s.aut ∧ (s.backOff).csu = s.csu ∧ (s.backOff).spr = s.spr ∧
    (s.backOff).mrg = s.mrg ∧ (s.backOff).fnm = s.fnm ∧ (s.backOff).chg = s.chg ∧ (s.backOff).snd = s.snd ∧
    (s.backOff).smk = s.smk ∧ (s.backOff).lmp = s.lmp ∧ (s.backOff).sup = s.sup ∧ (s.backOff).cfg = s.cfg ∧
    (s.backOff).eeprom = s.eeprom ∧ (s.backOff).flash = s.flash :=
  by
  simp [State.backOff]

@[simp] theorem startReport_frame (s : State) :
    (s.startReport).pending = s.pending ∧ (s.startReport).power = s.power ∧ (s.startReport).ptb = s.ptb ∧
    (s.startReport).tkm = s.tkm ∧ (s.startReport).aut = s.aut ∧ (s.startReport).csu = s.csu ∧ (s.startReport).spr = s.spr ∧
    (s.startReport).mrg = s.mrg ∧ (s.startReport).fnm = s.fnm ∧ (s.startReport).chg = s.chg ∧ (s.startReport).snd = s.snd ∧
    (s.startReport).smk = s.smk ∧ (s.startReport).lmp = s.lmp ∧ (s.startReport).sup = s.sup ∧ (s.startReport).cfg = s.cfg ∧
    (s.startReport).eeprom = s.eeprom ∧ (s.startReport).flash = s.flash :=
  by
  simp [State.startReport]

@[simp] theorem finishCheck_frame (first : Int) (second : Int) (s : State) :
    (s.finishCheck first second).pending = s.pending ∧ (s.finishCheck first second).power = s.power ∧
    (s.finishCheck first second).ptb = s.ptb ∧ (s.finishCheck first second).tkm = s.tkm ∧
    (s.finishCheck first second).aut = s.aut ∧ (s.finishCheck first second).csu = s.csu ∧
    (s.finishCheck first second).spr = s.spr ∧ (s.finishCheck first second).mrg = s.mrg ∧
    (s.finishCheck first second).fnm = s.fnm ∧ (s.finishCheck first second).chg = s.chg ∧
    (s.finishCheck first second).snd = s.snd ∧ (s.finishCheck first second).smk = s.smk ∧
    (s.finishCheck first second).lmp = s.lmp ∧ (s.finishCheck first second).sup = s.sup ∧
    (s.finishCheck first second).cfg = s.cfg ∧ (s.finishCheck first second).eeprom = s.eeprom ∧
    (s.finishCheck first second).flash = s.flash :=
  by
  unfold State.finishCheck; split <;> simp

@[simp] theorem sendDone_frame (s : State) :
    (s.sendDone).pending = s.pending ∧ (s.sendDone).power = s.power ∧ (s.sendDone).ptb = s.ptb ∧
    (s.sendDone).tkm = s.tkm ∧ (s.sendDone).aut = s.aut ∧ (s.sendDone).csu = s.csu ∧ (s.sendDone).spr = s.spr ∧
    (s.sendDone).mrg = s.mrg ∧ (s.sendDone).fnm = s.fnm ∧ (s.sendDone).chg = s.chg ∧ (s.sendDone).snd = s.snd ∧
    (s.sendDone).smk = s.smk ∧ (s.sendDone).lmp = s.lmp ∧ (s.sendDone).sup = s.sup ∧ (s.sendDone).cfg = s.cfg ∧
    (s.sendDone).eeprom = s.eeprom ∧ (s.sendDone).flash = s.flash :=
  by
  simp [State.sendDone]

@[simp] theorem accrue_frame (s : State) :
    (s.accrue).pending = s.pending ∧ (s.accrue).power = s.power ∧ (s.accrue).rxc = s.rxc ∧ (s.accrue).ptb = s.ptb ∧
    (s.accrue).tkm = s.tkm ∧ (s.accrue).aut = s.aut ∧ (s.accrue).csu = s.csu ∧ (s.accrue).spr = s.spr ∧
    (s.accrue).mrg = s.mrg ∧ (s.accrue).fnm = s.fnm ∧ (s.accrue).chg = s.chg ∧ (s.accrue).snd = s.snd ∧
    (s.accrue).smk = s.smk ∧ (s.accrue).lmp = s.lmp ∧ (s.accrue).sup = s.sup ∧ (s.accrue).cfg = s.cfg ∧
    (s.accrue).eeprom = s.eeprom ∧ (s.accrue).flash = s.flash :=
  by
  simp [State.accrue]

@[simp] theorem sampleOccupancy_frame (base : SampleBase) (s : State) :
    (s.sampleOccupancy base).pending = s.pending ∧ (s.sampleOccupancy base).power = s.power ∧
    (s.sampleOccupancy base).rxc = s.rxc ∧ (s.sampleOccupancy base).ptb = s.ptb ∧ (s.sampleOccupancy base).tkm = s.tkm ∧
    (s.sampleOccupancy base).aut = s.aut ∧ (s.sampleOccupancy base).csu = s.csu ∧ (s.sampleOccupancy base).spr = s.spr ∧
    (s.sampleOccupancy base).mrg = s.mrg ∧ (s.sampleOccupancy base).fnm = s.fnm ∧ (s.sampleOccupancy base).chg = s.chg ∧
    (s.sampleOccupancy base).snd = s.snd ∧ (s.sampleOccupancy base).smk = s.smk ∧ (s.sampleOccupancy base).lmp = s.lmp ∧
    (s.sampleOccupancy base).sup = s.sup ∧ (s.sampleOccupancy base).cfg = s.cfg ∧
    (s.sampleOccupancy base).eeprom = s.eeprom ∧ (s.sampleOccupancy base).flash = s.flash :=
  by
  simp [State.sampleOccupancy]

@[simp] theorem clockDue_frame (s : State) :
    (s.clockDue).pending = s.pending ∧ (s.clockDue).power = s.power ∧ (s.clockDue).rxc = s.rxc ∧ (s.clockDue).ptb = s.ptb ∧
    (s.clockDue).tkm = s.tkm ∧ (s.clockDue).aut = s.aut ∧ (s.clockDue).csu = s.csu ∧ (s.clockDue).spr = s.spr ∧
    (s.clockDue).mrg = s.mrg ∧ (s.clockDue).fnm = s.fnm ∧ (s.clockDue).chg = s.chg ∧ (s.clockDue).snd = s.snd ∧
    (s.clockDue).smk = s.smk ∧ (s.clockDue).lmp = s.lmp ∧ (s.clockDue).sup = s.sup ∧ (s.clockDue).cfg = s.cfg ∧
    (s.clockDue).eeprom = s.eeprom ∧ (s.clockDue).flash = s.flash :=
  by
  unfold State.clockDue; split <;> simp

@[simp] theorem enterBridging_frame (s : State) :
    (s.enterBridging).pending = s.pending ∧ (s.enterBridging).power = s.power ∧ (s.enterBridging).rxc = s.rxc ∧
    (s.enterBridging).rpt = s.rpt ∧ (s.enterBridging).ptb = s.ptb ∧ (s.enterBridging).tkm = s.tkm ∧
    (s.enterBridging).aut = s.aut ∧ (s.enterBridging).csu = s.csu ∧ (s.enterBridging).spr = s.spr ∧
    (s.enterBridging).mrg = s.mrg ∧ (s.enterBridging).fnm = s.fnm ∧ (s.enterBridging).chg = s.chg ∧
    (s.enterBridging).snd = s.snd ∧ (s.enterBridging).lmp = s.lmp ∧ (s.enterBridging).cfg = s.cfg ∧
    (s.enterBridging).eeprom = s.eeprom ∧ (s.enterBridging).flash = s.flash :=
  by
  simp [State.enterBridging]

@[simp] theorem enterDepleted_frame (h0 : Level) (s : State) :
    (s.enterDepleted h0).pending = s.pending ∧ (s.enterDepleted h0).power = s.power ∧ (s.enterDepleted h0).ptb = s.ptb ∧
    (s.enterDepleted h0).fnm = s.fnm ∧ (s.enterDepleted h0).chg = s.chg ∧ (s.enterDepleted h0).lmp = s.lmp ∧
    (s.enterDepleted h0).cfg = s.cfg ∧ (s.enterDepleted h0).eeprom = s.eeprom ∧ (s.enterDepleted h0).flash = s.flash :=
  by
  simp [State.enterDepleted]

@[simp] theorem enterNormal_frame (s : State) :
    (s.enterNormal).pending = s.pending ∧ (s.enterNormal).power = s.power ∧ (s.enterNormal).rxc = s.rxc ∧
    (s.enterNormal).rpt = s.rpt ∧ (s.enterNormal).ptb = s.ptb ∧ (s.enterNormal).tkm = s.tkm ∧ (s.enterNormal).aut = s.aut ∧
    (s.enterNormal).csu = s.csu ∧ (s.enterNormal).spr = s.spr ∧ (s.enterNormal).mrg = s.mrg ∧ (s.enterNormal).fnm = s.fnm ∧
    (s.enterNormal).chg = s.chg ∧ (s.enterNormal).snd = s.snd ∧ (s.enterNormal).lmp = s.lmp ∧ (s.enterNormal).cfg = s.cfg ∧
    (s.enterNormal).eeprom = s.eeprom ∧ (s.enterNormal).flash = s.flash :=
  by
  simp [State.enterNormal]

@[simp] theorem supplyMoved_frame (h0 : Level) (m : SupplyMove) (s : State) :
    (s.supplyMoved h0 m).pending = s.pending ∧ (s.supplyMoved h0 m).power = s.power ∧ (s.supplyMoved h0 m).ptb = s.ptb ∧
    (s.supplyMoved h0 m).fnm = s.fnm ∧ (s.supplyMoved h0 m).chg = s.chg ∧ (s.supplyMoved h0 m).lmp = s.lmp ∧
    (s.supplyMoved h0 m).cfg = s.cfg ∧ (s.supplyMoved h0 m).eeprom = s.eeprom ∧ (s.supplyMoved h0 m).flash = s.flash :=
  by
  unfold State.supplyMoved; split <;> simp

@[simp] theorem bridgingDone_frame (s : State) :
    (s.bridgingDone).pending = s.pending ∧ (s.bridgingDone).power = s.power ∧ (s.bridgingDone).rxc = s.rxc ∧
    (s.bridgingDone).ptb = s.ptb ∧ (s.bridgingDone).tkm = s.tkm ∧ (s.bridgingDone).csu = s.csu ∧
    (s.bridgingDone).spr = s.spr ∧ (s.bridgingDone).mrg = s.mrg ∧ (s.bridgingDone).fnm = s.fnm ∧
    (s.bridgingDone).chg = s.chg ∧ (s.bridgingDone).snd = s.snd ∧ (s.bridgingDone).smk = s.smk ∧
    (s.bridgingDone).lmp = s.lmp ∧ (s.bridgingDone).cfg = s.cfg ∧ (s.bridgingDone).eeprom = s.eeprom ∧
    (s.bridgingDone).flash = s.flash :=
  by
  simp [State.bridgingDone]

@[simp] theorem normalHoldDone_frame (s : State) :
    (s.normalHoldDone).pending = s.pending ∧ (s.normalHoldDone).power = s.power ∧ (s.normalHoldDone).rxc = s.rxc ∧
    (s.normalHoldDone).rpt = s.rpt ∧ (s.normalHoldDone).ptb = s.ptb ∧ (s.normalHoldDone).tkm = s.tkm ∧
    (s.normalHoldDone).csu = s.csu ∧ (s.normalHoldDone).spr = s.spr ∧ (s.normalHoldDone).mrg = s.mrg ∧
    (s.normalHoldDone).fnm = s.fnm ∧ (s.normalHoldDone).chg = s.chg ∧ (s.normalHoldDone).snd = s.snd ∧
    (s.normalHoldDone).smk = s.smk ∧ (s.normalHoldDone).lmp = s.lmp ∧ (s.normalHoldDone).cfg = s.cfg ∧
    (s.normalHoldDone).eeprom = s.eeprom ∧ (s.normalHoldDone).flash = s.flash :=
  by
  simp [State.normalHoldDone]

@[simp] theorem beginWrite_frame (d : ServiceData) (s : State) :
    (s.beginWrite d).pending = s.pending ∧ (s.beginWrite d).power = s.power ∧ (s.beginWrite d).rxc = s.rxc ∧
    (s.beginWrite d).rpt = s.rpt ∧ (s.beginWrite d).ptb = s.ptb ∧ (s.beginWrite d).tkm = s.tkm ∧
    (s.beginWrite d).aut = s.aut ∧ (s.beginWrite d).csu = s.csu ∧ (s.beginWrite d).spr = s.spr ∧
    (s.beginWrite d).mrg = s.mrg ∧ (s.beginWrite d).fnm = s.fnm ∧ (s.beginWrite d).chg = s.chg ∧
    (s.beginWrite d).snd = s.snd ∧ (s.beginWrite d).smk = s.smk ∧ (s.beginWrite d).lmp = s.lmp ∧
    (s.beginWrite d).sup = s.sup ∧ (s.beginWrite d).eeprom = s.eeprom ∧ (s.beginWrite d).flash = s.flash :=
  by
  simp [State.beginWrite]

@[simp] theorem clearFaults_frame (s : State) :
    (s.clearFaults).pending = s.pending ∧ (s.clearFaults).power = s.power ∧ (s.clearFaults).rxc = s.rxc ∧
    (s.clearFaults).ptb = s.ptb ∧ (s.clearFaults).tkm = s.tkm ∧ (s.clearFaults).csu = s.csu ∧ (s.clearFaults).spr = s.spr ∧
    (s.clearFaults).fnm = s.fnm ∧ (s.clearFaults).chg = s.chg ∧ (s.clearFaults).snd = s.snd ∧ (s.clearFaults).smk = s.smk ∧
    (s.clearFaults).lmp = s.lmp ∧ (s.clearFaults).sup = s.sup ∧ (s.clearFaults).eeprom = s.eeprom ∧
    (s.clearFaults).flash = s.flash :=
  by
  unfold State.clearFaults; split <;> simp

@[simp] theorem busy_frame (op : Nat) (s : State) :
    (s.busy op).pending = s.pending ∧ (s.busy op).power = s.power ∧ (s.busy op).rxc = s.rxc ∧ (s.busy op).ptb = s.ptb ∧
    (s.busy op).tkm = s.tkm ∧ (s.busy op).aut = s.aut ∧ (s.busy op).csu = s.csu ∧ (s.busy op).spr = s.spr ∧
    (s.busy op).mrg = s.mrg ∧ (s.busy op).fnm = s.fnm ∧ (s.busy op).chg = s.chg ∧ (s.busy op).snd = s.snd ∧
    (s.busy op).smk = s.smk ∧ (s.busy op).lmp = s.lmp ∧ (s.busy op).sup = s.sup ∧ (s.busy op).eeprom = s.eeprom ∧
    (s.busy op).flash = s.flash :=
  by
  simp [State.busy]

@[simp] theorem dropFrame_frame (r : DropReason) (s : State) :
    (s.dropFrame r).pending = s.pending ∧ (s.dropFrame r).power = s.power ∧ (s.dropFrame r).ptb = s.ptb ∧
    (s.dropFrame r).tkm = s.tkm ∧ (s.dropFrame r).aut = s.aut ∧ (s.dropFrame r).csu = s.csu ∧ (s.dropFrame r).spr = s.spr ∧
    (s.dropFrame r).mrg = s.mrg ∧ (s.dropFrame r).fnm = s.fnm ∧ (s.dropFrame r).chg = s.chg ∧ (s.dropFrame r).snd = s.snd ∧
    (s.dropFrame r).smk = s.smk ∧ (s.dropFrame r).lmp = s.lmp ∧ (s.dropFrame r).sup = s.sup ∧ (s.dropFrame r).cfg = s.cfg ∧
    (s.dropFrame r).eeprom = s.eeprom ∧ (s.dropFrame r).flash = s.flash :=
  by
  simp [State.dropFrame]

@[simp] theorem acceptFrame_frame (kind : Nat) (s : State) :
    (s.acceptFrame kind).pending = s.pending ∧ (s.acceptFrame kind).power = s.power ∧ (s.acceptFrame kind).ptb = s.ptb ∧
    (s.acceptFrame kind).tkm = s.tkm ∧ (s.acceptFrame kind).aut = s.aut ∧ (s.acceptFrame kind).csu = s.csu ∧
    (s.acceptFrame kind).spr = s.spr ∧ (s.acceptFrame kind).mrg = s.mrg ∧ (s.acceptFrame kind).fnm = s.fnm ∧
    (s.acceptFrame kind).chg = s.chg ∧ (s.acceptFrame kind).snd = s.snd ∧ (s.acceptFrame kind).smk = s.smk ∧
    (s.acceptFrame kind).lmp = s.lmp ∧ (s.acceptFrame kind).sup = s.sup ∧ (s.acceptFrame kind).cfg = s.cfg ∧
    (s.acceptFrame kind).eeprom = s.eeprom ∧ (s.acceptFrame kind).flash = s.flash :=
  by
  simp [State.acceptFrame]

@[simp] theorem takeHeader_frame (bytes : HeaderBytes) (levels : Levels) (s : State) :
    (s.takeHeader bytes levels).pending = s.pending ∧ (s.takeHeader bytes levels).power = s.power ∧
    (s.takeHeader bytes levels).ptb = s.ptb ∧ (s.takeHeader bytes levels).tkm = s.tkm ∧
    (s.takeHeader bytes levels).aut = s.aut ∧ (s.takeHeader bytes levels).csu = s.csu ∧
    (s.takeHeader bytes levels).spr = s.spr ∧ (s.takeHeader bytes levels).mrg = s.mrg ∧
    (s.takeHeader bytes levels).fnm = s.fnm ∧ (s.takeHeader bytes levels).chg = s.chg ∧
    (s.takeHeader bytes levels).snd = s.snd ∧ (s.takeHeader bytes levels).smk = s.smk ∧
    (s.takeHeader bytes levels).lmp = s.lmp ∧ (s.takeHeader bytes levels).sup = s.sup ∧
    (s.takeHeader bytes levels).cfg = s.cfg ∧ (s.takeHeader bytes levels).eeprom = s.eeprom ∧
    (s.takeHeader bytes levels).flash = s.flash :=
  by
  unfold State.takeHeader; (repeat' split) <;> simp

@[simp] theorem hear_frame (info : FrameInfo) (role : PeerRole) (rec : Option LocoRecord) (s : State) :
    (s.hear info role rec).pending = s.pending ∧ (s.hear info role rec).power = s.power ∧
    (s.hear info role rec).rxc = s.rxc ∧ (s.hear info role rec).aut = s.aut ∧ (s.hear info role rec).csu = s.csu ∧
    (s.hear info role rec).spr = s.spr ∧ (s.hear info role rec).mrg = s.mrg ∧ (s.hear info role rec).fnm = s.fnm ∧
    (s.hear info role rec).chg = s.chg ∧ (s.hear info role rec).snd = s.snd ∧ (s.hear info role rec).smk = s.smk ∧
    (s.hear info role rec).lmp = s.lmp ∧ (s.hear info role rec).sup = s.sup ∧ (s.hear info role rec).cfg = s.cfg ∧
    (s.hear info role rec).eeprom = s.eeprom ∧ (s.hear info role rec).flash = s.flash :=
  by
  unfold State.hear; split <;> simp

@[simp] theorem dispatchThrottle_frame (payload : List Byte) (info : FrameInfo) (s : State) :
    (s.dispatchThrottle payload info).pending = s.pending ∧ (s.dispatchThrottle payload info).power = s.power ∧
    (s.dispatchThrottle payload info).fnm = s.fnm ∧ (s.dispatchThrottle payload info).chg = s.chg ∧
    (s.dispatchThrottle payload info).lmp = s.lmp ∧ (s.dispatchThrottle payload info).sup = s.sup ∧
    (s.dispatchThrottle payload info).cfg = s.cfg ∧ (s.dispatchThrottle payload info).eeprom = s.eeprom ∧
    (s.dispatchThrottle payload info).flash = s.flash :=
  by
  unfold State.dispatchThrottle; split <;> simp

@[simp] theorem dispatchConsist_frame (payload : List Byte) (info : FrameInfo) (s : State) :
    (s.dispatchConsist payload info).pending = s.pending ∧ (s.dispatchConsist payload info).power = s.power ∧
    (s.dispatchConsist payload info).ptb = s.ptb ∧ (s.dispatchConsist payload info).spr = s.spr ∧
    (s.dispatchConsist payload info).mrg = s.mrg ∧ (s.dispatchConsist payload info).fnm = s.fnm ∧
    (s.dispatchConsist payload info).chg = s.chg ∧ (s.dispatchConsist payload info).snd = s.snd ∧
    (s.dispatchConsist payload info).smk = s.smk ∧ (s.dispatchConsist payload info).lmp = s.lmp ∧
    (s.dispatchConsist payload info).sup = s.sup ∧ (s.dispatchConsist payload info).cfg = s.cfg ∧
    (s.dispatchConsist payload info).eeprom = s.eeprom ∧ (s.dispatchConsist payload info).flash = s.flash :=
  by
  simp [State.dispatchConsist]

@[simp] theorem dispatchBeacon_frame (payload : List Byte) (info : FrameInfo) (s : State) :
    (s.dispatchBeacon payload info).pending = s.pending ∧ (s.dispatchBeacon payload info).power = s.power ∧
    (s.dispatchBeacon payload info).rxc = s.rxc ∧ (s.dispatchBeacon payload info).csu = s.csu ∧
    (s.dispatchBeacon payload info).spr = s.spr ∧ (s.dispatchBeacon payload info).mrg = s.mrg ∧
    (s.dispatchBeacon payload info).fnm = s.fnm ∧ (s.dispatchBeacon payload info).chg = s.chg ∧
    (s.dispatchBeacon payload info).lmp = s.lmp ∧ (s.dispatchBeacon payload info).sup = s.sup ∧
    (s.dispatchBeacon payload info).cfg = s.cfg ∧ (s.dispatchBeacon payload info).eeprom = s.eeprom ∧
    (s.dispatchBeacon payload info).flash = s.flash :=
  by
  simp [State.dispatchBeacon]

@[simp] theorem leadHeard_frame (info : FrameInfo) (s : State) :
    (s.leadHeard info).pending = s.pending ∧ (s.leadHeard info).power = s.power ∧ (s.leadHeard info).rpt = s.rpt ∧
    (s.leadHeard info).ptb = s.ptb ∧ (s.leadHeard info).tkm = s.tkm ∧ (s.leadHeard info).csu = s.csu ∧
    (s.leadHeard info).spr = s.spr ∧ (s.leadHeard info).mrg = s.mrg ∧ (s.leadHeard info).fnm = s.fnm ∧
    (s.leadHeard info).chg = s.chg ∧ (s.leadHeard info).snd = s.snd ∧ (s.leadHeard info).smk = s.smk ∧
    (s.leadHeard info).lmp = s.lmp ∧ (s.leadHeard info).sup = s.sup ∧ (s.leadHeard info).cfg = s.cfg ∧
    (s.leadHeard info).eeprom = s.eeprom ∧ (s.leadHeard info).flash = s.flash :=
  by
  unfold State.leadHeard; split <;> simp

@[simp] theorem consistReport_frame (h0 : Level) (info : FrameInfo) (d : LocoData) (s : State) :
    (s.consistReport h0 info d).pending = s.pending ∧ (s.consistReport h0 info d).power = s.power ∧
    (s.consistReport h0 info d).rxc = s.rxc ∧ (s.consistReport h0 info d).ptb = s.ptb ∧
    (s.consistReport h0 info d).tkm = s.tkm ∧ (s.consistReport h0 info d).spr = s.spr ∧
    (s.consistReport h0 info d).mrg = s.mrg ∧ (s.consistReport h0 info d).fnm = s.fnm ∧
    (s.consistReport h0 info d).chg = s.chg ∧ (s.consistReport h0 info d).snd = s.snd ∧
    (s.consistReport h0 info d).smk = s.smk ∧ (s.consistReport h0 info d).lmp = s.lmp ∧
    (s.consistReport h0 info d).sup = s.sup ∧ (s.consistReport h0 info d).cfg = s.cfg ∧
    (s.consistReport h0 info d).eeprom = s.eeprom ∧ (s.consistReport h0 info d).flash = s.flash :=
  by
  unfold State.consistReport; (repeat' split) <;> simp

@[simp] theorem dispatchLoco_frame (payload : List Byte) (info : FrameInfo) (s : State) :
    (s.dispatchLoco payload info).pending = s.pending ∧ (s.dispatchLoco payload info).power = s.power ∧
    (s.dispatchLoco payload info).spr = s.spr ∧ (s.dispatchLoco payload info).mrg = s.mrg ∧
    (s.dispatchLoco payload info).fnm = s.fnm ∧ (s.dispatchLoco payload info).chg = s.chg ∧
    (s.dispatchLoco payload info).snd = s.snd ∧ (s.dispatchLoco payload info).smk = s.smk ∧
    (s.dispatchLoco payload info).lmp = s.lmp ∧ (s.dispatchLoco payload info).sup = s.sup ∧
    (s.dispatchLoco payload info).cfg = s.cfg ∧ (s.dispatchLoco payload info).eeprom = s.eeprom ∧
    (s.dispatchLoco payload info).flash = s.flash :=
  by
  simp [State.dispatchLoco]

@[simp] theorem linkLost_frame (l : Link) (s : State) :
    (s.linkLost l).pending = s.pending ∧ (s.linkLost l).power = s.power ∧ (s.linkLost l).ptb = s.ptb ∧
    (s.linkLost l).tkm = s.tkm ∧ (s.linkLost l).csu = s.csu ∧ (s.linkLost l).spr = s.spr ∧ (s.linkLost l).mrg = s.mrg ∧
    (s.linkLost l).fnm = s.fnm ∧ (s.linkLost l).chg = s.chg ∧ (s.linkLost l).snd = s.snd ∧ (s.linkLost l).smk = s.smk ∧
    (s.linkLost l).lmp = s.lmp ∧ (s.linkLost l).sup = s.sup ∧ (s.linkLost l).cfg = s.cfg ∧
    (s.linkLost l).eeprom = s.eeprom ∧ (s.linkLost l).flash = s.flash :=
  by
  simp [State.linkLost]

@[simp] theorem ageStep_frame (s : State) :
    (s.ageStep).pending = s.pending ∧ (s.ageStep).power = s.power ∧ (s.ageStep).rxc = s.rxc ∧ (s.ageStep).csu = s.csu ∧
    (s.ageStep).spr = s.spr ∧ (s.ageStep).mrg = s.mrg ∧ (s.ageStep).fnm = s.fnm ∧ (s.ageStep).chg = s.chg ∧
    (s.ageStep).snd = s.snd ∧ (s.ageStep).smk = s.smk ∧ (s.ageStep).lmp = s.lmp ∧ (s.ageStep).sup = s.sup ∧
    (s.ageStep).cfg = s.cfg ∧ (s.ageStep).eeprom = s.eeprom ∧ (s.ageStep).flash = s.flash :=
  by
  simp only [State.ageStep]; (repeat' split) <;> simp

@[simp] theorem dwellDone_frame (s : State) :
    (s.dwellDone).pending = s.pending ∧ (s.dwellDone).power = s.power ∧ (s.dwellDone).rxc = s.rxc ∧
    (s.dwellDone).rpt = s.rpt ∧ (s.dwellDone).ptb = s.ptb ∧ (s.dwellDone).tkm = s.tkm ∧ (s.dwellDone).csu = s.csu ∧
    (s.dwellDone).spr = s.spr ∧ (s.dwellDone).mrg = s.mrg ∧ (s.dwellDone).fnm = s.fnm ∧ (s.dwellDone).chg = s.chg ∧
    (s.dwellDone).snd = s.snd ∧ (s.dwellDone).smk = s.smk ∧ (s.dwellDone).lmp = s.lmp ∧ (s.dwellDone).sup = s.sup ∧
    (s.dwellDone).cfg = s.cfg ∧ (s.dwellDone).eeprom = s.eeprom ∧ (s.dwellDone).flash = s.flash :=
  by
  simp [State.dwellDone]

@[simp] theorem holdDone_frame (s : State) :
    (s.holdDone).pending = s.pending ∧ (s.holdDone).power = s.power ∧ (s.holdDone).rxc = s.rxc ∧ (s.holdDone).rpt = s.rpt ∧
    (s.holdDone).ptb = s.ptb ∧ (s.holdDone).tkm = s.tkm ∧ (s.holdDone).csu = s.csu ∧ (s.holdDone).spr = s.spr ∧
    (s.holdDone).mrg = s.mrg ∧ (s.holdDone).fnm = s.fnm ∧ (s.holdDone).chg = s.chg ∧ (s.holdDone).snd = s.snd ∧
    (s.holdDone).smk = s.smk ∧ (s.holdDone).lmp = s.lmp ∧ (s.holdDone).sup = s.sup ∧ (s.holdDone).cfg = s.cfg ∧
    (s.holdDone).eeprom = s.eeprom ∧ (s.holdDone).flash = s.flash :=
  by
  simp [State.holdDone]

@[simp] theorem graceDone_frame (m : Nat) (s : State) :
    (s.graceDone m).pending = s.pending ∧ (s.graceDone m).power = s.power ∧ (s.graceDone m).rxc = s.rxc ∧
    (s.graceDone m).ptb = s.ptb ∧ (s.graceDone m).tkm = s.tkm ∧ (s.graceDone m).spr = s.spr ∧ (s.graceDone m).mrg = s.mrg ∧
    (s.graceDone m).fnm = s.fnm ∧ (s.graceDone m).chg = s.chg ∧ (s.graceDone m).snd = s.snd ∧ (s.graceDone m).smk = s.smk ∧
    (s.graceDone m).lmp = s.lmp ∧ (s.graceDone m).sup = s.sup ∧ (s.graceDone m).cfg = s.cfg ∧
    (s.graceDone m).eeprom = s.eeprom ∧ (s.graceDone m).flash = s.flash :=
  by
  simp [State.graceDone]

@[simp] theorem tripDecayDone_frame (s : State) :
    (s.tripDecayDone).pending = s.pending ∧ (s.tripDecayDone).power = s.power ∧ (s.tripDecayDone).rxc = s.rxc ∧
    (s.tripDecayDone).rpt = s.rpt ∧ (s.tripDecayDone).ptb = s.ptb ∧ (s.tripDecayDone).tkm = s.tkm ∧
    (s.tripDecayDone).aut = s.aut ∧ (s.tripDecayDone).csu = s.csu ∧ (s.tripDecayDone).spr = s.spr ∧
    (s.tripDecayDone).fnm = s.fnm ∧ (s.tripDecayDone).chg = s.chg ∧ (s.tripDecayDone).snd = s.snd ∧
    (s.tripDecayDone).smk = s.smk ∧ (s.tripDecayDone).lmp = s.lmp ∧ (s.tripDecayDone).sup = s.sup ∧
    (s.tripDecayDone).cfg = s.cfg ∧ (s.tripDecayDone).eeprom = s.eeprom ∧ (s.tripDecayDone).flash = s.flash :=
  by
  simp [State.tripDecayDone]

@[simp] theorem sensorSet_frame (level : Bool) (s : State) :
    (s.sensorSet level).pending = s.pending ∧ (s.sensorSet level).power = s.power ∧ (s.sensorSet level).rxc = s.rxc ∧
    (s.sensorSet level).rpt = s.rpt ∧ (s.sensorSet level).ptb = s.ptb ∧ (s.sensorSet level).tkm = s.tkm ∧
    (s.sensorSet level).aut = s.aut ∧ (s.sensorSet level).csu = s.csu ∧ (s.sensorSet level).spr = s.spr ∧
    (s.sensorSet level).mrg = s.mrg ∧ (s.sensorSet level).fnm = s.fnm ∧ (s.sensorSet level).snd = s.snd ∧
    (s.sensorSet level).smk = s.smk ∧ (s.sensorSet level).lmp = s.lmp ∧ (s.sensorSet level).sup = s.sup ∧
    (s.sensorSet level).cfg = s.cfg ∧ (s.sensorSet level).eeprom = s.eeprom ∧ (s.sensorSet level).flash = s.flash :=
  by
  simp [State.sensorSet]

@[simp] theorem valveDone_frame (s : State) :
    (s.valveDone).pending = s.pending ∧ (s.valveDone).power = s.power ∧ (s.valveDone).rxc = s.rxc ∧
    (s.valveDone).ptb = s.ptb ∧ (s.valveDone).tkm = s.tkm ∧ (s.valveDone).aut = s.aut ∧ (s.valveDone).csu = s.csu ∧
    (s.valveDone).spr = s.spr ∧ (s.valveDone).mrg = s.mrg ∧ (s.valveDone).fnm = s.fnm ∧ (s.valveDone).chg = s.chg ∧
    (s.valveDone).smk = s.smk ∧ (s.valveDone).lmp = s.lmp ∧ (s.valveDone).sup = s.sup ∧ (s.valveDone).cfg = s.cfg ∧
    (s.valveDone).eeprom = s.eeprom ∧ (s.valveDone).flash = s.flash :=
  by
  unfold State.valveDone; split <;> simp

@[simp] theorem burstDone_frame (s : State) :
    (s.burstDone).pending = s.pending ∧ (s.burstDone).power = s.power ∧ (s.burstDone).rxc = s.rxc ∧
    (s.burstDone).rpt = s.rpt ∧ (s.burstDone).ptb = s.ptb ∧ (s.burstDone).tkm = s.tkm ∧ (s.burstDone).aut = s.aut ∧
    (s.burstDone).csu = s.csu ∧ (s.burstDone).spr = s.spr ∧ (s.burstDone).mrg = s.mrg ∧ (s.burstDone).fnm = s.fnm ∧
    (s.burstDone).chg = s.chg ∧ (s.burstDone).snd = s.snd ∧ (s.burstDone).lmp = s.lmp ∧ (s.burstDone).sup = s.sup ∧
    (s.burstDone).cfg = s.cfg ∧ (s.burstDone).eeprom = s.eeprom ∧ (s.burstDone).flash = s.flash :=
  by
  simp [State.burstDone]

end Sys2Proof.Machine
end

