-- ==== Sys2Proof/Laws/Settling.lean ====
section
/-! SUPPORT. Inside the blocks an event's end reaches: the fields it leaves as they were. -/

namespace Sys2Proof.Machine

@[simp] theorem signal_fields (e : DiagEvent) (s : State) :
    (s.signal e).rpt.credit = s.rpt.credit ∧ (s.signal e).rpt.activity = s.rpt.activity ∧
    (s.signal e).rpt.sinceStart = s.rpt.sinceStart ∧ (s.signal e).rpt.lfsr = s.rpt.lfsr ∧
    (s.signal e).rpt.holdoffLeft = s.rpt.holdoffLeft ∧ (s.signal e).rpt.backoffLeft = s.rpt.backoffLeft ∧
    (s.signal e).rpt.airLeft = s.rpt.airLeft ∧ (s.signal e).rpt.report = s.rpt.report ∧ (s.signal e).rpt.due = s.rpt.due :=
  by
  simp [State.signal]

@[simp] theorem makeDue_fields (s : State) :
    (s.makeDue).rpt.credit = s.rpt.credit ∧ (s.makeDue).rpt.activity = s.rpt.activity ∧
    (s.makeDue).rpt.sinceStart = s.rpt.sinceStart ∧ (s.makeDue).rpt.lfsr = s.rpt.lfsr ∧
    (s.makeDue).rpt.holdoffLeft = s.rpt.holdoffLeft ∧ (s.makeDue).rpt.backoffLeft = s.rpt.backoffLeft ∧
    (s.makeDue).rpt.airLeft = s.rpt.airLeft ∧ (s.makeDue).rpt.report = s.rpt.report ∧
    (s.makeDue).rpt.counterA = s.rpt.counterA ∧ (s.makeDue).rpt.counterB = s.rpt.counterB :=
  by
  simp [State.makeDue]

@[simp] theorem periodTest_fields (s : State) :
    (s.periodTest).rpt.credit = s.rpt.credit ∧ (s.periodTest).rpt.activity = s.rpt.activity ∧
    (s.periodTest).rpt.sinceStart = s.rpt.sinceStart ∧ (s.periodTest).rpt.lfsr = s.rpt.lfsr ∧
    (s.periodTest).rpt.holdoffLeft = s.rpt.holdoffLeft ∧ (s.periodTest).rpt.backoffLeft = s.rpt.backoffLeft ∧
    (s.periodTest).rpt.airLeft = s.rpt.airLeft ∧ (s.periodTest).rpt.report = s.rpt.report ∧
    (s.periodTest).rpt.counterA = s.rpt.counterA ∧ (s.periodTest).rpt.counterB = s.rpt.counterB :=
  by
  unfold State.periodTest; (repeat' split) <;> simp

@[simp] theorem reportTest_fields (s0 : State) (s : State) :
    (s.reportTest s0).rpt.credit = s.rpt.credit ∧ (s.reportTest s0).rpt.activity = s.rpt.activity ∧
    (s.reportTest s0).rpt.sinceStart = s.rpt.sinceStart ∧ (s.reportTest s0).rpt.lfsr = s.rpt.lfsr ∧
    (s.reportTest s0).rpt.holdoffLeft = s.rpt.holdoffLeft ∧ (s.reportTest s0).rpt.backoffLeft = s.rpt.backoffLeft ∧
    (s.reportTest s0).rpt.airLeft = s.rpt.airLeft ∧ (s.reportTest s0).rpt.report = s.rpt.report ∧
    (s.reportTest s0).rpt.counterA = s.rpt.counterA ∧ (s.reportTest s0).rpt.counterB = s.rpt.counterB :=
  by
  unfold State.reportTest; split <;> simp

@[simp] theorem release_fields (l : Level) (s : State) :
    (s.release l).aut.requested = s.aut.requested ∧ (s.release l).aut.parked = s.aut.parked :=
  by
  unfold State.release; split
  · simp
  · cases l <;> simp_all [clearLive, autSetCtx]

@[simp] theorem claim_fields (l : Level) (src : Option Nat) (s : State) :
    (s.claim l src).rpt.credit = s.rpt.credit ∧ (s.claim l src).rpt.activity = s.rpt.activity ∧
    (s.claim l src).rpt.sinceStart = s.rpt.sinceStart ∧ (s.claim l src).rpt.lfsr = s.rpt.lfsr ∧
    (s.claim l src).rpt.holdoffLeft = s.rpt.holdoffLeft ∧ (s.claim l src).rpt.backoffLeft = s.rpt.backoffLeft ∧
    (s.claim l src).rpt.airLeft = s.rpt.airLeft ∧ (s.claim l src).rpt.report = s.rpt.report ∧
    (s.claim l src).rpt.due = s.rpt.due ∧ (s.claim l src).aut.requested = s.aut.requested ∧
    (s.claim l src).aut.driverLive = s.aut.driverLive ∧ (s.claim l src).aut.consistLive = s.aut.consistLive ∧
    (s.claim l src).aut.signalLive = s.aut.signalLive ∧ (s.claim l src).aut.causes = s.aut.causes ∧
    (s.claim l src).aut.hold = s.aut.hold :=
  by
  cases l <;> simp [State.claim, autSetCtx]

@[simp] theorem addCause_fields (c : Cause) (s : State) :
    (s.addCause c).rpt.credit = s.rpt.credit ∧ (s.addCause c).rpt.activity = s.rpt.activity ∧
    (s.addCause c).rpt.sinceStart = s.rpt.sinceStart ∧ (s.addCause c).rpt.lfsr = s.rpt.lfsr ∧
    (s.addCause c).rpt.holdoffLeft = s.rpt.holdoffLeft ∧ (s.addCause c).rpt.backoffLeft = s.rpt.backoffLeft ∧
    (s.addCause c).rpt.airLeft = s.rpt.airLeft ∧ (s.addCause c).rpt.report = s.rpt.report ∧
    (s.addCause c).rpt.due = s.rpt.due ∧ (s.addCause c).aut.requested = s.aut.requested ∧
    (s.addCause c).aut.signal = s.aut.signal ∧ (s.addCause c).aut.consist = s.aut.consist ∧
    (s.addCause c).aut.driver = s.aut.driver ∧ (s.addCause c).aut.parked = s.aut.parked ∧
    (s.addCause c).aut.driverLive = s.aut.driverLive ∧ (s.addCause c).aut.consistLive = s.aut.consistLive ∧
    (s.addCause c).aut.signalLive = s.aut.signalLive :=
  by
  unfold State.addCause; split
  · simp
  · split <;> simp [State.claim, autSetCtx]

@[simp] theorem removeCause_fields (c : Cause) (s : State) :
    (s.removeCause c).aut.requested = s.aut.requested ∧ (s.removeCause c).aut.failsafe = s.aut.failsafe ∧
    (s.removeCause c).aut.signal = s.aut.signal ∧ (s.removeCause c).aut.consist = s.aut.consist ∧
    (s.removeCause c).aut.driver = s.aut.driver ∧ (s.removeCause c).aut.parked = s.aut.parked ∧
    (s.removeCause c).aut.driverLive = s.aut.driverLive ∧ (s.removeCause c).aut.consistLive = s.aut.consistLive ∧
    (s.removeCause c).aut.signalLive = s.aut.signalLive :=
  by
  unfold State.removeCause; split <;> simp

@[simp] theorem arbitrate_fields (s : State) :
    (s.arbitrate).snd.valve = s.snd.valve ∧ (s.arbitrate).snd.squealLatch = s.snd.squealLatch ∧
    (s.arbitrate).snd.prevY = s.snd.prevY ∧ (s.arbitrate).snd.output = s.snd.output ∧
    (s.arbitrate).snd.voices = s.snd.voices :=
  by
  unfold State.arbitrate arbitrateSnd; simp only [State.onSnd]; (repeat' split) <;> simp

@[simp] theorem request_fields (t : Trigger) (s : State) :
    (s.request t).rpt.credit = s.rpt.credit ∧ (s.request t).rpt.activity = s.rpt.activity ∧
    (s.request t).rpt.sinceStart = s.rpt.sinceStart ∧ (s.request t).rpt.lfsr = s.rpt.lfsr ∧
    (s.request t).rpt.holdoffLeft = s.rpt.holdoffLeft ∧ (s.request t).rpt.backoffLeft = s.rpt.backoffLeft ∧
    (s.request t).rpt.airLeft = s.rpt.airLeft ∧ (s.request t).rpt.report = s.rpt.report ∧
    (s.request t).rpt.due = s.rpt.due ∧ (s.request t).snd.valve = s.snd.valve ∧
    (s.request t).snd.squealLatch = s.snd.squealLatch ∧ (s.request t).snd.prevY = s.snd.prevY ∧
    (s.request t).snd.output = s.snd.output ∧ (s.request t).snd.voices = s.snd.voices :=
  by
  unfold State.request; (repeat' split) <;> simp

@[simp] theorem systemRequest_fields (hold : Bool) (index : Nat) (s : State) :
    (s.systemRequest hold index).rpt.credit = s.rpt.credit ∧ (s.systemRequest hold index).rpt.activity = s.rpt.activity ∧
    (s.systemRequest hold index).rpt.sinceStart = s.rpt.sinceStart ∧ (s.systemRequest hold index).rpt.lfsr = s.rpt.lfsr ∧
    (s.systemRequest hold index).rpt.holdoffLeft = s.rpt.holdoffLeft ∧
    (s.systemRequest hold index).rpt.backoffLeft = s.rpt.backoffLeft ∧
    (s.systemRequest hold index).rpt.airLeft = s.rpt.airLeft ∧ (s.systemRequest hold index).rpt.report = s.rpt.report ∧
    (s.systemRequest hold index).rpt.due = s.rpt.due ∧ (s.systemRequest hold index).snd.valve = s.snd.valve ∧
    (s.systemRequest hold index).snd.squealLatch = s.snd.squealLatch ∧
    (s.systemRequest hold index).snd.prevY = s.snd.prevY ∧ (s.systemRequest hold index).snd.output = s.snd.output ∧
    (s.systemRequest hold index).snd.voices = s.snd.voices :=
  by
  simp [State.systemRequest]

@[simp] theorem stopOwner_fields (o : Owner) (s : State) :
    (s.stopOwner o).snd.valve = s.snd.valve ∧ (s.stopOwner o).snd.squealLatch = s.snd.squealLatch ∧
    (s.stopOwner o).snd.prevY = s.snd.prevY ∧ (s.stopOwner o).snd.output = s.snd.output ∧
    (s.stopOwner o).snd.pointer = s.snd.pointer :=
  by
  simp [State.stopOwner]

@[simp] theorem fanRefresh_fields (s : State) :
    (s.fanRefresh).smk.temp = s.smk.temp ∧ (s.fanRefresh).smk.standstill = s.smk.standstill ∧
    (s.fanRefresh).smk.long = s.smk.long ∧ (s.fanRefresh).smk.state = s.smk.state ∧
    (s.fanRefresh).smk.heater = s.smk.heater ∧ (s.fanRefresh).smk.burst = s.smk.burst :=
  by
  simp [State.fanRefresh]

@[simp] theorem smokeEnter_fields (st : SmokeState) (s : State) :
    (s.smokeEnter st).smk.temp = s.smk.temp ∧ (s.smokeEnter st).smk.standstill = s.smk.standstill ∧
    (s.smokeEnter st).smk.long = s.smk.long :=
  by
  simp [State.smokeEnter]

@[simp] theorem smokeReach_fields (s : State) :
    (s.smokeReach).smk.temp = s.smk.temp ∧ (s.smokeReach).smk.standstill = s.smk.standstill ∧
    (s.smokeReach).smk.long = s.smk.long :=
  by
  simp [State.smokeReach]

@[simp] theorem smokeEnabled_fields (on : Bool) (s : State) :
    (s.smokeEnabled on).smk.temp = s.smk.temp ∧ (s.smokeEnabled on).smk.standstill = s.smk.standstill ∧
    (s.smokeEnabled on).smk.long = s.smk.long :=
  by
  unfold State.smokeEnabled; (repeat' split) <;> simp

@[simp] theorem smokeZone_fields (s : State) :
    (s.smokeZone).smk.temp = s.smk.temp ∧ (s.smokeZone).smk.standstill = s.smk.standstill ∧
    (s.smokeZone).smk.long = s.smk.long :=
  by
  unfold State.smokeZone; (repeat' split) <;> simp

@[simp] theorem smokeSupply_fields (s : State) :
    (s.smokeSupply).smk.temp = s.smk.temp ∧ (s.smokeSupply).smk.standstill = s.smk.standstill ∧
    (s.smokeSupply).smk.long = s.smk.long :=
  by
  unfold State.smokeSupply; (repeat' split) <;> simp

@[simp] theorem entryBurst_fields (ms : Nat) (s : State) :
    (s.entryBurst ms).smk.temp = s.smk.temp ∧ (s.entryBurst ms).smk.standstill = s.smk.standstill ∧
    (s.entryBurst ms).smk.long = s.smk.long ∧ (s.entryBurst ms).smk.state = s.smk.state ∧
    (s.entryBurst ms).smk.heater = s.smk.heater :=
  by
  unfold State.entryBurst; split <;> simp

@[simp] theorem chuffBurst_fields (s : State) :
    (s.chuffBurst).smk.temp = s.smk.temp ∧ (s.chuffBurst).smk.standstill = s.smk.standstill ∧
    (s.chuffBurst).smk.long = s.smk.long ∧ (s.chuffBurst).smk.state = s.smk.state ∧
    (s.chuffBurst).smk.heater = s.smk.heater :=
  by
  unfold State.chuffBurst; split <;> simp

@[simp] theorem lampsRefresh_fields (s : State) :
    (s.lampsRefresh).lmp.lfsr = s.lmp.lfsr ∧ (s.lampsRefresh).lmp.flare = s.lmp.flare ∧
    (s.lampsRefresh).lmp.ditchRight = s.lmp.ditchRight ∧ (s.lampsRefresh).lmp.ditchLeft = s.lmp.ditchLeft :=
  by
  simp [State.lampsRefresh]

@[simp] theorem ditchChange_fields (before : Bool) (after : Bool) (s : State) :
    (s.ditchChange before after).lmp.lfsr = s.lmp.lfsr ∧ (s.ditchChange before after).lmp.flare = s.lmp.flare ∧
    (s.ditchChange before after).lmp.lamps = s.lmp.lamps :=
  by
  simp [State.ditchChange]

@[simp] theorem blink_fields (mask : BitVec 8) (count : Nat) (s : State) :
    (s.blink mask count).lmp.lfsr = s.lmp.lfsr ∧ (s.blink mask count).lmp.flare = s.lmp.flare ∧
    (s.blink mask count).lmp.ditchRight = s.lmp.ditchRight ∧ (s.blink mask count).lmp.ditchLeft = s.lmp.ditchLeft :=
  by
  simp [State.blink]

@[simp] theorem ask_fields (k : SoundAsk) (s : State) :
    (s.ask k).rpt.credit = s.rpt.credit ∧ (s.ask k).rpt.activity = s.rpt.activity ∧
    (s.ask k).rpt.sinceStart = s.rpt.sinceStart ∧ (s.ask k).rpt.lfsr = s.rpt.lfsr ∧
    (s.ask k).rpt.holdoffLeft = s.rpt.holdoffLeft ∧ (s.ask k).rpt.backoffLeft = s.rpt.backoffLeft ∧
    (s.ask k).rpt.airLeft = s.rpt.airLeft ∧ (s.ask k).rpt.report = s.rpt.report ∧ (s.ask k).rpt.due = s.rpt.due ∧
    (s.ask k).snd.valve = s.snd.valve ∧ (s.ask k).snd.squealLatch = s.snd.squealLatch ∧ (s.ask k).snd.prevY = s.snd.prevY ∧
    (s.ask k).snd.output = s.snd.output :=
  by
  unfold State.ask; split <;> simp

@[simp] theorem askAll_fields (ks : List SoundAsk) (s : State) :
    ((ks.foldl State.ask s)).rpt.credit = s.rpt.credit ∧ ((ks.foldl State.ask s)).rpt.activity = s.rpt.activity ∧
    ((ks.foldl State.ask s)).rpt.sinceStart = s.rpt.sinceStart ∧ ((ks.foldl State.ask s)).rpt.lfsr = s.rpt.lfsr ∧
    ((ks.foldl State.ask s)).rpt.holdoffLeft = s.rpt.holdoffLeft ∧
    ((ks.foldl State.ask s)).rpt.backoffLeft = s.rpt.backoffLeft ∧ ((ks.foldl State.ask s)).rpt.airLeft = s.rpt.airLeft ∧
    ((ks.foldl State.ask s)).rpt.report = s.rpt.report ∧ ((ks.foldl State.ask s)).rpt.due = s.rpt.due ∧
    ((ks.foldl State.ask s)).snd.valve = s.snd.valve ∧ ((ks.foldl State.ask s)).snd.squealLatch = s.snd.squealLatch ∧
    ((ks.foldl State.ask s)).snd.prevY = s.snd.prevY ∧ ((ks.foldl State.ask s)).snd.output = s.snd.output :=
  by
  induction ks generalizing s with
  | nil => simp
  | cons k ks ih => simp [ih]

@[simp] theorem evaluate_fields (s : State) :
    (s.evaluate).rpt.credit = s.rpt.credit ∧ (s.evaluate).rpt.activity = s.rpt.activity ∧
    (s.evaluate).rpt.sinceStart = s.rpt.sinceStart ∧ (s.evaluate).rpt.lfsr = s.rpt.lfsr ∧
    (s.evaluate).rpt.holdoffLeft = s.rpt.holdoffLeft ∧ (s.evaluate).rpt.backoffLeft = s.rpt.backoffLeft ∧
    (s.evaluate).rpt.airLeft = s.rpt.airLeft ∧ (s.evaluate).rpt.report = s.rpt.report ∧ (s.evaluate).rpt.due = s.rpt.due ∧
    (s.evaluate).snd.valve = s.snd.valve ∧ (s.evaluate).snd.squealLatch = s.snd.squealLatch ∧
    (s.evaluate).snd.prevY = s.snd.prevY ∧ (s.evaluate).snd.output = s.snd.output ∧ (s.evaluate).smk.temp = s.smk.temp ∧
    (s.evaluate).smk.standstill = s.smk.standstill ∧ (s.evaluate).smk.long = s.smk.long ∧ (s.evaluate).spr.ref = s.spr.ref ∧
    (s.evaluate).spr.running = s.spr.running ∧ (s.evaluate).spr.braking = s.spr.braking ∧
    (s.evaluate).spr.stopped = s.spr.stopped ∧ (s.evaluate).lmp.lfsr = s.lmp.lfsr ∧ (s.evaluate).lmp.flare = s.lmp.flare :=
  by
  simp only [State.evaluate]; (repeat' split) <;> simp

@[simp] theorem functionsRefresh_fields (s : State) :
    (s.functionsRefresh).rpt.credit = s.rpt.credit ∧ (s.functionsRefresh).rpt.activity = s.rpt.activity ∧
    (s.functionsRefresh).rpt.sinceStart = s.rpt.sinceStart ∧ (s.functionsRefresh).rpt.lfsr = s.rpt.lfsr ∧
    (s.functionsRefresh).rpt.holdoffLeft = s.rpt.holdoffLeft ∧ (s.functionsRefresh).rpt.backoffLeft = s.rpt.backoffLeft ∧
    (s.functionsRefresh).rpt.airLeft = s.rpt.airLeft ∧ (s.functionsRefresh).rpt.report = s.rpt.report ∧
    (s.functionsRefresh).rpt.due = s.rpt.due ∧ (s.functionsRefresh).snd.valve = s.snd.valve ∧
    (s.functionsRefresh).snd.squealLatch = s.snd.squealLatch ∧ (s.functionsRefresh).snd.prevY = s.snd.prevY ∧
    (s.functionsRefresh).snd.output = s.snd.output ∧ (s.functionsRefresh).smk.temp = s.smk.temp ∧
    (s.functionsRefresh).smk.standstill = s.smk.standstill ∧ (s.functionsRefresh).smk.long = s.smk.long ∧
    (s.functionsRefresh).spr.ref = s.spr.ref ∧ (s.functionsRefresh).spr.running = s.spr.running ∧
    (s.functionsRefresh).spr.braking = s.spr.braking ∧ (s.functionsRefresh).spr.stopped = s.spr.stopped ∧
    (s.functionsRefresh).lmp.lfsr = s.lmp.lfsr ∧ (s.functionsRefresh).lmp.flare = s.lmp.flare :=
  by
  unfold State.functionsRefresh; split <;> simp

@[simp] theorem entryAction_fields (k : EntryAction) (s : State) :
    (s.entryAction k).rpt.credit = s.rpt.credit ∧ (s.entryAction k).rpt.activity = s.rpt.activity ∧
    (s.entryAction k).rpt.sinceStart = s.rpt.sinceStart ∧ (s.entryAction k).rpt.lfsr = s.rpt.lfsr ∧
    (s.entryAction k).rpt.holdoffLeft = s.rpt.holdoffLeft ∧ (s.entryAction k).rpt.backoffLeft = s.rpt.backoffLeft ∧
    (s.entryAction k).rpt.airLeft = s.rpt.airLeft ∧ (s.entryAction k).rpt.report = s.rpt.report ∧
    (s.entryAction k).rpt.due = s.rpt.due ∧ (s.entryAction k).snd.valve = s.snd.valve ∧
    (s.entryAction k).snd.squealLatch = s.snd.squealLatch ∧ (s.entryAction k).snd.prevY = s.snd.prevY ∧
    (s.entryAction k).snd.output = s.snd.output ∧ (s.entryAction k).snd.voices = s.snd.voices ∧
    (s.entryAction k).smk.temp = s.smk.temp ∧ (s.entryAction k).smk.standstill = s.smk.standstill ∧
    (s.entryAction k).smk.long = s.smk.long ∧ (s.entryAction k).smk.state = s.smk.state ∧
    (s.entryAction k).smk.heater = s.smk.heater ∧ (s.entryAction k).lmp.lfsr = s.lmp.lfsr ∧
    (s.entryAction k).lmp.flare = s.lmp.flare :=
  by
  unfold State.entryAction; split <;> simp

@[simp] theorem runActions_fields (ks : List EntryAction) (s : State) :
    ((ks.foldl State.entryAction s)).rpt.credit = s.rpt.credit ∧
    ((ks.foldl State.entryAction s)).rpt.activity = s.rpt.activity ∧
    ((ks.foldl State.entryAction s)).rpt.sinceStart = s.rpt.sinceStart ∧
    ((ks.foldl State.entryAction s)).rpt.lfsr = s.rpt.lfsr ∧
    ((ks.foldl State.entryAction s)).rpt.holdoffLeft = s.rpt.holdoffLeft ∧
    ((ks.foldl State.entryAction s)).rpt.backoffLeft = s.rpt.backoffLeft ∧
    ((ks.foldl State.entryAction s)).rpt.airLeft = s.rpt.airLeft ∧
    ((ks.foldl State.entryAction s)).rpt.report = s.rpt.report ∧ ((ks.foldl State.entryAction s)).rpt.due = s.rpt.due ∧
    ((ks.foldl State.entryAction s)).snd.valve = s.snd.valve ∧
    ((ks.foldl State.entryAction s)).snd.squealLatch = s.snd.squealLatch ∧
    ((ks.foldl State.entryAction s)).snd.prevY = s.snd.prevY ∧ ((ks.foldl State.entryAction s)).snd.output = s.snd.output ∧
    ((ks.foldl State.entryAction s)).snd.voices = s.snd.voices ∧ ((ks.foldl State.entryAction s)).smk.temp = s.smk.temp ∧
    ((ks.foldl State.entryAction s)).smk.standstill = s.smk.standstill ∧
    ((ks.foldl State.entryAction s)).smk.long = s.smk.long ∧ ((ks.foldl State.entryAction s)).smk.state = s.smk.state ∧
    ((ks.foldl State.entryAction s)).smk.heater = s.smk.heater ∧ ((ks.foldl State.entryAction s)).lmp.lfsr = s.lmp.lfsr ∧
    ((ks.foldl State.entryAction s)).lmp.flare = s.lmp.flare :=
  by
  induction ks generalizing s with
  | nil => simp
  | cons k ks ih => simp [ih]

@[simp] theorem entryActions_fields (l : Level) (resume : Bool) (s : State) :
    (s.entryActions l resume).rpt.credit = s.rpt.credit ∧ (s.entryActions l resume).rpt.activity = s.rpt.activity ∧
    (s.entryActions l resume).rpt.sinceStart = s.rpt.sinceStart ∧ (s.entryActions l resume).rpt.lfsr = s.rpt.lfsr ∧
    (s.entryActions l resume).rpt.holdoffLeft = s.rpt.holdoffLeft ∧
    (s.entryActions l resume).rpt.backoffLeft = s.rpt.backoffLeft ∧ (s.entryActions l resume).rpt.airLeft = s.rpt.airLeft ∧
    (s.entryActions l resume).rpt.report = s.rpt.report ∧ (s.entryActions l resume).rpt.due = s.rpt.due ∧
    (s.entryActions l resume).snd.valve = s.snd.valve ∧ (s.entryActions l resume).snd.squealLatch = s.snd.squealLatch ∧
    (s.entryActions l resume).snd.prevY = s.snd.prevY ∧ (s.entryActions l resume).snd.output = s.snd.output ∧
    (s.entryActions l resume).snd.voices = s.snd.voices ∧ (s.entryActions l resume).smk.temp = s.smk.temp ∧
    (s.entryActions l resume).smk.standstill = s.smk.standstill ∧ (s.entryActions l resume).smk.long = s.smk.long ∧
    (s.entryActions l resume).smk.state = s.smk.state ∧ (s.entryActions l resume).smk.heater = s.smk.heater ∧
    (s.entryActions l resume).lmp.lfsr = s.lmp.lfsr ∧ (s.entryActions l resume).lmp.flare = s.lmp.flare :=
  by
  unfold State.entryActions; split <;> simp

@[simp] theorem signalTest_fields (h0 : Level) (s : State) :
    (s.signalTest h0).aut.requested = s.aut.requested ∧ (s.signalTest h0).aut.failsafe = s.aut.failsafe ∧
    (s.signalTest h0).aut.consist = s.aut.consist ∧ (s.signalTest h0).aut.driver = s.aut.driver ∧
    (s.signalTest h0).aut.parked = s.aut.parked ∧ (s.signalTest h0).aut.driverLive = s.aut.driverLive ∧
    (s.signalTest h0).aut.consistLive = s.aut.consistLive ∧ (s.signalTest h0).aut.causes = s.aut.causes ∧
    (s.signalTest h0).aut.hold = s.aut.hold :=
  by
  unfold State.signalTest; split
  · unfold State.release; split <;> simp [clearLive, autSetCtx]
  · simp

@[simp] theorem stopReachedTest_fields (h0 : Level) (s : State) :
    (s.stopReachedTest h0).aut.requested = s.aut.requested ∧ (s.stopReachedTest h0).aut.failsafe = s.aut.failsafe ∧
    (s.stopReachedTest h0).aut.signal.claimed = s.aut.signal.claimed ∧
    (s.stopReachedTest h0).aut.signal.source = s.aut.signal.source ∧ (s.stopReachedTest h0).aut.consist = s.aut.consist ∧
    (s.stopReachedTest h0).aut.driver = s.aut.driver ∧ (s.stopReachedTest h0).aut.parked = s.aut.parked ∧
    (s.stopReachedTest h0).aut.driverLive = s.aut.driverLive ∧ (s.stopReachedTest h0).aut.consistLive = s.aut.consistLive ∧
    (s.stopReachedTest h0).aut.causes = s.aut.causes ∧ (s.stopReachedTest h0).aut.hold = s.aut.hold :=
  by
  unfold State.stopReachedTest; split
  · simp only [putStop]; cases h0 <;> simp
  · simp

@[simp] theorem stallTest_fields (h0 : Level) (s : State) :
    (s.stallTest h0).aut.requested = s.aut.requested ∧ (s.stallTest h0).aut.failsafe = s.aut.failsafe ∧
    (s.stallTest h0).aut.signal = s.aut.signal ∧ (s.stallTest h0).aut.consist = s.aut.consist ∧
    (s.stallTest h0).aut.driver = s.aut.driver ∧ (s.stallTest h0).aut.parked = s.aut.parked ∧
    (s.stallTest h0).aut.driverLive = s.aut.driverLive ∧ (s.stallTest h0).aut.consistLive = s.aut.consistLive ∧
    (s.stallTest h0).aut.signalLive = s.aut.signalLive :=
  by
  unfold State.stallTest; split <;> simp

@[simp] theorem holdTest_fields (s : State) :
    (s.holdTest).aut.requested = s.aut.requested ∧ (s.holdTest).aut.signal = s.aut.signal ∧
    (s.holdTest).aut.consist = s.aut.consist ∧ (s.holdTest).aut.driver = s.aut.driver ∧
    (s.holdTest).aut.parked = s.aut.parked ∧ (s.holdTest).aut.driverLive = s.aut.driverLive ∧
    (s.holdTest).aut.consistLive = s.aut.consistLive ∧ (s.holdTest).aut.signalLive = s.aut.signalLive :=
  by
  unfold State.holdTest; split
  · unfold State.release; split <;> simp [clearLive, autSetCtx]
  · simp

@[simp] theorem settleClaims_fields (h0 : Level) (s : State) :
    (s.settleClaims h0).aut.requested = s.aut.requested ∧ (s.settleClaims h0).aut.consist = s.aut.consist ∧
    (s.settleClaims h0).aut.driver = s.aut.driver ∧ (s.settleClaims h0).aut.parked = s.aut.parked ∧
    (s.settleClaims h0).aut.driverLive = s.aut.driverLive ∧ (s.settleClaims h0).aut.consistLive = s.aut.consistLive :=
  by
  simp [State.settleClaims]

@[simp] theorem requestedRefresh_fields (s : State) :
    (s.requestedRefresh).aut.failsafe = s.aut.failsafe ∧ (s.requestedRefresh).aut.signal = s.aut.signal ∧
    (s.requestedRefresh).aut.consist = s.aut.consist ∧ (s.requestedRefresh).aut.driver = s.aut.driver ∧
    (s.requestedRefresh).aut.parked = s.aut.parked ∧ (s.requestedRefresh).aut.driverLive = s.aut.driverLive ∧
    (s.requestedRefresh).aut.consistLive = s.aut.consistLive ∧ (s.requestedRefresh).aut.signalLive = s.aut.signalLive ∧
    (s.requestedRefresh).aut.causes = s.aut.causes ∧ (s.requestedRefresh).aut.hold = s.aut.hold :=
  by
  simp [State.requestedRefresh]

@[simp] theorem activate_fields (h0 : Level) (l : Level) (s : State) :
    (s.activate h0 l).rpt.credit = s.rpt.credit ∧ (s.activate h0 l).rpt.activity = s.rpt.activity ∧
    (s.activate h0 l).rpt.sinceStart = s.rpt.sinceStart ∧ (s.activate h0 l).rpt.lfsr = s.rpt.lfsr ∧
    (s.activate h0 l).rpt.holdoffLeft = s.rpt.holdoffLeft ∧ (s.activate h0 l).rpt.backoffLeft = s.rpt.backoffLeft ∧
    (s.activate h0 l).rpt.airLeft = s.rpt.airLeft ∧ (s.activate h0 l).rpt.report = s.rpt.report ∧
    (s.activate h0 l).rpt.due = s.rpt.due ∧ (s.activate h0 l).snd.valve = s.snd.valve ∧
    (s.activate h0 l).snd.squealLatch = s.snd.squealLatch ∧ (s.activate h0 l).snd.prevY = s.snd.prevY ∧
    (s.activate h0 l).snd.output = s.snd.output ∧ (s.activate h0 l).smk.temp = s.smk.temp ∧
    (s.activate h0 l).smk.standstill = s.smk.standstill ∧ (s.activate h0 l).smk.long = s.smk.long ∧
    (s.activate h0 l).spr.ref = s.spr.ref ∧ (s.activate h0 l).spr.running = s.spr.running ∧
    (s.activate h0 l).spr.braking = s.spr.braking ∧ (s.activate h0 l).spr.stopped = s.spr.stopped ∧
    (s.activate h0 l).lmp.lfsr = s.lmp.lfsr ∧ (s.activate h0 l).lmp.flare = s.lmp.flare :=
  by
  unfold State.activate; split <;> simp

@[simp] theorem changeHead_fields (h0 : Level) (s : State) :
    (s.changeHead h0).rpt.credit = s.rpt.credit ∧ (s.changeHead h0).rpt.activity = s.rpt.activity ∧
    (s.changeHead h0).rpt.sinceStart = s.rpt.sinceStart ∧ (s.changeHead h0).rpt.lfsr = s.rpt.lfsr ∧
    (s.changeHead h0).rpt.holdoffLeft = s.rpt.holdoffLeft ∧ (s.changeHead h0).rpt.backoffLeft = s.rpt.backoffLeft ∧
    (s.changeHead h0).rpt.airLeft = s.rpt.airLeft ∧ (s.changeHead h0).rpt.report = s.rpt.report ∧
    (s.changeHead h0).rpt.due = s.rpt.due ∧ (s.changeHead h0).snd.valve = s.snd.valve ∧
    (s.changeHead h0).snd.squealLatch = s.snd.squealLatch ∧ (s.changeHead h0).snd.prevY = s.snd.prevY ∧
    (s.changeHead h0).snd.output = s.snd.output ∧ (s.changeHead h0).smk.temp = s.smk.temp ∧
    (s.changeHead h0).smk.standstill = s.smk.standstill ∧ (s.changeHead h0).smk.long = s.smk.long ∧
    (s.changeHead h0).spr.ref = s.spr.ref ∧ (s.changeHead h0).spr.running = s.spr.running ∧
    (s.changeHead h0).spr.braking = s.spr.braking ∧ (s.changeHead h0).spr.stopped = s.spr.stopped ∧
    (s.changeHead h0).lmp.lfsr = s.lmp.lfsr ∧ (s.changeHead h0).lmp.flare = s.lmp.flare :=
  by
  unfold State.changeHead; (repeat' split) <;> simp

@[simp] theorem settle_fields (s0 : State) (s : State) :
    (s.settle s0).rpt.credit = s.rpt.credit ∧ (s.settle s0).rpt.activity = s.rpt.activity ∧
    (s.settle s0).rpt.sinceStart = s.rpt.sinceStart ∧ (s.settle s0).rpt.lfsr = s.rpt.lfsr ∧
    (s.settle s0).rpt.holdoffLeft = s.rpt.holdoffLeft ∧ (s.settle s0).rpt.backoffLeft = s.rpt.backoffLeft ∧
    (s.settle s0).rpt.airLeft = s.rpt.airLeft ∧ (s.settle s0).rpt.report = s.rpt.report ∧
    (s.settle s0).snd.valve = s.snd.valve ∧ (s.settle s0).snd.squealLatch = s.snd.squealLatch ∧
    (s.settle s0).snd.prevY = s.snd.prevY ∧ (s.settle s0).snd.output = s.snd.output ∧ (s.settle s0).smk.temp = s.smk.temp ∧
    (s.settle s0).smk.standstill = s.smk.standstill ∧ (s.settle s0).smk.long = s.smk.long ∧
    (s.settle s0).spr.ref = s.spr.ref ∧ (s.settle s0).spr.running = s.spr.running ∧
    (s.settle s0).spr.braking = s.spr.braking ∧ (s.settle s0).spr.stopped = s.spr.stopped ∧
    (s.settle s0).lmp.lfsr = s.lmp.lfsr ∧ (s.settle s0).lmp.flare = s.lmp.flare :=
  by
  simp [State.settle]

end Sys2Proof.Machine
end

