-- ==== Sys2Proof/Laws/Heads.lean ====
section
/-! SUPPORT. The head of the claim list and an event's end at AUT: what the change of head makes of AUT's records, and what the end of an
event leaves of each context. -/

namespace Sys2Proof.Machine

/-! ### The head -/

theorem autHead_failsafe {a : Aut} (h : a.failsafe.claimed = true) : autHead a = .failsafe := by simp [autHead, h]

theorem autHead_ne_failsafe {a : Aut} : autHead a ≠ .failsafe ↔ a.failsafe.claimed = false := by
  unfold autHead headBelow
  cases a.failsafe.claimed <;> simp
  cases a.signal.claimed <;> cases a.consist.claimed <;> cases a.driver.claimed <;> simp

theorem autHead_signal {a : Aut} : autHead a = .signal ↔ a.failsafe.claimed = false ∧ a.signal.claimed = true := by
  unfold autHead headBelow
  cases a.failsafe.claimed <;> cases a.signal.claimed <;> cases a.consist.claimed <;> cases a.driver.claimed <;> simp

theorem autHead_consist {a : Aut} :
    autHead a = .consist ↔ a.failsafe.claimed = false ∧ a.signal.claimed = false ∧ a.consist.claimed = true := by
  unfold autHead headBelow
  cases a.failsafe.claimed <;> cases a.signal.claimed <;> cases a.consist.claimed <;> cases a.driver.claimed <;> simp

theorem autHead_driver {a : Aut} :
    autHead a = .driver ↔
      a.failsafe.claimed = false ∧ a.signal.claimed = false ∧ a.consist.claimed = false ∧ a.driver.claimed = true := by
  unfold autHead headBelow
  cases a.failsafe.claimed <;> cases a.signal.claimed <;> cases a.consist.claimed <;> cases a.driver.claimed <;> simp

theorem autHead_parked {a : Aut} :
    autHead a = .parked ↔
      a.failsafe.claimed = false ∧ a.signal.claimed = false ∧ a.consist.claimed = false ∧ a.driver.claimed = false := by
  unfold autHead headBelow
  cases a.failsafe.claimed <;> cases a.signal.claimed <;> cases a.consist.claimed <;> cases a.driver.claimed <;> simp

/-- The head is read off the five claimed flags. -/
theorem autHead_congr {a b : Aut} (hf : b.failsafe.claimed = a.failsafe.claimed) (hs : b.signal.claimed = a.signal.claimed)
    (hc : b.consist.claimed = a.consist.claimed) (hd : b.driver.claimed = a.driver.claimed) : autHead b = autHead a := by
  simp [autHead, headBelow, hf, hs, hc, hd]

/-! ### The change of head -/

/-- AUT's records after a change of head from `h0` to `l`. -/
def headChanged (h0 l : Level) (a : Aut) : Aut := markStarted l (loadSaved h0 l (preempt h0 a))

/-- Activation's part at AUT. -/
theorem activate_aut (h0 l : Level) (s : State) : (s.activate h0 l).aut = markStarted l (loadSaved h0 l s.aut) := by
  unfold State.activate; simp only; split <;> simp

/-- A change of head at AUT: nothing where the head stays, otherwise the old head saved and the new one loaded and started. -/
theorem changeHead_aut (h0 : Level) (s : State) :
    (s.changeHead h0).aut = if s.head = h0 then s.aut else headChanged h0 s.head s.aut := by
  unfold State.changeHead
  split
  · simp
  · simp only [activate_aut, headChanged]
    split <;> simp

/-- A preempted head, and no other, leaves its own requested direction behind (R73). -/
@[simp] theorem preempt_requested (l : Level) (a : Aut) :
    (preempt l a).requested = if (autCtx a l).claimed then requestedBy l a else a.requested := by
  unfold preempt
  split
  · cases l <;> rfl
  · rfl

/-! No part of a change of head changes a claim, a source, the cause set, the hold or a function set. -/

@[simp] theorem preempt_claims (l : Level) (a : Aut) :
    (preempt l a).failsafe.claimed = a.failsafe.claimed ∧ (preempt l a).signal.claimed = a.signal.claimed ∧
    (preempt l a).consist.claimed = a.consist.claimed ∧ (preempt l a).driver.claimed = a.driver.claimed ∧
    (preempt l a).parked.claimed = a.parked.claimed ∧ (preempt l a).signal.source = a.signal.source ∧
    (preempt l a).consist.source = a.consist.source ∧ (preempt l a).driver.source = a.driver.source ∧
    (preempt l a).causes = a.causes ∧ (preempt l a).hold = a.hold ∧
    (preempt l a).driverLive.funcs = a.driverLive.funcs ∧ (preempt l a).consistLive.funcs = a.consistLive.funcs := by
  unfold preempt putSaved
  cases l <;> simp only [autCtx, autSetCtx] <;>
    first
      | (by_cases h : a.failsafe.claimed = true <;> simp [h]; done)
      | (by_cases h : a.signal.claimed = true <;> simp [h]; done)
      | (by_cases h : a.consist.claimed = true <;> simp [h]; done)
      | (by_cases h : a.driver.claimed = true <;> simp [h]; done)
      | (by_cases h : a.parked.claimed = true <;> simp [h])

@[simp] theorem loadSaved_claims (h0 l : Level) (a : Aut) :
    (loadSaved h0 l a).failsafe.claimed = a.failsafe.claimed ∧ (loadSaved h0 l a).signal.claimed = a.signal.claimed ∧
    (loadSaved h0 l a).consist.claimed = a.consist.claimed ∧ (loadSaved h0 l a).driver.claimed = a.driver.claimed ∧
    (loadSaved h0 l a).parked.claimed = a.parked.claimed ∧ (loadSaved h0 l a).signal.source = a.signal.source ∧
    (loadSaved h0 l a).consist.source = a.consist.source ∧ (loadSaved h0 l a).driver.source = a.driver.source ∧
    (loadSaved h0 l a).causes = a.causes ∧ (loadSaved h0 l a).hold = a.hold ∧
    (loadSaved h0 l a).requested = a.requested ∧ (loadSaved h0 l a).driverLive.funcs = a.driverLive.funcs ∧
    (loadSaved h0 l a).consistLive.funcs = a.consistLive.funcs := by
  cases l <;> simp [loadSaved]

@[simp] theorem markStarted_claims (l : Level) (a : Aut) :
    (markStarted l a).failsafe.claimed = a.failsafe.claimed ∧ (markStarted l a).signal.claimed = a.signal.claimed ∧
    (markStarted l a).consist.claimed = a.consist.claimed ∧ (markStarted l a).driver.claimed = a.driver.claimed ∧
    (markStarted l a).parked.claimed = a.parked.claimed ∧ (markStarted l a).signal.source = a.signal.source ∧
    (markStarted l a).consist.source = a.consist.source ∧ (markStarted l a).driver.source = a.driver.source ∧
    (markStarted l a).causes = a.causes ∧ (markStarted l a).hold = a.hold ∧ (markStarted l a).requested = a.requested ∧
    (markStarted l a).driverLive.funcs = a.driverLive.funcs ∧
    (markStarted l a).consistLive.funcs = a.consistLive.funcs := by
  cases l <;> simp [markStarted, autSetCtx, autCtx]

@[simp] theorem headChanged_claims (h0 l : Level) (a : Aut) :
    (headChanged h0 l a).failsafe.claimed = a.failsafe.claimed ∧
    (headChanged h0 l a).signal.claimed = a.signal.claimed ∧ (headChanged h0 l a).consist.claimed = a.consist.claimed ∧
    (headChanged h0 l a).driver.claimed = a.driver.claimed ∧ (headChanged h0 l a).parked.claimed = a.parked.claimed ∧
    (headChanged h0 l a).signal.source = a.signal.source ∧ (headChanged h0 l a).consist.source = a.consist.source ∧
    (headChanged h0 l a).driver.source = a.driver.source ∧ (headChanged h0 l a).causes = a.causes ∧
    (headChanged h0 l a).hold = a.hold ∧
    (headChanged h0 l a).driverLive.funcs = a.driverLive.funcs ∧
    (headChanged h0 l a).consistLive.funcs = a.consistLive.funcs := by
  simp [headChanged]

@[simp] theorem changeHead_claims (h0 : Level) (s : State) :
    (s.changeHead h0).aut.failsafe.claimed = s.aut.failsafe.claimed ∧
    (s.changeHead h0).aut.signal.claimed = s.aut.signal.claimed ∧
    (s.changeHead h0).aut.consist.claimed = s.aut.consist.claimed ∧
    (s.changeHead h0).aut.driver.claimed = s.aut.driver.claimed ∧
    (s.changeHead h0).aut.parked.claimed = s.aut.parked.claimed ∧
    (s.changeHead h0).aut.signal.source = s.aut.signal.source ∧
    (s.changeHead h0).aut.consist.source = s.aut.consist.source ∧
    (s.changeHead h0).aut.driver.source = s.aut.driver.source ∧
    (s.changeHead h0).aut.causes = s.aut.causes ∧ (s.changeHead h0).aut.hold = s.aut.hold ∧
    (s.changeHead h0).aut.driverLive.funcs = s.aut.driverLive.funcs ∧
    (s.changeHead h0).aut.consistLive.funcs = s.aut.consistLive.funcs := by
  rw [changeHead_aut]; split <;> simp

@[simp] theorem changeHead_head (h0 : Level) (s : State) : (s.changeHead h0).head = s.head := by
  unfold State.head; apply autHead_congr <;> simp

@[simp] theorem requestedRefresh_head (s : State) : s.requestedRefresh.head = s.head := by
  unfold State.head; apply autHead_congr <;> simp

@[simp] theorem reportTest_head (s0 s : State) : (s.reportTest s0).head = s.head := by simp [State.head]

/-! ### The end of an event at AUT -/

/-- AUT after an event's claims have settled and its head has changed. -/
def settledAut (s s0 : State) : Aut := ((s.settleClaims s0.head).changeHead s0.head).aut

/-- AUT's records after the end of an event: all but the requested direction. -/
theorem settle_aut_records (s s0 : State) :
    (s.settle s0).aut.failsafe = (settledAut s s0).failsafe ∧ (s.settle s0).aut.signal = (settledAut s s0).signal ∧
    (s.settle s0).aut.consist = (settledAut s s0).consist ∧ (s.settle s0).aut.driver = (settledAut s s0).driver ∧
    (s.settle s0).aut.parked = (settledAut s s0).parked ∧ (s.settle s0).aut.driverLive = (settledAut s s0).driverLive ∧
    (s.settle s0).aut.consistLive = (settledAut s s0).consistLive ∧
    (s.settle s0).aut.signalLive = (settledAut s s0).signalLive ∧ (s.settle s0).aut.causes = (settledAut s s0).causes ∧
    (s.settle s0).aut.hold = (settledAut s s0).hold := by
  simp [State.settle, settledAut]

/-- AUT after the end of an event, by whether the head changed. -/
theorem settledAut_eq (s s0 : State) :
    settledAut s s0 =
      if (s.settleClaims s0.head).head = s0.head then (s.settleClaims s0.head).aut
      else headChanged s0.head (s.settleClaims s0.head).head (s.settleClaims s0.head).aut := by
  simp [settledAut, changeHead_aut]

/-- The head after the end of an event is the head of the settled claims. -/
theorem settle_head (s s0 : State) : (s.settle s0).head = (s.settleClaims s0.head).head := by
  simp [State.settle]

/-- What the end of an event leaves of DRIVER, CONSIST and PARKED: their claims, sources and function sets. -/
@[simp] theorem settle_claims (s s0 : State) :
    (s.settle s0).aut.consist.claimed = s.aut.consist.claimed ∧ (s.settle s0).aut.driver.claimed = s.aut.driver.claimed ∧
    (s.settle s0).aut.parked.claimed = s.aut.parked.claimed ∧ (s.settle s0).aut.consist.source = s.aut.consist.source ∧
    (s.settle s0).aut.driver.source = s.aut.driver.source ∧
    (s.settle s0).aut.driverLive.funcs = s.aut.driverLive.funcs ∧
    (s.settle s0).aut.consistLive.funcs = s.aut.consistLive.funcs := by
  simp [State.settle]

/-- AUT before the change of head requests what AUT before the settling of claims did. -/
theorem settleClaims_requestedBy (h0 l : Level) (s : State) :
    requestedBy l (s.settleClaims h0).aut = requestedBy l s.aut := by
  cases l <;> simp [requestedBy]

/-- The requested direction after a change of head: a preempted head leaves its own behind (R73). -/
theorem changeHead_requested (h0 : Level) (s : State) :
    (s.changeHead h0).aut.requested =
      if s.head ≠ h0 ∧ (autCtx s.aut h0).claimed = true then requestedBy h0 s.aut else s.aut.requested := by
  rw [changeHead_aut]
  by_cases h : s.head = h0 <;> simp [h, headChanged]

/-- The requested direction after the end of an event: the head's own, where it has one; else what a head preempted in the event
requested; else what it was (R73). -/
theorem settle_requested (s s0 : State) :
    (s.settle s0).aut.requested =
      match (s.settle s0).head with
      | .driver => (s.settle s0).aut.driverLive.dir
      | .consist => (s.settle s0).aut.consistLive.dir
      | l =>
        if l ≠ s0.head ∧ (autCtx (s.settleClaims s0.head).aut s0.head).claimed = true then requestedBy s0.head s.aut
        else s.aut.requested := by
  have h : (s.settle s0).head = (s.settleClaims s0.head).head := settle_head s s0
  have hr := changeHead_requested s0.head (s.settleClaims s0.head)
  simp only [settleClaims_requestedBy, settleClaims_fields] at hr
  rw [h]
  simp only [State.settle, reportTest_frame, State.requestedRefresh, State.onAut, changeHead_head]
  cases hl : (s.settleClaims s0.head).head <;> simp_all [requestedBy]

/-! ### The settling of claims -/

theorem signalTest_aut (h0 : Level) (s : State) :
    (s.signalTest h0).aut =
      if s.aut.signal.claimed = true ∧ signalDone (stopNow h0 s.aut) s.currentAspect = true then
        { s.aut with signal := {}, signalLive := {} }
      else s.aut := by
  unfold State.signalTest State.release
  by_cases h : s.aut.signal.claimed = true <;> by_cases h2 : signalDone (stopNow h0 s.aut) s.currentAspect = true <;>
    simp [h, h2, autCtx, autSetCtx, clearLive]

theorem stallTest_aut (h0 : Level) (s : State) :
    (s.stallTest h0).aut =
      if s.aut.causes.stall = true ∧ s.targetBelowZero h0 = true then
        { s.aut with
          causes := { s.aut.causes with stall := false }
          hold :=
            if causesEmpty { s.aut.causes with stall := false } = true then some s.image.windows.failsafeHold
            else s.aut.hold }
      else s.aut := by
  unfold State.stallTest State.removeCause
  by_cases h : s.aut.causes.stall = true <;> by_cases h2 : s.targetBelowZero h0 = true <;>
    simp [h, h2, causeIn, causePut] <;> rfl

theorem holdTest_aut (s : State) :
    (s.holdTest).aut =
      if s.aut.failsafe.claimed = true ∧ s.aut.hold = some 0 then
        { s.aut with failsafe := {}, causes := {}, hold := none }
      else s.aut := by
  unfold State.holdTest State.release
  by_cases h : s.aut.failsafe.claimed = true <;> by_cases h2 : s.aut.hold = some 0 <;>
    simp [h, h2, autCtx, autSetCtx, clearLive]

theorem stopReachedTest_aut (h0 : Level) (s : State) :
    (s.stopReachedTest h0).aut =
      if s.head = .signal ∧ s.spr.stopped = true then
        putStop h0 { stopNow h0 s.aut with reached := true } s.aut
      else s.aut := by
  unfold State.stopReachedTest
  split <;> simp

/-- Outside SIGNAL and FAILSAFE the settling of claims can only take STALL out of the cause set. -/
theorem settleClaims_quiet (h0 : Level) (s : State) (hf : s.aut.failsafe.claimed = false) (hs : s.aut.signal.claimed = false) :
    (s.settleClaims h0).aut.failsafe = s.aut.failsafe ∧ (s.settleClaims h0).aut.signal = s.aut.signal ∧
    (s.settleClaims h0).aut.signalLive = s.aut.signalLive := by
  have h1 : (s.signalTest h0).aut = s.aut := by rw [signalTest_aut]; simp [hs]
  have h2 : ((s.signalTest h0).stallTest h0).aut.failsafe.claimed = false := by simp [hf]
  have h3 : (((s.signalTest h0).stallTest h0).holdTest).aut = ((s.signalTest h0).stallTest h0).aut := by
    rw [holdTest_aut]; simp [hf]
  have h4 : (((s.signalTest h0).stallTest h0).holdTest).head ≠ .signal := by
    unfold State.head; rw [Ne, autHead_signal, h3]; simp [h1, hs]
  have h5 : ((((s.signalTest h0).stallTest h0).holdTest).stopReachedTest h0).aut = ((s.signalTest h0).stallTest h0).aut := by
    rw [stopReachedTest_aut, if_neg (by simp [h4]), h3]
  have h6 : (s.settleClaims h0).aut = ((s.signalTest h0).stallTest h0).aut := by
    unfold State.settleClaims
    rw [signalTest_aut, if_neg, h5]
    rw [h5]; simp [h1, hs]
  rw [h6]; simp [h1]

/-- Where the head is DRIVER, CONSIST or PARKED before the settling of claims, it is afterwards. -/
theorem settleClaims_head (h0 : Level) (s : State) (hf : s.aut.failsafe.claimed = false) (hs : s.aut.signal.claimed = false) :
    (s.settleClaims h0).head = s.head := by
  unfold State.head
  apply autHead_congr <;> simp [settleClaims_quiet h0 s hf hs]

/-- While a cause other than STALL stands and no hold runs, the settling of claims keeps FAILSAFE, the hold and every other cause. -/
theorem settleClaims_standing (h0 : Level) (s : State) (hh : s.aut.hold = none)
    (hc : causesEmpty { s.aut.causes with stall := false } = false) :
    (s.settleClaims h0).aut.failsafe = s.aut.failsafe ∧ (s.settleClaims h0).aut.hold = none ∧
    (s.settleClaims h0).aut.causes.linkLost = s.aut.causes.linkLost ∧
    (s.settleClaims h0).aut.causes.leadLost = s.aut.causes.leadLost ∧
    (s.settleClaims h0).aut.causes.member = s.aut.causes.member ∧
    (s.settleClaims h0).aut.causes.supply = s.aut.causes.supply ∧
    (s.settleClaims h0).aut.causes.motorFault = s.aut.causes.motorFault := by
  have h2 : ((s.signalTest h0).stallTest h0).aut.hold = none := by
    rw [stallTest_aut]; split <;> simp [hh, hc]
  have h3 : (((s.signalTest h0).stallTest h0).holdTest).aut = ((s.signalTest h0).stallTest h0).aut := by
    rw [holdTest_aut]; simp [h2]
  have h4 : ((s.signalTest h0).stallTest h0).aut.causes.linkLost = s.aut.causes.linkLost ∧
      ((s.signalTest h0).stallTest h0).aut.causes.leadLost = s.aut.causes.leadLost ∧
      ((s.signalTest h0).stallTest h0).aut.causes.member = s.aut.causes.member ∧
      ((s.signalTest h0).stallTest h0).aut.causes.supply = s.aut.causes.supply ∧
      ((s.signalTest h0).stallTest h0).aut.causes.motorFault = s.aut.causes.motorFault := by
    rw [stallTest_aut]; split <;> simp
  unfold State.settleClaims
  simp [h3, h2, h4]

end Sys2Proof.Machine
end

