-- ==== Sys2Proof/Laws/Memory.lean ====
section
/-! SUPPORT. The byte memories: reading after a write, the canonical form kept by every write, and the forms at reset. -/

namespace Sys2Proof.Machine

/-! ### Reading -/

theorem memRead_memInsert_self (a : Nat) (b : Byte) (m : List Host.Cell) (h : memRead m a = unwrittenByte) :
    memRead (memInsert a b m) a = b := by
  unfold memInsert
  split
  · rename_i hb; rw [h, hb]
  · simp [memRead]

theorem memRead_memInsert_other (a c : Nat) (b : Byte) (m : List Host.Cell) (h : c ≠ a) :
    memRead (memInsert a b m) c = memRead m c := by
  unfold memInsert
  split
  · rfl
  · simp [memRead, Ne.symm h]

/-- An address below every listed one reads as an unlisted address. -/
theorem memRead_below (a lo : Nat) (m : List Host.Cell) (h : risingFrom lo m = true) (ha : a < lo) :
    memRead m a = unwrittenByte := by
  induction m generalizing lo with
  | nil => rfl
  | cons c m ih =>
    simp only [risingFrom, Bool.and_eq_true, decide_eq_true_eq] at h
    have hne : c.1 ≠ a := by omega
    simp only [memRead, if_neg hne]
    exact ih (c.1 + 1) h.2 (by omega)

/-- A read at the address of a write gives the byte written. -/
theorem memRead_memWrite_self (a lo : Nat) (b : Byte) (m : List Host.Cell) (h : risingFrom lo m = true) :
    memRead (memWrite m a b) a = b := by
  induction m generalizing lo with
  | nil => exact memRead_memInsert_self a b [] rfl
  | cons c m ih =>
    have hr := h
    simp only [risingFrom, Bool.and_eq_true, decide_eq_true_eq] at h
    simp only [memWrite]
    split
    · rename_i hlt
      have hne : c.1 ≠ a := by omega
      simp only [memRead, if_neg hne]
      exact ih (c.1 + 1) h.2
    · split
      · rename_i _ heq
        exact memRead_memInsert_self a b m (memRead_below a (c.1 + 1) m h.2 (by omega))
      · rename_i hlt hne
        refine memRead_memInsert_self a b (c :: m) (memRead_below a c.1 (c :: m) ?_ (by omega))
        simp [risingFrom, h.2]

/-- A write leaves the byte at every other address alone. -/
theorem memRead_memWrite_other (a c : Nat) (b : Byte) (m : List Host.Cell) (h : c ≠ a) :
    memRead (memWrite m a b) c = memRead m c := by
  induction m with
  | nil => exact memRead_memInsert_other a c b [] h
  | cons d m ih =>
    simp only [memWrite]
    split
    · simp only [memRead, ih]
    · split
      · rename_i _ heq
        have hne : d.1 ≠ c := by omega
        rw [memRead_memInsert_other a c b m h]
        simp only [memRead, if_neg hne]
      · exact memRead_memInsert_other a c b (d :: m) h

/-! ### The canonical form -/

theorem risingFrom_le (lo hi : Nat) (m : List Host.Cell) (h : risingFrom hi m = true) (hl : lo ≤ hi) :
    risingFrom lo m = true := by
  cases m with
  | nil => rfl
  | cons c m =>
    simp only [risingFrom, Bool.and_eq_true, decide_eq_true_eq] at h ⊢
    exact ⟨by omega, h.2⟩

theorem risingFrom_memWrite (lo a : Nat) (b : Byte) (m : List Host.Cell) (h : risingFrom lo m = true) (ha : lo ≤ a) :
    risingFrom lo (memWrite m a b) = true := by
  induction m generalizing lo with
  | nil =>
    simp only [memWrite, memInsert]
    split <;> simp [risingFrom, ha]
  | cons c m ih =>
    simp only [risingFrom, Bool.and_eq_true, decide_eq_true_eq] at h
    simp only [memWrite]
    split
    · rename_i hlt
      simp only [risingFrom, Bool.and_eq_true, decide_eq_true_eq]
      exact ⟨h.1, ih (c.1 + 1) h.2 (by omega)⟩
    · split
      · rename_i _ heq
        simp only [memInsert]
        split
        · exact risingFrom_le lo (c.1 + 1) m h.2 (by omega)
        · simp only [risingFrom, Bool.and_eq_true, decide_eq_true_eq]
          exact ⟨ha, heq ▸ h.2⟩
      · rename_i hlt hne
        simp only [memInsert]
        split
        · simp only [risingFrom, Bool.and_eq_true, decide_eq_true_eq]
          exact h
        · simp only [risingFrom, Bool.and_eq_true, decide_eq_true_eq]
          exact ⟨ha, by omega, h.2⟩

theorem mem_of_mem_memInsert {x : Host.Cell} {a : Nat} {b : Byte} {m : List Host.Cell} (h : x ∈ memInsert a b m) :
    x ∈ m ∨ (x = (a, b) ∧ b ≠ unwrittenByte) := by
  unfold memInsert at h
  split at h
  · exact .inl h
  · rename_i hb
    rcases List.mem_cons.1 h with h | h
    · exact .inr ⟨h, hb⟩
    · exact .inl h

theorem mem_of_mem_memWrite {x : Host.Cell} {a : Nat} {b : Byte} {m : List Host.Cell} (h : x ∈ memWrite m a b) :
    x ∈ m ∨ (x = (a, b) ∧ b ≠ unwrittenByte) := by
  induction m with
  | nil => exact mem_of_mem_memInsert h
  | cons c m ih =>
    simp only [memWrite] at h
    split at h
    · rcases List.mem_cons.1 h with h | h
      · exact .inl (h ▸ List.mem_cons_self)
      · exact (ih h).imp_left (List.mem_cons_of_mem _)
    · split at h
      · exact (mem_of_mem_memInsert h).imp_left (List.mem_cons_of_mem _)
      · exact mem_of_mem_memInsert h

/-- A write to an address of the EEPROM keeps the canonical form. -/
theorem memWf_memWrite {a : Nat} {b : Byte} {m : List Host.Cell} (h : memWf m = true) (ha : a < 512) :
    memWf (memWrite m a b) = true := by
  simp only [memWf, Bool.and_eq_true, List.all_eq_true, decide_eq_true_eq, bne_iff_ne] at h ⊢
  refine ⟨risingFrom_memWrite 0 a b m h.1 (Nat.zero_le a), fun x hx => ?_⟩
  rcases mem_of_mem_memWrite hx with hx | ⟨rfl, hb⟩
  · exact h.2 x hx
  · exact ⟨ha, hb⟩

/-- Writes to addresses of the EEPROM keep the canonical form. -/
theorem memWf_memWriteAll {m cells : List Host.Cell} (h : memWf m = true) (hc : ∀ c ∈ cells, c.1 < 512) :
    memWf (memWriteAll m cells) = true := by
  induction cells generalizing m with
  | nil => exact h
  | cons c cells ih =>
    exact ih (memWf_memWrite h (hc c List.mem_cons_self)) (fun d hd => hc d (List.mem_cons_of_mem _ hd))

/-- Writes leave the byte at an address that none of them names alone. -/
theorem memRead_memWriteAll_other {m cells : List Host.Cell} {a : Nat} (h : ∀ c ∈ cells, c.1 ≠ a) :
    memRead (memWriteAll m cells) a = memRead m a := by
  induction cells generalizing m with
  | nil => rfl
  | cons c cells ih =>
    have h1 := ih (m := memWrite m c.1 c.2) (fun d hd => h d (List.mem_cons_of_mem _ hd))
    exact h1.trans (memRead_memWrite_other c.1 a c.2 m (Ne.symm (h c List.mem_cons_self)))

/-- Two memories in canonical form that read alike are equal. -/
theorem memRead_ext {m n : List Host.Cell} {lo : Nat} (hm : risingFrom lo m = true) (hn : risingFrom lo n = true)
    (zm : ∀ c ∈ m, c.2 ≠ unwrittenByte) (zn : ∀ c ∈ n, c.2 ≠ unwrittenByte) (h : ∀ a, memRead m a = memRead n a) : m = n := by
  induction m generalizing n lo with
  | nil =>
    cases n with
    | nil => rfl
    | cons d n =>
      have := h d.1
      simp only [memRead, if_true] at this
      exact absurd this.symm (zn d List.mem_cons_self)
  | cons c m ih =>
    cases n with
    | nil =>
      have := h c.1
      simp only [memRead, if_true] at this
      exact absurd this (zm c List.mem_cons_self)
    | cons d n =>
      simp only [risingFrom, Bool.and_eq_true, decide_eq_true_eq] at hm hn
      have hcd : c.1 = d.1 := by
        rcases Nat.lt_trichotomy c.1 d.1 with hlt | heq | hlt
        · have := h c.1
          rw [memRead_below c.1 d.1 (d :: n) (by simp [risingFrom, hn.2]) hlt] at this
          simp only [memRead, if_true] at this
          exact absurd this (zm c List.mem_cons_self)
        · exact heq
        · have := h d.1
          rw [memRead_below d.1 c.1 (c :: m) (by simp [risingFrom, hm.2]) hlt] at this
          simp only [memRead, if_true] at this
          exact absurd this.symm (zn d List.mem_cons_self)
      have hb : c.2 = d.2 := by
        have := h c.1
        simpa only [memRead, if_true, hcd] using this
      have hrest : m = n := by
        refine ih hm.2 (hcd ▸ hn.2) (fun x hx => zm x (List.mem_cons_of_mem _ hx))
          (fun x hx => zn x (List.mem_cons_of_mem _ hx)) (fun a => ?_)
        rcases Nat.lt_or_ge c.1 a with hlt | hle
        · have := h a
          simpa only [memRead, if_neg (show ¬c.1 = a by omega), if_neg (show ¬d.1 = a by omega)] using this
        · rw [memRead_below a (c.1 + 1) m hm.2 (by omega), memRead_below a (d.1 + 1) n hn.2 (by omega)]
      exact List.cons_eq_cons.2 ⟨Prod.ext hcd hb, hrest⟩

/-! ### The forms at reset -/

theorem reset_memWf : memWf State.reset.eeprom = true := rfl

theorem reset_flashWf : flashWf State.reset.flash = true := rfl

end Sys2Proof.Machine
end

