-- ==== Sys2Proof/WellFormed.lean ====
section
/-! DEFINITION. Which commands can be written at all: a payload is a whole number of 2-byte words, at most fifteen (R4, R5),
a member is a station (00_scope.md, Station IDs), a byte reported wrong lies in the EEPROM (R166). -/

namespace Sys2Proof

/-- A payload is 0 to 15 words of two bytes (section 1.2). -/
def payloadFits (payload : List Byte) : Bool :=
  payload.length % 2 == 0 && payload.length ≤ 30

/-- A station ID is 1..3999 (00_scope.md, Station IDs). -/
def isStation (n : Nat) : Bool := 1 ≤ n && n ≤ 3999

/-- The checks of a command's operands. -/
def Instr.wellFormed : Instr → Bool
  | .headerComplete _ _ _ => true
  | .throttleFrame p _ => payloadFits p
  | .consistFrame p _ => payloadFits p
  | .beaconFrame p _ => payloadFits p
  | .locoFrame p _ => payloadFits p
  | .serviceWrite p _ => payloadFits p
  | .serviceClearFaults p _ => payloadFits p
  | .serviceRestart p _ _ => payloadFits p
  | .linkWindowExpires _ => true
  | .peerAgeingStep => true
  | .dwellExpires => true
  | .failsafeHoldExpires => true
  | .graceTimerExpires m => isStation m
  | .lfsrSeedTaken _ => true
  | .holdoffExpires => true
  | .reportPeriodDue => true
  | .clearChannelCheck => true
  | .ccaComplete _ _ => true
  | .backoffExpires => true
  | .transmissionEnd => true
  | .creditAccrual => true
  | .occupancySample _ => true
  | .controlPeriod => true
  | .drivePhaseEnd _ => true
  | .overcurrentTrip _ => true
  | .coolEnds _ => true
  | .tripDecayExpires => true
  | .stallDetected => true
  | .bemfSample _ => true
  | .wheelSensorEdge _ => true
  | .camWindowExpires => true
  | .lookupComplete => true
  | .refillComplete => true
  | .soundSampleEvent => true
  | .valveTimerExpires => true
  | .thermostatTick _ => true
  | .standstillTimerExpires => true
  | .fanBurstEnds => true
  | .flareEnds => true
  | .flickerLfsrStep => true
  | .ditchPhaseToggle => true
  | .fadeStep _ => true
  | .blinkPhaseEnd _ => true
  | .supplyEvaluation _ _ => true
  | .supplyLoss _ _ => true
  | .supplyReturn _ _ => true
  | .bridgingTimerExpires => true
  | .normalHoldExpires => true
  | .brownOut _ => true
  | .powerOn _ => true
  | .entryTestPassed _ _ => true
  | .pageWriteComplete _ wrong _ => wrong.all fun c => c.1 < 512
  | .undefinedKindFrame p _ => payloadFits p
  | .serviceOtherOp p _ => payloadFits p
  | .strobePhaseAdvance _ => true

end Sys2Proof
end

