-- ==== Sys2Proof/Tests/Slice0.lean ====
section
/-! SUPPORT. The model's own tests: refusals of ill-formed commands, the manual's worked numbers, one step of a command on a small state,
and for every statement with premises a state that meets them. Expected values are the manual's (section named at each test). -/

namespace Sys2Proof.Tests

set_option Elab.async false

open Sys2Proof Sys2Proof.Machine

/-! ### Helpers -/

/-- The state a command answers. -/
def after (c : Instr) (s : State) : State :=
  match exec c s with
  | .next t => t
  | .fault _ => s
  | .refused _ => s

/-- A header of the layout 0. -/
def header (kind source words dest code : Nat) : HeaderBytes :=
  let h : HeaderBytes :=
    { b0 := toByte (16 * kind)
      b1 := toByte (source / 16)
      b2 := toByte (source % 16 * 16 + words)
      b3 := toByte (dest / 16)
      b4 := toByte (dest % 16 * 16 + code)
      b5 := 0#8 }
  { h with b5 := headerCheck h }

/-- Six equal level samples. -/
def levels (n : Int) : Levels := { l0 := n, l1 := n, l2 := n, l3 := n, l4 := n, l5 := n }

/-- A collected header, its samples at 74 above the floor. -/
def heard (kind source words dest : Nat) : Collected := { bytes := header kind source words dest 2, levels := levels 74 }

/-- The CRC of a frame. -/
def crcOf (h : Collected) (payload : List Byte) : BitVec 16 := crc16 (headerList h.bytes ++ payload)

/-- A state with a header in collection. -/
def hearing (h : Collected) (s : State) : State := s.onRxc fun r => { r with collecting := some h }

/-- The reset state with an idle flash port and a channel estimate of 12, for states of a test to start from. -/
def base : State := (State.reset.onSnd fun d => { d with port := .idle }).onRxc fun r => { r with estimate := some 12 }

/-- DRIVER bound to throttle 17 and at the head, at a step. -/
def driven (step : Nat) : State :=
  (base.onAut fun a =>
    { a with
      driver := { claimed := true, source := some 17, started := true }
      driverLive := { step := step } }).onRxc fun r => { r with driverLink := { source := some 17 } }

/-- FAILSAFE at the head for causes. -/
def underFailsafe (k : CauseSet) (hold : Option Nat) (s : State) : State :=
  s.onAut fun a => { a with failsafe := { claimed := true, started := true }, causes := k, hold := hold }

/-- DRIVER bound, its link's age standing at a value. -/
def lapsing (age : Nat) : State := (driven 5).onRxc fun r => { r with driverLink := { r.driverLink with age := age } }

/-- A membership of consist 4010. -/
def listed (ids : List Nat) : Membership := { consistId := 4010, members := ids.map fun n => { id := n, reversed := false } }

/-- Locomotive 3 as a follower of locomotive 8, CONSIST at the head. -/
def following : State :=
  ((base.onCsu fun c => { c with record := some (listed [8, 3]) }).onAut fun a =>
    { a with consist := { claimed := true, source := some 8, started := true } }).onRxc fun r =>
    { r with leadLink := { source := some 8 } }

/-- Locomotive 3 as the lead of locomotive 8, whose grace timer is in its last ms. -/
def leading : State :=
  base.onCsu fun c => { c with record := some (listed [3, 8]), watches := [{ member := 8, grace := some 1 }] }

/-- A throttle payload: step and direction, flags, F0 and F3. -/
def throttlePayload (first flags : Byte) : List Byte := [first, flags, 0, 0, 0, 9]

/-- A consist payload of consist 4010 and members with FORWARD orientation. -/
def consistPayload (ids : List Nat) : List Byte := bytes16 (4010 * 16 + ids.length) ++ ids.flatMap fun n => bytes16 (n * 16)

/-- A beacon payload: section 12, next section 13. -/
def beaconPayload (kind aspect limit dwell flags : Nat) : List Byte :=
  bytes16 (12 * 16 + kind) ++ bytes16 (13 * 16 + aspect) ++ [toByte limit, toByte dwell, toByte flags, 0]

/-- A LOCO payload: section 13, next 14, level DRIVER, forward, reference speed 200. -/
def locoPayload : List Byte :=
  bytes16 (13 * 16) ++ bytes16 (14 * 16 + 7) ++ bytes16 (200 * 64) ++ bytes16 0 ++ bytes16 (7 * 2)
    ++ [0, 0, 0, 0, 0, 0, 0, 0]

/-- The WRITE of V_max of section 12.3's worked example. -/
def writePayload : List Byte := [1, 0, 38, 2, 3, 32]

/-- SIGNAL at the head, its stop reached, its dwell running. -/
def dwelling (waitClear : Bool) : State :=
  base.onAut fun a =>
    { a with
      signal := { claimed := true, source := some 202, started := true }
      signalLive := { reached := true, dwell := some 1, waitClear := waitClear } }

/-- A locomotive at near-full duty that does not turn, one period before the stall. -/
def stalling : State :=
  ((driven 126).onSpr fun r => { r with ref := 4000, stopped := false }).onMrg fun m =>
    { m with integral := 64000, duty := 900, stallRun := 499 }

/-- A part whose chuffs come from the wheel sensor. -/
def cam : State := base.onCfg fun c => { c with image := { c.image with chuff := { c.image.chuff with source := .cam } } }

/-- A voice with its first refill in flight: a one-shot of four samples. -/
def loadingVoice : State :=
  { base with
    snd :=
      { port := .refill 0 0 4
        voices :=
          [{ state := .loading, owner := some .chuff, prio := 1, clip := { start := 16, length := 4, gain := 255 }, order := 1 },
            {}, {}, {}, {}, {}] }
    flash := [(16, 1), (17, 2), (18, 3), (19, 4)] }

/-- The write of V_max in flight, on a page. -/
def writingState (page : Nat) : State :=
  base.onCfg fun c => { c with writing := some (writingPage [] 38 2 [3, 32] page []) }

/-- A report waits for credit, and counter A counts the ms. -/
def waitingForCredit : State :=
  (base.onRpt fun r => { r with activity := .ready, due := true, credit := 2639 }).onCfg fun c =>
    { c with image := { c.image with counterA := { c.image.counterA with event := 4 } } }

/-! ### Well-formedness: each check refuses an ill-formed command -/

theorem test_odd_payload_refused : (Instr.throttleFrame [1, 2, 3] 0).wellFormed = false := by decide
theorem test_long_payload_refused : (Instr.locoFrame (List.replicate 32 0) 0).wellFormed = false := by decide
theorem test_consist_payload_refused : (Instr.consistFrame [1] 0).wellFormed = false := by decide
theorem test_beacon_payload_refused : (Instr.beaconFrame [1] 0).wellFormed = false := by decide
theorem test_write_payload_refused : (Instr.serviceWrite [1] 0).wellFormed = false := by decide
theorem test_clear_payload_refused : (Instr.serviceClearFaults [1] 0).wellFormed = false := by decide
theorem test_restart_payload_refused : (Instr.serviceRestart [1] 0 true).wellFormed = false := by decide
theorem test_other_op_payload_refused : (Instr.serviceOtherOp [1] 0).wellFormed = false := by decide
theorem test_undefined_kind_payload_refused : (Instr.undefinedKindFrame [1] 0).wellFormed = false := by decide
theorem test_member_zero_refused : (Instr.graceTimerExpires 0).wellFormed = false := by decide
theorem test_member_4000_refused : (Instr.graceTimerExpires 4000).wellFormed = false := by decide
theorem test_wrong_address_refused : (Instr.pageWriteComplete true [(512, 1)] true).wellFormed = false := by decide
theorem test_throttle_payload_accepted : (Instr.throttleFrame (throttlePayload 0xFF 0) 0).wellFormed = true := by decide
theorem test_member_3999_accepted : (Instr.graceTimerExpires 3999).wellFormed = true := by decide
theorem test_decode_none : decodeTableWord 8 5 = none := rfl
theorem test_withFetchWord_same : State.reset.withFetchWord 8 5 = State.reset := rfl

/-! ### The manual's worked numbers -/

/-- Chapter 1, worked example: the header's bytes and its check. -/
theorem test_header_bytes : headerList (header 1 17 3 3 2) = [0x10, 0x01, 0x13, 0x00, 0x32, 0x6A] := by decide
/-- CRC-16 with 0x1021 and 0xFFFF of the nine digits: the check value of this CRC in the general literature. -/
theorem test_crc : crc16 [0x31, 0x32, 0x33, 0x34, 0x35, 0x36, 0x37, 0x38, 0x39] = 0x29B1#16 := by decide +kernel
/-- R26: an odd value is XORed with 0xB400. -/
theorem test_lfsr : lfsrStep 0xACE1#16 = 0xE270#16 ∧ lfsrStep 0xE270#16 = 0x7138#16 := by decide
/-- R91: stored knots 40, 90, 85, 120 are used as 40, 90, 90, 120. -/
theorem test_knots_repaired : risingKnots 0 [40, 90, 85, 120] = [40, 90, 90, 120] := by decide
/-- Chapter 6, worked example: curve(40) is 262 and curve(30) is 207. -/
theorem test_curve :
    curve [40, 90, 140, 190, 240, 290, 340, 400, 460, 520, 590, 660, 740, 820, 900] 40 = 262
      ∧ curve [40, 90, 140, 190, 240, 290, 340, 400, 460, 520, 590, 660, 740, 820, 900] 30 = 207 := by decide
/-- Chapter 6, worked example: the ramp's steps, the last of them 4. -/
theorem test_ramp : rampStep 2400 3312 (some 12) 16 = 2412 ∧ rampStep 4188 4192 (some 12) 16 = 4192 ∧ rampStep 4192 0 (some 12) 16 = 4176 := by
  decide
/-- Chapter 7, worked example: integral and duty of two periods. -/
theorem test_law :
    piLaw { defaultImage.traction with bemfCal := 300 } 900 2412 153 2000 = { integral := 1988, duty := 146 }
      ∧ piLaw defaultImage.traction 900 2424 156 1988 = { integral := 1968, duty := 144 } := by decide +kernel
/-- Chapter 7, a period near rest: the integral is kept and the duty is 0. -/
theorem test_law_near_rest : piLaw defaultImage.traction 900 0 10 0 = { integral := 0, duty := 0 } := by decide +kernel
/-- Chapter 9, examples of R141. -/
theorem test_chuff_gain :
    chuffGain defaultImage.sound 146 = 83 ∧ chuffGain defaultImage.sound 300 = 160 ∧ chuffGain defaultImage.sound 0 = 64
      ∧ chuffGain defaultImage.sound 810 = 255 := by decide +kernel
/-- Chapter 8, worked example: an image whose entries F1, F2 and F3 are the bell, the whistle and the cylinder cocks. -/
def sounding : Image :=
  { defaultImage with
    funcMap :=
      [ defaultMapEntry, { defaultMapEntry with action := .sound, group := 5, prio := 3 },
        { defaultMapEntry with action := .sound, mode := .rise, scope := .leadOnly, group := 6, index := 2, prio := 6 },
        { defaultMapEntry with action := .sound, mode := .both, group := 7, prio := 2 } ] ++ List.replicate 28 defaultMapEntry }
theorem test_functions_second_frame :
    functionAsks sounding .none 0b10010#32 0b11100#32
      = [ .stop (.function 1), .play { hold := false, owner := .function 2, prio := 6, group := 6, index := 2 },
          .play { hold := false, owner := .function 3, prio := 2, group := 7, index := 0 } ] := by decide +kernel
theorem test_functions_third_frame_and_join :
    functionAsks sounding .none 0b11100#32 0x214#32
        = [.play { hold := false, owner := .function 3, prio := 2, group := 7, index := 0 }]
      ∧ functionAsks sounding .follower 0x204#32 0#32 = [] := by decide +kernel
/-- Chapter 10, worked example: 800 reads as 25 and 355 as 225. -/
theorem test_temperature : temperature defaultImage.smoke 800 = 25 ∧ temperature defaultImage.smoke 355 = 225 := by decide +kernel
/-- R168: own ID 0 becomes 1, 4000 becomes 3999, and an event code above 14 becomes 0. -/
theorem test_clamps :
    (clampIdentity { defaultImage.identity with ownId := 0 }).ownId = 1
      ∧ (clampIdentity { defaultImage.identity with ownId := 4000 }).ownId = 3999
      ∧ (clampCounter { defaultCounter with event := 15 }).event = 0 := by decide +kernel
/-- The defaults are the image of a part whose EEPROM holds no image (R167), and their clamps change nothing (R168). -/
theorem test_defaults_clamped : clampImage defaultImage = defaultImage := by decide +kernel
/-- A byte read back is the byte written, another is untouched, and writing an unlisted byte's value removes its entry. -/
theorem test_memory :
    memRead (memWrite [(4, 7)] 9 5) 9 = 5 ∧ memRead (memWrite [(4, 7)] 9 5) 4 = 7 ∧ memWrite [(4, 7)] 4 0 = []
      ∧ memWf (memWrite [(4, 7)] 511 5) = true := by decide

/-! ### One step of a command -/

/-- Chapter 1, worked example: throttle 17's frame binds DRIVER with step 126; the RSSI is the header's mean. -/
theorem test_throttle_binds :
    (after (.throttleFrame (throttlePayload 0xFF 0) (crcOf (heard 1 17 3 3) (throttlePayload 0xFF 0))) (hearing (heard 1 17 3 3) base)).head = .driver
      ∧ (after (.throttleFrame (throttlePayload 0xFF 0) (crcOf (heard 1 17 3 3) (throttlePayload 0xFF 0))) (hearing (heard 1 17 3 3) base)).aut.driverLive
          = { funcs := 9, step := 126, dir := .forward, zeroLock := true } := by decide +kernel
/-- R65: EMERGENCY of the bound throttle sets the reference to 0 and zero-lock. -/
theorem test_emergency :
    (after (.throttleFrame (throttlePayload 0x85 0x80) (crcOf (heard 1 17 3 3) (throttlePayload 0x85 0x80)))
        (hearing (heard 1 17 3 3) ((driven 5).onSpr fun r => { r with ref := 400, stopped := false }))).spr.ref = 0 := by decide +kernel
/-- A DRIVER not yet STOPPED with a membership in the slot that makes it the lead of locomotive 8, which reports FAILSAFE. -/
def joiningAsLead : State :=
  { (driven 5).onSpr fun r => { r with ref := 400, stopped := false } with
    csu := { (driven 5).csu with slot := .holds (some (listed [3, 8])) }
    ptb :=
      { entries :=
          some { stale := false, station := 8, role := .loco, age := 40, period := some 100,
                 record := some { sect := 0, level := 0, consistId := 4010 } } :: List.replicate 15 none } }
/-- R73, R76, R83: the stop applies the slot and MEMBER claims FAILSAFE in the event; the reverse DRIVER asked for stays requested. -/
theorem test_emergency_preempted_in_its_event :
    let t := after (.throttleFrame (throttlePayload 0x05 0x80) (crcOf (heard 1 17 3 3) (throttlePayload 0x05 0x80)))
      (hearing (heard 1 17 3 3) joiningAsLead)
    t.head = .failsafe ∧ t.aut.requested = .reverse ∧ t.csu.slot = .empty := by decide +kernel
/-- Chapter 3, worked example: beacon 201 at 74 shows APPROACH with limit step 30; it is passed and does not claim. -/
theorem test_beacon_passed :
    (after (.beaconFrame (beaconPayload 1 1 30 0 2) (crcOf (heard 3 201 4 4095) (beaconPayload 1 1 30 0 2)))
        (hearing (heard 3 201 4 4095) base)).tkm.signalLimit = some 30 := by decide +kernel
/-- R45: a STATION beacon with STOP claims SIGNAL with its dwell. -/
theorem test_station_claims :
    (after (.beaconFrame (beaconPayload 2 3 15 20 0) (crcOf (heard 3 202 4 4095) (beaconPayload 2 3 15 20 0)))
        (hearing (heard 3 202 4 4095) (base.onSpr fun r => { r with stopped := false }))).aut.signalLive
      = { reached := false, dwell := some 20000, waitClear := true } := by decide +kernel
/-- R52: a claim below FAILSAFE sets SIGNAL's live data, and its saved part is written from it. -/
theorem test_station_claims_below_failsafe :
    let t := after (.beaconFrame (beaconPayload 2 3 15 20 0) (crcOf (heard 3 202 4 4095) (beaconPayload 2 3 15 20 0)))
      (hearing (heard 3 202 4 4095) (underFailsafe { supply := true } none base))
    t.head = .failsafe ∧ t.aut.signalLive = { reached := false, dwell := some 20000, waitClear := true }
      ∧ t.aut.signal.saved.stop = t.aut.signalLive := by decide +kernel
/-- R78: a standing locomotive joins behind its lead. -/
theorem test_consist_joined :
    (after (.consistFrame (consistPayload [8, 3]) (crcOf (heard 2 30 3 4010) (consistPayload [8, 3]))) (hearing (heard 2 30 3 4010) base)).head
      = .consist := by decide +kernel
/-- R81: the lead's report sets the follow speed. -/
theorem test_lead_followed :
    (after (.locoFrame locoPayload (crcOf (heard 4 8 9 4095) locoPayload)) (hearing (heard 4 8 9 4095) following)).target = .speed 200 := by
  decide +kernel
/-- Chapter 12, worked example: the write of V_max begins with page 32-47. -/
theorem test_write_begins :
    ((after (.serviceWrite writePayload (crcOf (heard 5 30 3 3) writePayload)) (hearing (heard 5 30 3 3) base)).cfg.writing.map
        fun w => (w.page, w.inFlight)) = some (2, [(38, 3), (39, 32)]) := by decide +kernel
/-- R170: an op other than 1, 2 and 3 is answered REFUSED_OP. -/
theorem test_other_op :
    (after (.serviceOtherOp [9, 0, 0, 0] (crcOf (heard 5 30 2 3) [9, 0, 0, 0])) (hearing (heard 5 30 2 3) base)).cfg.status = .refusedOp := by
  decide +kernel
/-- R172: CLEAR_FAULTS clears the latches. -/
theorem test_clear_faults :
    (after (.serviceClearFaults [2, 0, 0, 0] (crcOf (heard 5 30 2 3) [2, 0, 0, 0]))
        (hearing (heard 5 30 2 3) (base.onCfg fun c => { c with overtemp := true }))).cfg.overtemp = false := by decide +kernel
/-- R173: RESTART begins the start sequence. -/
theorem test_restart :
    (after (.serviceRestart [3, 0, 0, 0] (crcOf (heard 5 30 2 3) [3, 0, 0, 0]) false) (hearing (heard 5 30 2 3) base)).power = .starting := by
  decide +kernel
/-- R7: a frame of kind 9 is dropped and counted. -/
theorem test_undefined_kind :
    (after (.undefinedKindFrame [] (crcOf (heard 9 30 0 3) [])) (hearing (heard 9 30 0 3) base)).rxc.dropped = 1 := by decide +kernel
/-- Chapter 1: a source of 4000 fails the HEADER test. -/
theorem test_header_dropped : (after (.headerComplete 0 (header 1 4000 3 3 2) (levels 5)) base).rxc.dropped = 1 := by decide +kernel
/-- R18: the window's expiry puts LINK_LOST into the set; R17: a frame that cleared the age first keeps it out. -/
theorem test_link_lost :
    (after (.linkWindowExpires .driver) (lapsing 1999)).head = .failsafe ∧ (after (.linkWindowExpires .driver) (lapsing 0)).head = .driver := by
  decide +kernel
/-- Chapter 3: an entry with a period of 250 ms goes STALE at 1010 ms, not at 1000 ms. -/
theorem test_ageing :
    (agedPeer { stale := false, station := 51, role := .loco, age := 1000, period := some 250, record := none }).stale = true
      ∧ (agedPeer { stale := false, station := 51, role := .loco, age := 990, period := some 250, record := none }).stale = false := by decide
/-- R68, R69: a STALL that enters and leaves the set in one event starts the hold again, and the old hold's expiry does not happen. -/
theorem test_hold_started_again :
    let held := underFailsafe {} (some 1) (stalling.onAut fun a => { a with driver := { a.driver with saved := { zeroLock := true } } })
    (after .stallDetected held).aut.hold = some 1000 ∧ (after .failsafeHoldExpires (after .stallDetected held)).head = .failsafe
      ∧ (after .failsafeHoldExpires held).head = .driver := by decide +kernel
/-- R68, R64: the hold's end gives DRIVER back under zero-lock. -/
theorem test_hold_expires :
    (after .failsafeHoldExpires (underFailsafe {} (some 1) (driven 5))).aut.driverLive.zeroLock = true := by decide +kernel
/-- R82: the lead's member without an entry is missing once its grace timer has expired. -/
theorem test_grace : (after (.graceTimerExpires 8) leading).aut.causes.member = true := by decide +kernel
/-- R23: channel estimate 12 and own ID 3 seed the register with 0xC003, which steps to 0xD401; 54273 mod 501 is 165. -/
theorem test_seed : (after (.lfsrSeedTaken 12) base).rpt.holdoffLeft = some 165 := by decide +kernel
/-- Chapter 2, worked example: a start costs 2640 µs of credit. -/
theorem test_report_credit :
    (after (.ccaComplete 5 12) (base.onRpt fun r => { r with activity := .checking, credit := 50000 })).rpt.credit = 47360 := by decide +kernel
/-- Chapter 2, worked example: an estimate of 41 against a threshold of 30 is a busy channel. -/
theorem test_busy :
    (after (.ccaComplete 5 41) (base.onRpt fun r => { r with activity := .checking, credit := 50000 })).rpt.activity = .backingOff := by
  decide +kernel
/-- R29: the credit is capped at 50,000 µs. -/
theorem test_credit_cap : (after .creditAccrual (base.onRpt fun r => { r with credit := 49960 })).rpt.credit = 50000 := by decide +kernel
/-- R94: a live zero-lock refuses the rise. -/
theorem test_zero_lock_holds :
    (after .controlPeriod ((driven 40).onAut fun a => { a with driverLive := { a.driverLive with zeroLock := true } })).spr.ref = 0 := by
  decide +kernel
/-- R93: NORMAL's default rate is 8 in a period. -/
theorem test_ramp_begins : (after .controlPeriod (driven 40)).spr.ref = 8 := by decide +kernel
/-- Chapter 7, worked example: w 600, C 300, raw 140 give w 614 and y 153. -/
theorem test_bemf :
    (((driven 40).onCfg fun c => { c with image := { c.image with traction := { c.image.traction with bemfCal := 300 } } }).onMrg
        fun m => { m with w := 600, y := 150 }).image.traction.bemfCal = 300
      ∧ (after (.bemfSample 140)
          (((driven 40).onCfg fun c => { c with image := { c.image with traction := { c.image.traction with bemfCal := 300 } } }).onMrg
            fun m => { m with w := 600, y := 150 })).mrg.y = 153 := by decide +kernel
/-- Chapter 8, worked example: 65,400 and 600 wrap to 464, and the chuff is counted. -/
theorem test_chuff :
    (after (.bemfSample 150)
        (((driven 40).onMrg fun m => { m with w := 600, y := 150 }).onChg fun c => { c with phase := 65400 })).chg.count = 1 := by
  decide +kernel
/-- Chapter 7, worked example: the third high phase trips, and the bridge rests for 25 periods. -/
theorem test_trip :
    (after (.overcurrentTrip 2600) ((driven 40).onMrg fun m => { m with active := true, overRun := 2 })).mrg.cool = 25 := by decide +kernel
/-- R113: the fourth trip latches. -/
theorem test_latch :
    (after (.overcurrentTrip 2600) ((driven 40).onMrg fun m => { m with active := true, overRun := 2, tripCount := 3 })).cfg.overcurrent = true := by
  decide +kernel
/-- Chapter 9, worked example: a chuff of sample 100 and gain 200, a bell of sample -50 and gain 255, at duty 146, give -77; in a QUIET
zone -39. -/
def mixing (quiet : Bool) : State :=
  ((base.onSnd fun d =>
    { d with
      voices :=
        [ { state := .playing, owner := some (.function 1), clip := { gain := 255 }, buffer := [0xCE#8] },
          { state := .playing, owner := some .chuff, clip := { gain := 200 }, buffer := [100#8] }, {}, {}, {}, {} ] }).onMrg
      fun m => { m with duty := 146 }).onTkm fun t => { t with quiet := quiet }
theorem test_mixer : (after .soundSampleEvent (mixing false)).snd.output = -77 := by decide +kernel
theorem test_mixer_quiet : (after .soundSampleEvent (mixing true)).snd.output = -39 := by decide +kernel
/-- R147, R148: with the defaults 77 is 25 + floor(-723 · 225 / -500) = 350 °C, which latches, and 78 is 349 °C, which does not. -/
theorem test_overtemp :
    (after (.thermostatTick 77) base).cfg.overtemp = true ∧ (after (.thermostatTick 78) base).cfg.overtemp = false := by decide +kernel
/-- Chapter 11, worked example: the second low sample with the store at 110 is BRIDGING for 1500 ms. -/
theorem test_bridging :
    (after (.supplyLoss 8 110) (base.onSup fun u => { u with low := 1 })).sup.bridging = some 1500 := by decide +kernel
/-- Chapter 11, worked example: the store at 63 depletes the part. -/
theorem test_depleted :
    (after (.supplyEvaluation 7 63) (base.onSup fun u => { u with state := .bridging, bridging := some 9 })).sup.state = .depleted := by
  decide +kernel
/-- R165, R167: the tenth good evaluation completes the start, with PARKED at the head. -/
theorem test_start_completes :
    (after (.entryTestPassed 76 0) { base with power := .starting, sup := { entryRun := 9 } }).power = .running := by decide +kernel
/-- R156: 600 ms of fade count is one step each 31.25 ms. -/
theorem test_fade : ((after (.fadeStep 0) (base.onLamp 0 fun l => { l with lit := true, fade := 7, fadeAge := 249000 })).lamp 0).fade = 8 := by decide +kernel
/-- R157: the end of the second OFF ends a blink of one. -/
theorem test_blink :
    ((after (.blinkPhaseEnd 0) (base.onLamp 0 fun l => { l with blink := some { count := 1, on := false, left := 1 } })).lamp 0).blink
      = none := by decide +kernel
/-- R142: the startup sound is SYSTEM's one-shot of group 4, index 1. -/
theorem test_startup_sound : State.reset.snd.port = .lookup (startupTrigger 5) false := rfl
/-- R129: an empty group's lookup finds nothing, and the port goes idle. -/
theorem test_lookup_empty_group :
    (after .lookupComplete
        { base with snd := { port := .lookup (startupTrigger 5) false }, flash := [(16, 0), (17, 0), (18, 0), (19, 0)] }).snd.port = .idle := by decide +kernel

/-- R72: the dwell's end releases SIGNAL. -/
theorem test_dwell_ends : (after .dwellExpires (dwelling false)).head = .parked := by decide +kernel
/-- R23: at the holdoff's end a report is due. -/
theorem test_holdoff_ends : (after .holdoffExpires (base.onRpt fun r => { r with holdoffLeft := some 1 })).rpt.due = true := by decide +kernel
/-- R28: no period expiry falls inside SENDING, so the spacing from the report on the air stays. -/
theorem test_period_not_due_in_sending :
    let t := after .reportPeriodDue (base.onRpt fun r => { r with activity := .sending, sinceStart := some 2 })
    t.rpt.due = false ∧ t.rpt.sinceStart = some 2 := by decide +kernel
/-- R21: alone and STOPPED the period is 1000 ms. -/
theorem test_period_due : (after .reportPeriodDue (base.onRpt fun r => { r with sinceStart := some 1000 })).rpt.due = true := by decide +kernel
/-- R24: no check begins before 50 ms have passed. -/
theorem test_spacing :
    (after .clearChannelCheck (base.onRpt fun r => { r with activity := .ready, due := true, credit := 2640, sinceStart := some 49 })).rpt.activity
        = .ready
      ∧ (after .clearChannelCheck (base.onRpt fun r => { r with activity := .ready, due := true, credit := 2640, sinceStart := some 50 })).rpt.activity
        = .checking := by decide +kernel
/-- R26: the backoff's end begins the next check. -/
theorem test_backoff_ends : (after .backoffExpires (base.onRpt fun r => { r with activity := .backingOff })).rpt.activity = .checking := by
  decide +kernel
/-- R28: the transmission's end makes the transmitter READY. -/
theorem test_transmission_ends : (after .transmissionEnd (base.onRpt fun r => { r with activity := .sending })).rpt.activity = .ready := by
  decide +kernel
/-- Chapter 7: the fourth phase of a quiet motor takes the run back to 0. -/
theorem test_overrun_resets :
    (after (.drivePhaseEnd 2500) ((driven 40).onMrg fun m => { m with active := true, overRun := 2 })).mrg.overRun = 0 := by decide +kernel
/-- R111: COOL ends when its last phase has been counted. -/
theorem test_cool_ends : (after (.coolEnds 0) (base.onMrg fun m => { m with bridge := .cool, cool := 1 })).mrg.cool = 0 := by decide +kernel
/-- R112: the decay timer forgets the trips. -/
theorem test_decay : (after .tripDecayExpires (base.onMrg fun m => { m with tripCount := 3, tripDecay := some 1 })).mrg.tripCount = 0 := by
  decide +kernel
/-- R115: the 500th near-full period without motion is a stall, and FAILSAFE is claimed. -/
theorem test_stall : (after .stallDetected stalling).aut.causes.stall = true ∧ (after .stallDetected stalling).spr.ref = 0 := by decide +kernel
/-- R125: a rise of the sensor is a chuff. -/
theorem test_cam_chuff : (after (.wheelSensorEdge true) cam).chg.count = 1 := by decide +kernel
/-- R125: a level that differs at the window's expiry is taken then. -/
theorem test_cam_window : (after .camWindowExpires (cam.onChg fun c => { c with sensor := true, camWindow := some 1 })).chg.cam = true := by
  decide +kernel
/-- R136: a one-shot's first refill makes its voice PLAYING. -/
theorem test_refill : ((after .refillComplete loadingVoice).voice 0).state = .playing := by decide +kernel
/-- R144: the valve timer starts again with 60 s. -/
theorem test_valve : (after .valveTimerExpires (base.onSnd fun d => { d with valve := some 1 })).snd.valve = some 60000 := by decide +kernel
/-- R149: long standstill takes READY to IDLE_HOLD. -/
theorem test_standstill : (after .standstillTimerExpires (base.onSmk fun k => { k with state := .ready, standstill := some 1 })).smk.state = .idleHold := by
  decide +kernel
/-- R152: a burst's end at rest leaves the fan at F_idle. -/
theorem test_burst_ends :
    (after .fanBurstEnds (base.onSmk fun k => { k with state := .ready, burst := some { duty := 1000, left := 1 } })).smk.fan = 120 := by
  decide +kernel
/-- R156: the flare ends. -/
theorem test_flare : (after .flareEnds (base.onLmp fun u => { u with flare := some 1 })).lmp.flare = none := by decide +kernel
/-- R156: the flicker register's first step is 0xE270. -/
theorem test_flicker : (after .flickerLfsrStep base).lmp.lfsr = 0xE270#16 := by decide +kernel
/-- R156: the ditch phase changes sides. -/
theorem test_ditch : (after .ditchPhaseToggle (base.onLmp fun u => { u with ditchLeft := some 1 })).lmp.ditchRight = true := by decide +kernel
/-- R156: a strobe's lit part ends at 50 ms. -/
theorem test_strobe : ((after (.strobePhaseAdvance 7) (base.onLamp 7 fun l => { l with lit := true, strobe := 49 })).lamp 7).strobe = 50 := by
  decide +kernel
/-- Chapter 11, worked example: the tenth good sample returns the supply to NORMAL, with a hold of 500 ms. -/
theorem test_supply_returns :
    (after (.supplyReturn 81 69) (base.onSup fun u => { u with state := .depleted, high := 9, raised := true })).sup.normalHold = some 500 := by
  decide +kernel
/-- Chapter 11, worked example: the bridging timer's expiry raises SUPPLY. -/
theorem test_bridging_expires :
    (after .bridgingTimerExpires (base.onSup fun u => { u with state := .bridging, bridging := some 1 })).aut.causes.supply = true := by
  decide +kernel
/-- Chapter 11, worked example: the hold's expiry removes SUPPLY, and the FAILSAFE hold of 1000 ms starts. -/
theorem test_normal_hold_expires :
    (after .normalHoldExpires ((underFailsafe { supply := true } none base).onSup fun u => { u with normalHold := some 1, raised := true })).aut.hold
      = some 1000 := by decide +kernel
/-- R165: a brown-out stops the part. -/
theorem test_brown_out : (after (.brownOut 0) (driven 40)).power = .off := by decide +kernel
/-- R167: an EEPROM that does not answer gives the defaults, with CONFIG_INVALID set. -/
theorem test_power_on : (after (.powerOn false) { base with power := .off }).cfg.configInvalid = true := by decide +kernel
/-- Chapter 12, worked example: the data page's end stores its bytes. -/
theorem test_page_stored :
    memRead (after (.pageWriteComplete true [] true) (writingState 2)).eeprom 39 = 32 := by decide +kernel
/-- R32, chapter 2: TX_WAIT_CREDIT counts a ms of waiting for credit. -/
theorem test_occupancy : (after (.occupancySample .everyMs) waitingForCredit).rpt.counterA = 1 := by decide +kernel

/-! ### Witnesses: for every statement with premises, states and operands that meet them together -/

/-- A part at work: a write in flight, peers, a bound throttle, the bridge driving, a voice playing, smoke warming. -/
def atWork : State :=
  { driven 40 with
    ptb := { entries := some { stale := false, station := 17, role := .throttle, age := 40, period := some 100, record := none }
      :: List.replicate 15 none }
    spr := { ref := 2412, stopped := false }
    mrg := { w := 614, y := 153, integral := 1988, duty := 146, bridge := .driveFwd, inDrive := true, active := true }
    snd := mixing false |>.snd
    smk := { state := .warming, heater := true }
    cfg := (writingState 2).cfg }

/-- Where no entry of the map has an action, no state and no held flag set is the function law. -/
theorem functionLaw_of_no_action (s : State)
    (h : s.fnm.last = s.fEff ∧ s.fnm.lastRole = s.role ∧ (∀ n, n < 32 → (mapEntry s.image n).action = .none) ∧ s.fnm.held = 0#32
      ∧ s.fnm.smokeEnable = false ∧ s.fnm.shunting = false ∧ s.fnm.mute = false ∧ s.spr.shunting = false) : FunctionLaw s := by
  obtain ⟨hlast, hrole, hmap, hheld, hsmoke, hshunt, hmute, hspr⟩ := h
  have idle : ∀ n, n < 32 → ∀ on, ¬actionHeld (mapEntry s.image n) s.role on := fun n hn on ha => ha.1 (hmap n hn)
  have none : ∀ a, ¬stateHeld s a := fun a ⟨n, hn, _, ha⟩ => idle n hn _ ha
  exact fun _ =>
    ⟨hlast, hrole, fun n hn => by simp [hheld, idle n hn], by simp [hsmoke, none], by simp [hshunt, none], by simp [hmute, none], by
      rw [hspr, hshunt]⟩

/-- The command that finds the part at work. -/
def working : State := { atWork with pending := [.controlPeriod] }

theorem witness_IdleStep_stopped : ({ base with power := .off } : State).pending = [] ∧ ({ base with power := .off } : State).power ≠ .running := by
  decide +kernel
theorem witness_IdleStep_running :
    (underFailsafe {} (some 2) (driven 5)).pending = [] ∧ (underFailsafe {} (some 2) (driven 5)).power = .running
      ∧ (driven 5).rxc.driverLink.source ≠ none ∧ (driven 5).rxc.driverLink.age + 1 < (driven 5).image.windows.window
      ∧ (underFailsafe {} (some 2) (driven 5)).aut.hold = some 2 := by decide +kernel

theorem witness_TransmitterLaws : (CreditLaw working ∧ HalfDuplexLaw working ∧ EstimateLaw working) ∧ ∃ t, step working = .next t := by
  refine ⟨⟨?_, ?_, by decide +kernel, fun e h => ?_⟩, _, rfl⟩
  · simp only [CreditLaw]
    decide +kernel
  · simp only [HalfDuplexLaw]
    decide +kernel
  · obtain rfl := Option.some.inj h
    decide
theorem witness_MemoryLaw : MemoryLaw working ∧ ∃ t, step working = .next t := by
  refine ⟨⟨by decide +kernel, fun w h => ?_⟩, _, rfl⟩
  obtain rfl := Option.some.inj h
  decide +kernel
theorem witness_TableLaw : TableLaw working ∧ ∃ t, step working = .next t := by
  refine ⟨?_, _, rfl⟩
  simp only [TableLaw]
  decide +kernel
theorem witness_pinned :
    ∃ t, exec .peerAgeingStep atWork = .next t ∧ t.power = .running ∧ atWork.power = .running ∧ atWork.pinned 17 = true
      ∧ (entryOf 17 atWork.ptb.entries).isSome = true := ⟨_, rfl, by decide +kernel⟩
theorem witness_AuthorityLaw : (AuthorityLaw working ∧ FunctionLaw working ∧ LampLaw working) ∧ ∃ t, step working = .next t := by
  refine ⟨⟨?_, functionLaw_of_no_action _ (by decide +kernel), ?_⟩, _, rfl⟩
  · simp only [AuthorityLaw, FailsafeLaw, LinkLaw, ClaimLaw]
    decide +kernel
  · simp only [LampLaw]
    decide +kernel
theorem witness_BridgeLaw : (BridgeLaw working ∧ DutyLaw working) ∧ ∃ t, step working = .next t := by
  refine ⟨?_, _, rfl⟩
  simp only [BridgeLaw, DutyLaw]
  decide +kernel
theorem witness_ImageAndRanges : (ImageLaw working ∧ RangeLaw working) ∧ ∃ t, step working = .next t := by
  refine ⟨?_, _, rfl⟩
  simp only [ImageLaw, RangeLaw]
  decide +kernel
theorem witness_SoundAndHeater : (SoundLaw working ∧ HeaterLaw working) ∧ ∃ t, step working = .next t := by
  refine ⟨?_, _, rfl⟩
  simp only [SoundLaw, HeaterLaw]
  decide +kernel

theorem witness_sending :
    (base.onRpt fun r => { r with activity := .sending }).power = .running
      ∧ (base.onRpt fun r => { r with activity := .sending }).rpt.activity = .sending
      ∧ fromTheAir (.headerComplete 0 (header 1 17 3 3 2) (levels 5)) = true := by decide +kernel
theorem witness_stopped :
    ({ base with power := .off } : State).power = .off ∧ (∀ level, Instr.controlPeriod ≠ .wheelSensorEdge level)
      ∧ ∀ answered, Instr.controlPeriod ≠ .powerOn answered :=
  ⟨rfl, fun _ h => Instr.noConfusion h, fun _ h => Instr.noConfusion h⟩
theorem witness_ReferenceRises : ∃ t, exec .controlPeriod (driven 40) = .next t ∧ (driven 40).spr.ref < t.spr.ref :=
  ⟨_, rfl, by decide +kernel⟩
/-- A standing locomotive whose driver asks for REVERSE. -/
def turning : State := (driven 0).onAut fun a => { a with driverLive := { a.driverLive with dir := .reverse }, requested := .reverse }
theorem witness_DirectionTurns : ∃ t, exec .controlPeriod turning = .next t ∧ t.spr.running ≠ turning.spr.running :=
  ⟨_, rfl, by decide +kernel⟩
theorem witness_DirectionAtBrownOut :
    ∃ t, exec (.brownOut 0) (base.onSpr fun r => { r with running := .reverse }) = .next t ∧ t.spr.running ≠ Direction.reverse :=
  ⟨_, rfl, by decide +kernel⟩
theorem witness_ConfigurationChanges :
    ∃ t, exec (.powerOn false) { cam with power := .off } = .next t ∧ t.cfg.image ≠ cam.cfg.image := ⟨_, rfl, by decide +kernel⟩
/-- A locomotive under the OVERTEMP latch hears CLEAR_FAULTS. -/
def clearing : State := hearing (heard 5 30 2 3) (base.onCfg fun c => { c with overtemp := true })
theorem witness_LatchedFaults :
    ∃ t, exec (.serviceClearFaults [2, 0, 0, 0] (crcOf (heard 5 30 2 3) [2, 0, 0, 0])) clearing = .next t ∧ clearing.power = .running
      ∧ clearing.cfg.overtemp = true ∧ t.cfg.overtemp = false := ⟨_, rfl, by decide +kernel⟩

theorem witness_Report :
    atWork.ownId ≠ 4 ∧ 1 ≤ atWork.ownId ∧ atWork.ownId ≤ 3999 ∧ atWork.image.identity.layout ≤ 15 ∧ atWork.publishedSection ≤ 4095
      ∧ atWork.publishedNext ≤ 4095 ∧ atWork.consistId ≤ 4095 ∧ atWork.spr.ref ≤ 16368 ∧ atWork.mrg.y ≤ 1023
      ∧ following.position = some 1 := by decide +kernel

theorem witness_Header : base.power = .running ∧ base.rpt.activity ≠ .sending ∧ base.rxc.collecting = none := by decide +kernel
theorem witness_Header_other_channel : (1 : Fin 16).val ≠ base.image.identity.channel := by decide +kernel
theorem witness_Header_passes :
    (0 : Fin 16).val = base.image.identity.channel
      ∧ (header 1 3999 3 3 2).b5
          = (header 1 3999 3 3 2).b0 ^^^ (header 1 3999 3 3 2).b1 ^^^ (header 1 3999 3 3 2).b2 ^^^ (header 1 3999 3 3 2).b3
              ^^^ (header 1 3999 3 3 2).b4 ^^^ 0x5A#8
      ∧ headerSource (header 1 3999 3 3 2) ≠ 0 ∧ headerSource (header 1 3999 3 3 2) < 4000
      ∧ ¬(headerKind (header 1 3999 3 3 2) = 4 ∧ headerSource (header 1 3999 3 3 2) = base.ownId) := by decide +kernel
theorem witness_Header_fails :
    ¬(headerSource (header 1 4000 3 3 2) < 4000) ∧ headerSource (header 1 0 3 3 2) = 0
      ∧ (headerKind (header 4 3 9 4095 2) = 4 ∧ headerSource (header 4 3 9 4095 2) = base.ownId) := by decide +kernel

/-- A frame of no words in collection. -/
def emptyFrame (kind : Nat) : State := hearing (heard kind 30 0 3) base
theorem witness_Receive_kinds :
    (emptyFrame 0).power = .running ∧ (emptyFrame 0).rpt.activity ≠ .sending ∧ (emptyFrame 0).rxc.collecting = some (heard 0 30 0 3)
      ∧ ([] : List Byte).length = 2 * headerWords (heard 0 30 0 3).bytes ∧ headerKind (heard 0 30 0 3).bytes < 1
      ∧ (emptyFrame 6).power = .running ∧ (emptyFrame 6).rpt.activity ≠ .sending ∧ (emptyFrame 6).rxc.collecting = some (heard 6 30 0 3)
      ∧ ([] : List Byte).length = 2 * headerWords (heard 6 30 0 3).bytes ∧ 5 < headerKind (heard 6 30 0 3).bytes := by decide +kernel
theorem witness_Receive_drop :
    (hearing (heard 1 17 3 3) base).power = .running ∧ (hearing (heard 1 17 3 3) base).rpt.activity ≠ .sending
      ∧ (hearing (heard 1 17 3 3) base).rxc.collecting = some (heard 1 17 3 3) ∧ (throttlePayload 0 0).length = 2 * headerWords (heard 1 17 3 3).bytes
      ∧ dropReason base.image.identity.layout (heard 1 17 3 3).bytes (throttlePayload 0 0) 0 ≠ none := by decide +kernel
theorem witness_Receive_accept :
    arrives 5 (hearing (heard 5 30 2 3) base) (heard 5 30 2 3) [2, 0, 0, 0] (crcOf (heard 5 30 2 3) [2, 0, 0, 0])
      ∧ ¬(5 = 5 ∧ serviceOp [2, 0, 0, 0] = 3) := by
  simp only [arrives]
  decide +kernel
theorem witness_Receive_accept_first :
    arrives 1 (hearing (heard 1 17 3 3) base) (heard 1 17 3 3) (throttlePayload 0 0) (crcOf (heard 1 17 3 3) (throttlePayload 0 0))
      ∧ ¬(1 = 5 ∧ serviceOp (throttlePayload 0 0) = 3) := by
  simp only [arrives]
  decide +kernel
/-- Both counters select an event. -/
def countingBoth (code : Nat) : State :=
  base.onCfg fun c => { c with image := { c.image with counterA := { event := code, mask := 255, threshold := 0, invert := false }, counterB := { event := code, mask := 0, threshold := 1, invert := true } } }
theorem witness_counted :
    ∀ code ∈ [1, 2, 3, 4, 5, 6, 7, 8, 9, 10, 11, 12, 13, 14],
      (countingBoth code).image.counterA.event = code ∧ (countingBoth code).image.counterB.event = code := by decide +kernel

theorem witness_ThrottleBinds :
    arrives 1 (hearing (heard 1 17 3 3) base) (heard 1 17 3 3) (throttlePayload 0xFF 0) (crcOf (heard 1 17 3 3) (throttlePayload 0xFF 0))
      ∧ headerDest (heard 1 17 3 3).bytes = (hearing (heard 1 17 3 3) base).ownId ∧ (hearing (heard 1 17 3 3) base).head = .parked
      ∧ (throttleData (throttlePayload 0xFF 0)).release = false ∧ (throttleData (throttlePayload 0xFF 0)).emergency = false := by
  simp only [arrives]
  decide +kernel
theorem witness_BoundThrottle :
    arrives 1 (hearing (heard 1 17 3 3) (driven 5)) (heard 1 17 3 3) (throttlePayload 0x80 0) (crcOf (heard 1 17 3 3) (throttlePayload 0x80 0))
      ∧ forDriver (hearing (heard 1 17 3 3) (driven 5)) (heard 1 17 3 3)
      ∧ boundTo (hearing (heard 1 17 3 3) (driven 5)) (headerSource (heard 1 17 3 3).bytes)
      ∧ (throttleData (throttlePayload 0x80 0)).release = false ∧ (throttleData (throttlePayload 0x80 0)).emergency = false
      ∧ (hearing (heard 1 17 3 3) (driven 5)).head = .driver := by
  simp only [arrives, forDriver, boundTo]
  decide +kernel
theorem witness_BoundThrottle_functions :
    (hearing (heard 1 17 3 3) (driven 5)).head = .driver ∧ FunctionLaw (hearing (heard 1 17 3 3) (driven 5)) :=
  ⟨by decide +kernel, functionLaw_of_no_action _ (by decide +kernel)⟩
theorem witness_Contention :
    arrives 1 (hearing (heard 1 22 3 3) (driven 5)) (heard 1 22 3 3) (throttlePayload 0x80 0) (crcOf (heard 1 22 3 3) (throttlePayload 0x80 0))
      ∧ forDriver (hearing (heard 1 22 3 3) (driven 5)) (heard 1 22 3 3) ∧ boundTo (hearing (heard 1 22 3 3) (driven 5)) 17
      ∧ 17 ≠ headerSource (heard 1 22 3 3).bytes ∧ (hearing (heard 1 22 3 3) (driven 5)).rxc.driverLink.state ≠ .lost
      ∧ (hearing (heard 1 22 3 3) (driven 5)).head = .driver := by
  simp only [arrives, forDriver, boundTo]
  decide +kernel
/-- Throttle 22 is heard while the link on throttle 17 is LOST. -/
def rebinding : State :=
  hearing (heard 1 22 3 3)
    ((underFailsafe { linkLost := true } none (driven 5)).onRxc fun r => { r with driverLink := { source := some 17, state := .lost, age := 2000 } })
theorem witness_Rebinding :
    arrives 1 rebinding (heard 1 22 3 3) (throttlePayload 0x80 0) (crcOf (heard 1 22 3 3) (throttlePayload 0x80 0))
      ∧ forDriver rebinding (heard 1 22 3 3) ∧ boundTo rebinding 17 ∧ 17 ≠ headerSource (heard 1 22 3 3).bytes
      ∧ rebinding.rxc.driverLink.state = .lost ∧ rebinding.aut.causes.linkLost = true ∧ rebinding.aut.hold = none
      ∧ (throttleData (throttlePayload 0x80 0)).release = false ∧ (throttleData (throttlePayload 0x80 0)).emergency = false := by
  simp only [arrives, forDriver, boundTo]
  decide +kernel
theorem witness_Release :
    arrives 1 (hearing (heard 1 17 3 3) (driven 5)) (heard 1 17 3 3) (throttlePayload 0x80 0x40) (crcOf (heard 1 17 3 3) (throttlePayload 0x80 0x40))
      ∧ forDriver (hearing (heard 1 17 3 3) (driven 5)) (heard 1 17 3 3)
      ∧ boundTo (hearing (heard 1 17 3 3) (driven 5)) (headerSource (heard 1 17 3 3).bytes)
      ∧ (throttleData (throttlePayload 0x80 0x40)).release = true ∧ (throttleData (throttlePayload 0x80 0x40)).emergency = false := by
  simp only [arrives, forDriver, boundTo]
  decide +kernel
theorem witness_Emergency :
    arrives 1 (hearing (heard 1 17 3 3) (driven 5)) (heard 1 17 3 3) (throttlePayload 0x85 0x80) (crcOf (heard 1 17 3 3) (throttlePayload 0x85 0x80))
      ∧ forDriver (hearing (heard 1 17 3 3) (driven 5)) (heard 1 17 3 3)
      ∧ boundTo (hearing (heard 1 17 3 3) (driven 5)) (headerSource (heard 1 17 3 3).bytes)
      ∧ (hearing (heard 1 17 3 3) (driven 5)).head = .driver ∧ (throttleData (throttlePayload 0x85 0x80)).release = false
      ∧ (throttleData (throttlePayload 0x85 0x80)).emergency = true := by
  simp only [arrives, forDriver, boundTo]
  decide +kernel
/-- The slot's change may join the emergency stop's event. -/
theorem witness_Emergency_slot :
    arrives 1 (hearing (heard 1 17 3 3) joiningAsLead) (heard 1 17 3 3) (throttlePayload 0x05 0x80)
        (crcOf (heard 1 17 3 3) (throttlePayload 0x05 0x80))
      ∧ forDriver (hearing (heard 1 17 3 3) joiningAsLead) (heard 1 17 3 3)
      ∧ boundTo (hearing (heard 1 17 3 3) joiningAsLead) (headerSource (heard 1 17 3 3).bytes)
      ∧ (hearing (heard 1 17 3 3) joiningAsLead).head = .driver ∧ (throttleData (throttlePayload 0x05 0x80)).release = false
      ∧ (throttleData (throttlePayload 0x05 0x80)).emergency = true := by
  simp only [arrives, forDriver, boundTo]
  decide +kernel
/-- The slot's change may make the locomotive a follower. -/
theorem witness_Emergency_follower :
    (after (.throttleFrame (throttlePayload 0x05 0x80) (crcOf (heard 1 17 3 3) (throttlePayload 0x05 0x80)))
        (hearing (heard 1 17 3 3) (joiningAsLead.onCsu fun c => { c with slot := .holds (some (listed [8, 3])) }))).head = .consist := by
  decide +kernel
/-- The stop may find the slot empty. -/
theorem witness_Emergency_empty : (hearing (heard 1 17 3 3) (driven 5)).csu.slot = .empty := by decide +kernel
theorem witness_FollowerFunctions :
    arrives 1 (hearing (heard 1 17 3 4010) following) (heard 1 17 3 4010) (throttlePayload 0x80 0)
        (crcOf (heard 1 17 3 4010) (throttlePayload 0x80 0))
      ∧ (hearing (heard 1 17 3 4010) following).role = .follower ∧ (hearing (heard 1 17 3 4010) following).consistId ≠ 0
      ∧ headerDest (heard 1 17 3 4010).bytes = (hearing (heard 1 17 3 4010) following).consistId
      ∧ headerDest (heard 1 17 3 4010).bytes ≠ (hearing (heard 1 17 3 4010) following).ownId := by
  simp only [arrives]
  decide +kernel
theorem witness_FollowerFunctions_claims : ClaimLaw (hearing (heard 1 17 3 4010) following) := by
  simp only [ClaimLaw]
  decide +kernel

theorem witness_ConsistWaits :
    arrives 2 (hearing (heard 2 30 3 4010) atWork) (heard 2 30 3 4010) (consistPayload [8, 3]) (crcOf (heard 2 30 3 4010) (consistPayload [8, 3]))
      ∧ (hearing (heard 2 30 3 4010) atWork).spr.stopped = false ∧ 4000 ≤ (consistData (consistPayload [8, 3])).consistId
      ∧ (consistData (consistPayload [8, 3])).consistId ≤ 4094
      ∧ (memberIndex (hearing (heard 2 30 3 4010) atWork).ownId (normalMembers (consistData (consistPayload [8, 3])).members)).isSome = true
      ∧ (hearing (heard 2 30 3 4010) atWork).csu.record
          ≠ some ⟨(consistData (consistPayload [8, 3])).consistId, normalMembers (consistData (consistPayload [8, 3])).members⟩ := by
  simp only [arrives]
  decide +kernel
theorem witness_Joins :
    arrives 2 (hearing (heard 2 30 3 4010) base) (heard 2 30 3 4010) (consistPayload [8, 3]) (crcOf (heard 2 30 3 4010) (consistPayload [8, 3]))
      ∧ (hearing (heard 2 30 3 4010) base).spr.stopped = true ∧ (hearing (heard 2 30 3 4010) base).csu.record = none
      ∧ (hearing (heard 2 30 3 4010) base).aut.consist.claimed = false ∧ 4000 ≤ (consistData (consistPayload [8, 3])).consistId
      ∧ (consistData (consistPayload [8, 3])).consistId ≤ 4094
      ∧ (normalMembers (consistData (consistPayload [8, 3])).members).head? = some ⟨8, false⟩
      ∧ memberIndex (hearing (heard 2 30 3 4010) base).ownId (normalMembers (consistData (consistPayload [8, 3])).members) = some (0 + 1) := by
  simp only [arrives]
  decide +kernel
theorem witness_TakesTheLead :
    arrives 2 (hearing (heard 2 30 3 4010) base) (heard 2 30 3 4010) (consistPayload [3, 8]) (crcOf (heard 2 30 3 4010) (consistPayload [3, 8]))
      ∧ (hearing (heard 2 30 3 4010) base).spr.stopped = true ∧ (hearing (heard 2 30 3 4010) base).csu.record = none
      ∧ (hearing (heard 2 30 3 4010) base).csu.watches = [] ∧ 4000 ≤ (consistData (consistPayload [3, 8])).consistId
      ∧ (consistData (consistPayload [3, 8])).consistId ≤ 4094
      ∧ memberIndex (hearing (heard 2 30 3 4010) base).ownId (normalMembers (consistData (consistPayload [3, 8])).members) = some 0 := by
  simp only [arrives]
  decide +kernel
/-- The follower over a bound DRIVER. -/
def followingDriven : State :=
  following.onAut fun a => { a with driver := { claimed := true, source := some 17, saved := { target := 40 } } }
/-- A frame of the own consist that lists locomotive 3 no more. -/
def droppedPayload : List Byte := consistPayload [8, 9]
theorem witness_Leaves_follower :
    arrives 2 (hearing (heard 2 30 3 4010) followingDriven) (heard 2 30 3 4010) droppedPayload (crcOf (heard 2 30 3 4010) droppedPayload)
      ∧ (hearing (heard 2 30 3 4010) followingDriven).spr.stopped = true
      ∧ (hearing (heard 2 30 3 4010) followingDriven).consistId = 4010 ∧ (consistData droppedPayload).consistId = 4010
      ∧ memberIndex (hearing (heard 2 30 3 4010) followingDriven).ownId (normalMembers (consistData droppedPayload).members) = none
      ∧ (hearing (heard 2 30 3 4010) followingDriven).role = .follower ∧ (hearing (heard 2 30 3 4010) followingDriven).head = .consist
      ∧ (hearing (heard 2 30 3 4010) followingDriven).aut.driver.claimed = true := by
  simp only [arrives]
  decide +kernel
theorem witness_Leaves_lead :
    arrives 2 (hearing (heard 2 30 3 4010) leading) (heard 2 30 3 4010) droppedPayload (crcOf (heard 2 30 3 4010) droppedPayload)
      ∧ (hearing (heard 2 30 3 4010) leading).spr.stopped = true ∧ (hearing (heard 2 30 3 4010) leading).consistId = 4010
      ∧ memberIndex (hearing (heard 2 30 3 4010) leading).ownId (normalMembers (consistData droppedPayload).members) = none
      ∧ (hearing (heard 2 30 3 4010) leading).role = .lead := by
  simp only [arrives]
  decide +kernel

theorem witness_Passing :
    arrives 3 (hearing (heard 3 202 4 4095) base) (heard 3 202 4 4095) (beaconPayload 2 3 15 20 0)
        (crcOf (heard 3 202 4 4095) (beaconPayload 2 3 15 20 0))
      ∧ (hearing (heard 3 202 4 4095) base).image.windows.nearThreshold ≤ frameRssi (heard 3 202 4 4095).levels
      ∧ (∀ r, (hearing (heard 3 202 4 4095) base).tkm.record = some r → r.beacon ≠ headerSource (heard 3 202 4 4095).bytes)
      ∧ (hearing (heard 3 202 4 4095) base).aut.failsafe.claimed = false := by
  refine ⟨?_, by decide +kernel, fun r h => (by cases h), by decide +kernel⟩
  simp only [arrives]
  decide +kernel
theorem witness_Passing_failsafe :
    arrives 3 (hearing (heard 3 202 4 4095) (underFailsafe { supply := true } none base)) (heard 3 202 4 4095) (beaconPayload 2 3 15 20 0)
        (crcOf (heard 3 202 4 4095) (beaconPayload 2 3 15 20 0))
      ∧ (underFailsafe { supply := true } none base).aut.failsafe.claimed = true ∧ (underFailsafe { supply := true } none base).aut.hold = none
      ∧ (underFailsafe { supply := true } none base).aut.causes.stall = false ∧ (underFailsafe { supply := true } none base).role ≠ .follower
      ∧ (beaconData (beaconPayload 2 3 15 20 0)).kind = .station := by
  simp only [arrives]
  decide +kernel
/-- A beacon that shows CLEAR passes under SIGNAL and releases it. -/
theorem witness_Passing_release :
    arrives 3 (hearing (heard 3 203 4 4095) (dwelling true)) (heard 3 203 4 4095) (beaconPayload 1 0 15 0 0)
        (crcOf (heard 3 203 4 4095) (beaconPayload 1 0 15 0 0))
      ∧ (dwelling true).aut.failsafe.claimed = false ∧ (dwelling true).aut.signal.claimed = true ∧ (dwelling true).tkm.record = none
      ∧ (beaconData (beaconPayload 1 0 15 0 0)).aspect ≠ .stop ∧ (beaconData (beaconPayload 1 0 15 0 0)).kind ≠ .station
      ∧ (after (.beaconFrame (beaconPayload 1 0 15 0 0) (crcOf (heard 3 203 4 4095) (beaconPayload 1 0 15 0 0)))
          (hearing (heard 3 203 4 4095) (dwelling true))).aut.signal.claimed = false := by
  simp only [arrives]
  decide +kernel
/-- In a bell zone, the port busy and the queue with room for two. -/
def inBellZone : State :=
  (base.onTkm fun t => { t with bellZone := true }).onSnd fun d =>
    { d with port := .refill 0 0 1, queue := List.replicate 6 { hold := false, owner := .zone, prio := 0, group := 0, index := 0 } }
/-- R47: the beacon's HORN_POINT alone: the bell's triggers go, and the horn's comes. -/
theorem witness_Passing_zones :
    arrives 3 (hearing (heard 3 203 4 4095) inBellZone) (heard 3 203 4 4095) (beaconPayload 1 0 15 0 2)
        (crcOf (heard 3 203 4 4095) (beaconPayload 1 0 15 0 2))
      ∧ inBellZone.aut.failsafe.claimed = false ∧ inBellZone.aut.signal.claimed = false
      ∧ inBellZone.snd.port ≠ .idle ∧ inBellZone.snd.queue.length ≤ 6
      ∧ (beaconData (beaconPayload 1 0 15 0 2)).flags.hornPoint = true ∧ (beaconData (beaconPayload 1 0 15 0 2)).flags.bellZone = false
      ∧ (after (.beaconFrame (beaconPayload 1 0 15 0 2) (crcOf (heard 3 203 4 4095) (beaconPayload 1 0 15 0 2)))
          (hearing (heard 3 203 4 4095) inBellZone)).snd.queue.length = 1 := by
  simp only [arrives]
  decide +kernel
theorem witness_Passing_functions : FunctionLaw inBellZone := functionLaw_of_no_action _ (by decide +kernel)
/-- Beacon 201 has been passed. -/
def passed : State :=
  base.onTkm fun t => { t with record := some (passedRecord 201 (beaconData (beaconPayload 1 1 30 0 0))), signalLimit := some 30 }
theorem witness_LastPassed :
    arrives 3 (hearing (heard 3 201 4 4095) passed) (heard 3 201 4 4095) (beaconPayload 1 3 30 0 0)
        (crcOf (heard 3 201 4 4095) (beaconPayload 1 3 30 0 0))
      ∧ (hearing (heard 3 201 4 4095) passed).tkm.record = some (passedRecord 201 (beaconData (beaconPayload 1 1 30 0 0)))
      ∧ (passedRecord 201 (beaconData (beaconPayload 1 1 30 0 0))).beacon = headerSource (heard 3 201 4 4095).bytes := by
  simp only [arrives]
  decide +kernel
/-- A header whose samples lie just below the default near threshold. -/
def weak : Collected := { heard 3 202 4 4095 with levels := levels 69 }
theorem witness_WeakBeacon :
    arrives 3 (hearing weak passed) weak (beaconPayload 1 3 30 0 0) (crcOf weak (beaconPayload 1 3 30 0 0))
      ∧ (hearing weak passed).tkm.record = some (passedRecord 201 (beaconData (beaconPayload 1 1 30 0 0)))
      ∧ (passedRecord 201 (beaconData (beaconPayload 1 1 30 0 0))).beacon ≠ headerSource weak.bytes
      ∧ frameRssi weak.levels < (hearing weak passed).image.windows.nearThreshold := by
  simp only [arrives]
  decide +kernel
theorem witness_LocoReport :
    arrives 4 (hearing (heard 4 44 9 4095) base) (heard 4 44 9 4095) locoPayload (crcOf (heard 4 44 9 4095) locoPayload)
      ∧ (firstEmpty (hearing (heard 4 44 9 4095) base).ptb.entries).isSome = true := by
  simp only [arrives]
  decide +kernel
/-- Chapter 3, worked example: the full table, entry 9 to be evicted. -/
def fullTable : State :=
  { driven 5 with
    tkm := { record := some (passedRecord 201 (beaconData (beaconPayload 1 1 30 0 0))) }
    ptb :=
      { entries :=
          (List.range 16).map fun i =>
            match i with
            | 0 => some { stale := false, station := 17, role := .throttle, age := 40, period := none, record := none }
            | 3 => some { stale := true, station := 44, role := .loco, age := 12340, period := none, record := none }
            | 5 => some { stale := true, station := 201, role := .beacon, age := 48900, period := none, record := none }
            | 9 => some { stale := true, station := 30, role := .throttle, age := 31200, period := none, record := none }
            | 12 => some { stale := true, station := 205, role := .beacon, age := 31200, period := none, record := none }
            | _ => some { stale := false, station := 60 + i, role := .loco, age := 60000, period := none, record := none } } }
/-- An entry is evicted before another: STALE before HEARD, then the greater age, then the lower index. -/
def evictedBefore (s : State) (i : Nat) (p : Peer) (j : Nat) : Bool :=
  match s.ptb.entries.getD j none with
  | some q => s.pinned q.station || (p.stale && !q.stale) || (p.stale == q.stale && (decide (q.age < p.age) || (q.age == p.age && decide (i ≤ j))))
  | none => false
theorem witness_Eviction :
    arrives 4 (hearing (heard 4 51 9 4095) fullTable) (heard 4 51 9 4095) locoPayload (crcOf (heard 4 51 9 4095) locoPayload)
      ∧ entryOf 51 fullTable.ptb.entries = none ∧ (∀ j, j < fullTable.ptb.entries.length → fullTable.ptb.entries.getD j none ≠ none)
      ∧ fullTable.ptb.entries.getD 9 none
          = some { stale := true, station := 30, role := .throttle, age := 31200, period := none, record := none }
      ∧ fullTable.pinned 30 = false
      ∧ (∀ j, j < 16 →
          evictedBefore fullTable 9 { stale := true, station := 30, role := .throttle, age := 31200, period := none, record := none } j = true)
      ∧ entryOf 51
          (after (.locoFrame locoPayload (crcOf (heard 4 51 9 4095) locoPayload)) (hearing (heard 4 51 9 4095) fullTable)).ptb.entries
          = some 9 := by
  simp only [arrives]
  decide +kernel
theorem witness_LeadsSpeed :
    arrives 4 (hearing (heard 4 8 9 4095) following) (heard 4 8 9 4095) locoPayload (crcOf (heard 4 8 9 4095) locoPayload)
      ∧ (hearing (heard 4 8 9 4095) following).role = .follower ∧ (hearing (heard 4 8 9 4095) following).head = .consist
      ∧ leadOf (hearing (heard 4 8 9 4095) following).csu.record = some (headerSource (heard 4 8 9 4095).bytes)
      ∧ (hearing (heard 4 8 9 4095) following).rxc.leadLink.source = some (headerSource (heard 4 8 9 4095).bytes) := by
  simp only [arrives]
  decide +kernel

/-- A service frame to locomotive 3 and its state. -/
def serving (words : Nat) (s : State) : State := hearing (heard 5 30 words 3) s
/-- A WRITE of the last data byte. -/
def lastByte : List Byte := [1, 1, 253, 1, 7, 0]
/-- A WRITE one byte past the image. -/
def pastTheImage : List Byte := [1, 1, 254, 1, 7, 0]
theorem witness_Write :
    arrives 5 (serving 3 base) (heard 5 30 3 3) lastByte (crcOf (heard 5 30 3 3) lastByte)
      ∧ headerDest (heard 5 30 3 3).bytes = (serving 3 base).ownId ∧ serviceOp lastByte = 1 ∧ (serving 3 base).spr.stopped = true
      ∧ (serving 3 base).head = .parked ∧ (serving 3 base).cfg.writing = none ∧ 1 ≤ (serviceData lastByte).count
      ∧ (serviceData lastByte).count ≤ 16 ∧ (serviceData lastByte).offset + (serviceData lastByte).count = 510 := by
  simp only [arrives]
  decide +kernel
theorem witness_ClearFaults :
    arrives 5 (serving 2 base) (heard 5 30 2 3) [2, 0, 0, 0] (crcOf (heard 5 30 2 3) [2, 0, 0, 0]) ∧ serviceOp [2, 0, 0, 0] = 2
      ∧ headerDest (heard 5 30 2 3).bytes = (serving 2 base).ownId ∧ (serving 2 base).spr.stopped = true ∧ (serving 2 base).cfg.writing = none := by
  simp only [arrives]
  decide +kernel
theorem witness_Restart :
    arrives 5 (serving 2 base) (heard 5 30 2 3) [3, 0, 0, 0] (crcOf (heard 5 30 2 3) [3, 0, 0, 0]) ∧ serviceOp [3, 0, 0, 0] = 3
      ∧ headerDest (heard 5 30 2 3).bytes = (serving 2 base).ownId ∧ (serving 2 base).spr.stopped = true
      ∧ (serving 2 base).head = .parked ∧ (serving 2 base).cfg.writing = none := by
  simp only [arrives]
  decide +kernel
theorem witness_RefusedOp :
    arrives 5 (serving 2 base) (heard 5 30 2 3) [4, 0, 0, 0] (crcOf (heard 5 30 2 3) [4, 0, 0, 0])
      ∧ headerDest (heard 5 30 2 3).bytes = (serving 2 base).ownId ∧ 3 < serviceOp [4, 0, 0, 0] ∧ serviceOp [0, 0, 0, 0] < 1 := by
  simp only [arrives]
  decide +kernel
theorem witness_RefusedMotion :
    arrives 5 (serving 2 atWork) (heard 5 30 2 3) [3, 0, 0, 0] (crcOf (heard 5 30 2 3) [3, 0, 0, 0]) ∧ serviceOp [3, 0, 0, 0] ≤ 3
      ∧ headerDest (heard 5 30 2 3).bytes = (serving 2 atWork).ownId ∧ (serving 2 atWork).spr.stopped = false
      ∧ arrives 5 (serving 3 following) (heard 5 30 3 3) lastByte (crcOf (heard 5 30 3 3) lastByte) ∧ serviceOp lastByte ≠ 2
      ∧ (following.spr.stopped = true ∧ following.head ≠ .parked ∧ following.head ≠ .driver) := by
  simp only [arrives]
  decide +kernel
theorem witness_Busy :
    arrives 5 (serving 2 (writingState 2)) (heard 5 30 2 3) [3, 0, 0, 0] (crcOf (heard 5 30 2 3) [3, 0, 0, 0])
      ∧ (serving 2 (writingState 2)).spr.stopped = true ∧ (serving 2 (writingState 2)).head = .parked
      ∧ (serving 2 (writingState 2)).cfg.writing ≠ none
      ∧ headerDest (heard 5 30 2 3).bytes = (serving 2 (writingState 2)).ownId := by
  simp only [arrives]
  decide +kernel
theorem witness_RefusedRange :
    arrives 5 (serving 3 base) (heard 5 30 3 3) pastTheImage (crcOf (heard 5 30 3 3) pastTheImage) ∧ serviceOp pastTheImage = 1
      ∧ headerDest (heard 5 30 3 3).bytes = (serving 3 base).ownId ∧ (serving 3 base).spr.stopped = true ∧ (serving 3 base).head = .parked
      ∧ (serving 3 base).cfg.writing = none ∧ 510 < (serviceData pastTheImage).offset + (serviceData pastTheImage).count := by
  simp only [arrives]
  decide +kernel

/-- The follower at the last ms of its LEAD link's age. -/
def leadLapsing : State := following.onRxc fun r => { r with leadLink := { r.leadLink with age := 999 } }
theorem witness_LinkWindow_cleared :
    (linkRecord .driver (lapsing 1998).rxc).age + 1 < (lapsing 1998).linkWindow .driver
      ∧ (linkRecord .lead following.rxc).age + 1 < following.linkWindow .lead := by decide +kernel
theorem witness_LinkWindow :
    (lapsing 1999).power = .running ∧ FailsafeLaw (lapsing 1999).aut ∧ (linkRecord .driver (lapsing 1999).rxc).source ≠ none
      ∧ (linkRecord .driver (lapsing 1999).rxc).state ≠ .lost
      ∧ (lapsing 1999).linkWindow .driver ≤ (linkRecord .driver (lapsing 1999).rxc).age + 1 ∧ FailsafeLaw leadLapsing.aut
      ∧ leadLapsing.power = .running ∧ (linkRecord .lead leadLapsing.rxc).source ≠ none ∧ (linkRecord .lead leadLapsing.rxc).state ≠ .lost
      ∧ leadLapsing.linkWindow .lead ≤ (linkRecord .lead leadLapsing.rxc).age + 1 := by
  simp only [FailsafeLaw]
  decide +kernel
theorem witness_Ageing :
    atWork.power = .running ∧ atWork.ptb.entries[15]? = some none
      ∧ atWork.ptb.entries[0]?
          = some (some { stale := false, station := 17, role := .throttle, age := 40, period := some 100, record := none }) := by
  decide +kernel
theorem witness_Dwell :
    (dwelling true).power = .running ∧ (dwelling true).head = .signal ∧ (dwelling true).aut.signalLive.reached = true
      ∧ (dwelling true).aut.signalLive.dwell = some 1 := by decide +kernel
theorem witness_Hold :
    (underFailsafe {} (some 1) (driven 5)).power = .running ∧ FailsafeLaw (underFailsafe {} (some 1) (driven 5)).aut
      ∧ (underFailsafe {} (some 1) (driven 5)).aut.hold = some 1 := by
  simp only [FailsafeLaw]
  decide +kernel
theorem witness_Grace :
    leading.power = .running ∧ FailsafeLaw leading.aut ∧ (∃ w ∈ leading.csu.watches, w.member = 8 ∧ lastMs w.grace = true)
      ∧ leading.role = .lead ∧ peerOf 8 leading.ptb.entries = none := by
  simp only [FailsafeLaw]
  decide +kernel
theorem witness_Seed :
    base.power = .running ∧ base.rpt.activity = .holdoff ∧ base.rpt.holdoffLeft = none ∧ base.ownId ≤ 4095 ∧ base.ownId ≠ 0
      ∧ (base.onRpt fun r => { r with holdoffLeft := some 0 }).rpt.holdoffLeft = some 0 := by decide +kernel
/-- A report is due, with exactly the credit and the spacing it takes. -/
def dueNow : State := base.onRpt fun r => { r with activity := .ready, due := true, credit := 2640, sinceStart := some 50 }
theorem witness_Schedule :
    dueNow.power = .running ∧ dueNow.rpt.activity = .ready ∧ dueNow.rpt.due = true ∧ 2640 ≤ dueNow.rpt.credit
      ∧ (∀ c, dueNow.rpt.sinceStart = some c → 50 ≤ c) :=
  ⟨rfl, rfl, rfl, by decide +kernel, fun c h => by cases h; decide⟩
theorem witness_Schedule_period :
    (base.onRpt fun r => { r with sinceStart := some 1000 }).rpt.activity ≠ .sending
      ∧ (base.onRpt fun r => { r with sinceStart := some 1000 }).rpt.sinceStart = some 1000
      ∧ (base.onRpt fun r => { r with sinceStart := some 1000 }).period ≤ 1000
      ∧ (base.onRpt fun r => { r with activity := .backingOff }).rpt.activity = .backingOff
      ∧ (base.onRpt fun r => { r with activity := .sending, airLeft := 1000 }).rpt.activity = .sending
      ∧ (base.onRpt fun r => { r with activity := .sending, airLeft := 1000 }).rpt.airLeft ≤ 1000 := by decide +kernel
theorem witness_ClearChannel :
    base.power = .running ∧ (base.onRpt fun r => { r with activity := .checking }).rpt.activity = .checking
      ∧ (clampLevel 29 < base.image.windows.ccaThreshold ∧ clampLevel 0 < base.image.windows.ccaThreshold)
      ∧ ¬(clampLevel 0 < base.image.windows.ccaThreshold ∧ clampLevel 30 < base.image.windows.ccaThreshold) := by decide +kernel
theorem witness_Occupancy :
    waitingForCredit.power = .running ∧ waitingForCredit.rpt.counterA ≤ 65535 ∧ waitingForCredit.image.counterA.event = 4
      ∧ base.image.counterA.event ∉ [4, 8, 12] ∧ base.image.counterA.event ≠ 6 := by decide +kernel

theorem witness_Curve :
    defaultImage.traction.knots.length = 15 ∧ defaultImage.traction.knots.Pairwise (· ≤ ·) ∧ 125 ≤ 126 ∧ (126 : Nat) ≤ 126 := by
  decide +kernel
/-- The last knot, and the last step of the last rise. -/
theorem witness_Curve_knots : (1 ≤ 14 ∧ (14 : Nat) ≤ 14) ∧ ((13 : Nat) ≤ 13 ∧ 1 ≤ 8 ∧ (8 : Nat) ≤ 8) := by decide
/-- Below, at and above a threshold of 1, an inverted counter of waits for credit. -/
theorem witness_Samples :
    (countingBoth 4).image.counterA.threshold = 0 ∧ (countingBoth 4).image.counterB.threshold ≠ 0
      ∧ (countingBoth 4).image.counterB.invert = true ∧ (countingBoth 6).image.counterB.event = 6
      ∧ (countingBoth 5).image.counterA.event ∉ [4, 8, 12] := by decide +kernel
/-- R105's first branch, at its boundary: the period near rest of chapter 7's worked example. -/
theorem witness_Law_kept :
    (-10 : Int) = (0 / 16 : Nat) - ((10 : Nat) : Int) ∧ (-40 : Int) = max (-64000) (min 64000 (0 + ((4 : Nat) : Int) * -10))
      ∧ (-7 : Int) = (((40 : Nat) : Int) * -10 + -40) / 64 + (0 / 16 * 800 / 1024 : Nat) ∧ ((-7 : Int) < 0 ∧ (-10 : Int) < 0) := by decide
/-- R105's second branch: the first period of chapter 7's worked example. -/
theorem witness_Law_taken :
    (-3 : Int) = (2412 / 16 : Nat) - ((153 : Nat) : Int) ∧ (1988 : Int) = max (-64000) (min 64000 (2000 + ((4 : Nat) : Int) * -3))
      ∧ (146 : Int) = (((40 : Nat) : Int) * -3 + 1988) / 64 + (2412 / 16 * 800 / 1024 : Nat)
      ∧ ¬(((900 : Nat) : Int) < 146 ∧ (0 : Int) < -3 ∨ (146 : Int) < 0 ∧ (-3 : Int) < 0) := by decide
theorem witness_ControlPeriod : (driven 40).power = .running ∧ (driven 40).periodCompute.stallFound = false := by decide +kernel
theorem witness_ControlPeriod_stop :
    base.spr.ref = 0 ∧ base.mrg.y ≤ base.image.traction.stopThreshold
      ∧ ¬((driven 40).candidate = 0 ∨ (driven 40).cfg.overcurrent = true ∨ (driven 40).mrg.cool ≠ 0) := by decide +kernel
/-- R90, R93: with the default knots step 40 is 292 + (73 · 4 + 4) / 9 = 324; the ramp rises by 8, and not past 16 · 324; where the
direction is to turn the target is 0. -/
theorem witness_ControlPeriod_ramp :
    (driven 40).stageTarget = 324 ∧ (driven 40).effectiveLimit = (driven 40).image.traction.vMax ∧ (driven 40).candidate = 8
      ∧ ((driven 40).onSpr fun r => { r with ref := 5180 }).candidate = 5184
      ∧ (turning.onSpr fun r => { r with ref := 5180 }).stageTarget = 0 := by decide +kernel
theorem witness_Stall :
    stalling.power = .running ∧ stalling.periodCompute.stallFound = true ∧ stalling.csu.slot = .empty ∧ FailsafeLaw stalling.aut
      ∧ stalling.aut.failsafe.claimed = false ∧ stalling.image.windows.failsafeHold ≠ 0 := by
  simp only [FailsafeLaw]
  decide +kernel
theorem witness_DrivePhase :
    atWork.power = .running
      ∧ ¬(atWork.mrg.active = true ∧ atWork.cfg.overcurrent = false ∧ atWork.image.traction.iTrip < min 2500 4000 ∧ 2 ≤ atWork.mrg.overRun)
      ∧ (base.onMrg fun m => { m with bridge := .cool, cool := 1 }).mrg.bridge = .cool
      ∧ (base.onMrg fun m => { m with bridge := .cool, cool := 1 }).mrg.cool = 1 := by decide +kernel
/-- The third high phase, before the fourth trip. -/
def tripping (count : Nat) : State := (driven 40).onMrg fun m => { m with active := true, overRun := 2, tripCount := count, tripDecay := some 9 }
theorem witness_Trip :
    (tripping 2).power = .running ∧ FailsafeLaw (tripping 2).aut ∧ (tripping 2).mrg.active = true ∧ (tripping 2).cfg.overcurrent = false
      ∧ (tripping 2).image.traction.iTrip < min 2501 4000 ∧ 2 ≤ (tripping 2).mrg.overRun ∧ (tripping 2).mrg.tripCount + 1 < 4
      ∧ FailsafeLaw (tripping 3).aut ∧ (tripping 3).mrg.active = true ∧ (tripping 3).cfg.overcurrent = false
      ∧ 4 ≤ (tripping 3).mrg.tripCount + 1 ∧ (tripping 3).mrg.tripDecay = some 9
      ∧ (base.onMrg fun m => { m with tripDecay := some 1 }).mrg.tripDecay = some 1 := by
  simp only [FailsafeLaw]
  decide +kernel
theorem witness_Bemf :
    atWork.power = .running ∧ atWork.csu.slot = .empty ∧ atWork.spr.stopped = false ∧ base.spr.stopped = true ∧ atWork.image.chuff.source = .synthetic
      ∧ cam.image.chuff.source = .cam := by decide +kernel
/-- A change waits in the slot of a locomotive that stops at this sample. -/
def halting : State :=
  { driven 0 with spr := { stopped := false }, csu := { slot := .holds (some (listed [3, 8])) } }
theorem witness_Bemf_slot :
    ∃ t, exec (.bemfSample 0) halting = .next t ∧ halting.spr.stopped = false ∧ t.spr.stopped = true
      ∧ halting.csu.slot = .holds (some (listed [3, 8])) ∧ t.csu.record = some (listed [3, 8]) := ⟨_, rfl, by decide +kernel⟩
/-- A long standstill ends. -/
def startingOff : State := { driven 5 with smk := { state := .idleHold, long := true } }
theorem witness_Bemf_moves :
    Settled startingOff ∧ ∃ t, exec (.bemfSample 200) startingOff = .next t ∧ startingOff.spr.stopped = true ∧ t.spr.stopped = false
      ∧ t.smk.state = .ready :=
  ⟨⟨by decide +kernel, functionLaw_of_no_action _ (by decide +kernel)⟩, _, rfl, by decide +kernel⟩
theorem witness_Cam :
    cam.power = .running ∧ cam.image.chuff.source = .cam ∧ cam.chg.camWindow = none ∧ true ≠ cam.chg.cam
      ∧ (cam.onChg fun c => { c with camWindow := some 1 }).chg.camWindow = some 1 := by decide +kernel

/-- The start whose tenth good evaluation is due. -/
def startingUp : State := { base with power := .starting, sup := { entryRun := 9 } }
theorem witness_Cam_start :
    ∃ t, exec (.entryTestPassed 76 0) startingUp = .next t ∧ startingUp.power ≠ .running ∧ t.power = .running :=
  ⟨_, rfl, by decide +kernel⟩
/-- A check that ends with exactly the airtime in credit. -/
def checkingNow : State := base.onRpt fun r => { r with activity := .checking, credit := 2640 }
theorem witness_Credit :
    CreditLaw checkingNow ∧ checkingNow.rpt.activity ≠ .sending
      ∧ ∃ t, exec (.ccaComplete 5 12) checkingNow = .next t ∧ t.rpt.activity = .sending := by
  refine ⟨?_, by decide +kernel, _, rfl, by decide +kernel⟩
  simp only [CreditLaw]
  decide +kernel
theorem witness_Credit_rises : ∃ t, exec .creditAccrual checkingNow = .next t ∧ checkingNow.rpt.credit < t.rpt.credit :=
  ⟨_, rfl, by decide +kernel⟩

/-- A library of one clip, in group 0 and index 0: one sample long. -/
def oneClip : List Host.Cell :=
  [(0, 0), (1, 0), (2, 0), (3, 128), (128, 0), (129, 0), (130, 0), (131, 200), (132, 255), (133, 0), (134, 0), (135, 1), (136, 0), (137, 0),
    (138, 0), (139, 0), (140, 0), (141, 0), (142, 0), (143, 0), (200, 9)]
/-- Voice 5 alone is FREE, and a lookup of that clip is in flight. -/
def lookingUp : State :=
  { base with
    snd :=
      { port := .lookup { hold := false, owner := .chuff, prio := 1, group := 0, index := 0 } false
        voices := List.replicate 5 { state := .playing, owner := some .zone, order := 1 } ++ [{}] }
    flash := oneClip }
theorem witness_Lookup :
    lookingUp.power = .running ∧ lookingUp.snd.port = .lookup { hold := false, owner := .chuff, prio := 1, group := 0, index := 0 } false
      ∧ lookupClip lookingUp.flash { hold := false, owner := .chuff, prio := 1, group := 0, index := 0 }
          = some { start := 200, length := 1, loopStart := 0, loopEnd := 0, gain := 255 }
      ∧ lookingUp.snd.voices.length = 6 ∧ 5 < 6 ∧ (lookingUp.voice 5).state = .free ∧ (∀ j, j < 5 → (lookingUp.voice j).state ≠ .free)
      ∧ ¬2 ≤ lookingUp.snd.voices.countP ownedByChuff := by decide +kernel
/-- A trigger of an owner and priority. -/
def trigger (o : Owner) (prio : Nat) : Trigger := { hold := false, owner := o, prio := prio, group := 0, index := 0 }
/-- A busy port and a queue. -/
def queued (q : List Trigger) : State := base.onSnd fun d => { d with port := .refill 0 0 1, queue := q }
/-- R130: a chuff coalesces with the pending one, whose priority it keeps. -/
theorem witness_Request_coalesces :
    (queued [trigger .zone 4, trigger .chuff 1]).snd.port ≠ .idle
      ∧ (queued [trigger .zone 4, trigger .chuff 1]).snd.queue = [trigger .zone 4] ++ trigger .chuff 1 :: []
      ∧ (∀ p ∈ [trigger .zone 4], p.owner ≠ .chuff)
      ∧ ((queued [trigger .zone 4, trigger .chuff 1]).request (trigger .chuff 7)).snd.queue.length = 2 := by decide +kernel
/-- R130: the queue takes the eighth trigger; in the full queue the oldest of the lowest priority goes to a higher one alone. -/
theorem witness_Request_queue :
    (queued (List.replicate 7 (trigger .zone 4))).snd.queue.length < 8
      ∧ (let full := queued (trigger .zone 4 :: trigger .zone 3 :: List.replicate 6 (trigger .action 3))
         8 ≤ full.snd.queue.length ∧ full.snd.queue = [trigger .zone 4] ++ trigger .zone 3 :: List.replicate 6 (trigger .action 3)
          ∧ (∀ p ∈ [trigger .zone 4], 3 < p.prio) ∧ (∀ p ∈ List.replicate 6 (trigger .action 3), 3 ≤ p.prio)
          ∧ (full.request (trigger .system 4)).snd.queue.getLast? = some (trigger .system 4)
          ∧ (full.request (trigger .system 3)).snd.queue = full.snd.queue) := by decide +kernel
/-- Chapter 9, worked example: the voices before the three requests; the trigger whose lookup is in flight has the clip of `oneClip`. -/
def sixVoices (last : Voice) (q : Trigger) : State :=
  { base with
    snd :=
      { port := .lookup q false
        voices :=
          [ { state := .looping, owner := some (.function 1), prio := 3, order := 1 }, { state := .playing, owner := some .chuff, prio := 1, order := 3 },
            { state := .playing, owner := some .chuff, prio := 1, order := 5 }, { state := .looping, owner := some .zone, prio := 4, order := 2 },
            { state := .playing, owner := some .action, prio := 2, order := 4 }, last ] }
    flash := oneClip }
/-- Chapter 9, worked example: the chuff takes the older chuff voice, with allocation order 6. -/
theorem witness_Chuff_cap :
    (sixVoices {} (trigger .chuff 1)).snd.port = .lookup (trigger .chuff 1) false
      ∧ (lookupClip (sixVoices {} (trigger .chuff 1)).flash (trigger .chuff 1)).isSome = true
      ∧ 2 ≤ (sixVoices {} (trigger .chuff 1)).snd.voices.countP ownedByChuff
      ∧ ((sixVoices {} (trigger .chuff 1)).voice 1).owner = some .chuff
      ∧ (∀ j, j < 6 → j ≠ 1 → ((sixVoices {} (trigger .chuff 1)).voice j).owner = some .chuff → 3 < ((sixVoices {} (trigger .chuff 1)).voice j).order)
      ∧ ((after .lookupComplete (sixVoices {} (trigger .chuff 1))).voice 1).order = 6 := by decide +kernel
/-- The whistle holds the last voice. -/
def whistle : Voice := { state := .playing, owner := some (.function 2), prio := 6, order := 7 }
/-- Of no FREE voice the earliest of lowest priority is preempted, and a trigger of that priority is dropped. -/
theorem witness_Preemption :
    (∀ v ∈ (sixVoices whistle (trigger (.function 3) 2)).snd.voices, v.state ≠ .free)
      ∧ ((sixVoices whistle (trigger (.function 3) 2)).voice 1).prio < 2
      ∧ ((sixVoices whistle (trigger (.function 3) 2)).voice 1).owner = some .chuff
      ∧ (∀ j, j < 6 → j ≠ 1 →
          1 < ((sixVoices whistle (trigger (.function 3) 2)).voice j).prio
            ∨ 1 = ((sixVoices whistle (trigger (.function 3) 2)).voice j).prio
              ∧ 3 < ((sixVoices whistle (trigger (.function 3) 2)).voice j).order)
      ∧ ((after .lookupComplete (sixVoices whistle (trigger (.function 3) 2))).voice 1).owner = some (.function 3)
      ∧ (∀ v ∈ (sixVoices whistle (trigger .system 1)).snd.voices, 1 ≤ v.prio)
      ∧ (after .lookupComplete (sixVoices whistle (trigger .system 1))).snd.voices = (sixVoices whistle (trigger .system 1)).snd.voices := by
  decide +kernel
theorem witness_Lookup_void :
    (base.onSnd fun d => { d with port := .lookup (trigger .zone 4) true }).snd.port = .lookup (trigger .zone 4) true
      ∧ lookupClip [(0, 0), (1, 0), (2, 0), (3, 0)] (trigger .zone 4) = none := by decide +kernel
theorem witness_Refill :
    loadingVoice.power = .running ∧ loadingVoice.snd.port = .refill 0 0 4 ∧ 0 < loadingVoice.snd.voices.length
      ∧ (loadingVoice.voice 0).state = .loading ∧ (loadingVoice.voice 0).held = false := by decide +kernel
theorem witness_ChuffGain :
    defaultImage.sound.gMin ≤ 255 ∧ voicePlays ((mixing false).voice 1) = true ∧ ((mixing false).voice 1).owner = some .chuff
      ∧ voicePlays ((mixing false).voice 0) = true ∧ ((mixing false).voice 0).owner ≠ some .chuff := by decide +kernel
theorem witness_RestTimers :
    base.power = .running ∧ lastMs (base.onSnd fun d => { d with valve := some 1 }).snd.valve = true
      ∧ lastMs (base.onSmk fun k => { k with standstill := some 1 }).smk.standstill = true
      ∧ (base.onSmk fun k => { k with burst := some { duty := 1000, left := 1 } }).smk.burst = some { duty := 1000, left := 1 }
      ∧ (base.onSmk fun k => { k with state := .ready }).smk.state = .ready ∧ State.reset.snd.port ≠ .idle
      ∧ State.reset.snd.queue.length < 8 := by decide +kernel
theorem witness_Thermostat :
    atWork.power = .running ∧ smokeHeats atWork.smk.state = true ∧ atWork.image.smoke.tDry < temperature atWork.image.smoke 77
      ∧ 350 ≤ temperature atWork.image.smoke 77 := by decide +kernel
/-- A settled part whose smoke is in a state, warm or not, the heater as it was. -/
def smoking (state : SmokeState) (heater : Bool) : State := { driven 5 with smk := { state := state, heater := heater } }
/-- R149, R151: with the defaults 355 reads as 225, five below T_run: READY, and the heater as it was; 360 reads as 223, and the heater
goes on; 343 reads as 230, and it goes off. -/
theorem witness_Thermostat_settled :
    Settled (smoking .warming true) ∧ (temperature defaultImage.smoke 355 : Nat) + 5 = defaultImage.smoke.tRun
      ∧ (after (.thermostatTick 355) (smoking .warming true)).smk.state = .ready
      ∧ (after (.thermostatTick 355) (smoking .warming true)).smk.heater = true
      ∧ (after (.thermostatTick 355) (smoking .warming false)).smk.heater = false
      ∧ (after (.thermostatTick 360) (smoking .warming false)).smk.heater = true
      ∧ (after (.thermostatTick 343) (smoking .ready true)).smk.heater = false :=
  ⟨⟨by decide +kernel, functionLaw_of_no_action _ (by decide +kernel)⟩, by decide +kernel⟩
theorem witness_Lamps :
    base.power = .running ∧ base.lmp.lamps.length = 8 ∧ (base.onLmp fun u => { u with flare := some 1 }).lmp.flare = some 1
      ∧ (base.onLmp fun u => { u with ditchLeft := some 1 }).lmp.ditchLeft = some 1
      ∧ ((base.onLamp 7 fun l => { l with lit := true, fade := 15 }).lamp 7).lit = true
      ∧ ((base.onLamp 7 fun l => { l with lit := true, fade := 15 }).lamp 7).fade < 16
      ∧ 31250 * 16 ≤ ((base.onLamp 7 fun l => { l with lit := true, fade := 15, fadeAge := 499000 }).lamp 7).fadeAge + 1000
      ∧ ((base.onLamp 7 fun l => { l with blink := some { count := 1, on := true, left := 1 } }).lamp 7).blink
          = some { count := 1, on := true, left := 1 } := by decide +kernel
/-- F0 of throttle 17's frame lights the forward headlamp. -/
theorem witness_Lamps_switched_on :
    ∃ t, exec (.throttleFrame (throttlePayload 0xFF 0) (crcOf (heard 1 17 3 3) (throttlePayload 0xFF 0))) (hearing (heard 1 17 3 3) (driven 5))
        = .next t
      ∧ (driven 5).power = .running ∧ t.power = .running ∧ ((driven 5).lamp 0).lit = false ∧ (t.lamp 0).lit = true := ⟨_, rfl, by decide +kernel⟩
/-- R154: a lamp switched on once and dark since has its strobe phase counted. -/
theorem witness_Lamps_strobe :
    ((base.onLamp 7 fun l => { l with switchedOn := true, strobe := 999 }).lamp 7).switchedOn = true
      ∧ ((after (.strobePhaseAdvance 7) (base.onLamp 7 fun l => { l with switchedOn := true, strobe := 999 })).lamp 7).strobe = 0 := by
  decide +kernel
/-- R155, R158: DIM halves a lit lamp's brightness and BRIDGING halves it again; DEPLETED leaves markers alone. -/
theorem witness_Lamps_output :
    (base.onLamp 0 fun l => { l with lit := true }).power = .running
      ∧ ((base.onLamp 0 fun l => { l with lit := true }).onSup fun u => { u with state := .bridging }).lampOutput 0
          = (base.image.lamps.getD 0 (defaultLamp .aux)).brightness / 2
      ∧ ((base.onLamp 0 fun l => { l with lit := true }).onSup fun u => { u with state := .depleted }).lampOutput 0 = 0
      ∧ ({ base with power := .off } : State).power ≠ .running := by decide +kernel
theorem witness_TrackLoss :
    base.power = .running ∧ base.image.identity.supplyMode = .track ∧ base.sup.state = .normal ∧ FailsafeLaw base.aut
      ∧ base.csu.slot = .empty ∧ base.image.supply.trackMin ≤ (72 : Byte).toNat ∧ (71 : Byte).toNat < base.image.supply.trackMin
      ∧ base.sup.low = 0 ∧ (base.onSup fun u => { u with low := 1 }).sup.low = 1 ∧ base.image.supply.storeLow ≤ (64 : Byte).toNat
      ∧ (63 : Byte).toNat < base.image.supply.storeLow := by
  simp only [FailsafeLaw]
  decide +kernel
/-- A part in BATTERY mode. -/
def onBattery : State :=
  base.onCfg fun c => { c with image := { c.image with identity := { c.image.identity with supplyMode := .battery } } }
theorem witness_TrackLoss_battery :
    onBattery.image.identity.supplyMode = .battery ∧ onBattery.sup.state = .normal ∧ (onBattery.onSup fun u => { u with low := 1 }).sup.low = 1
      ∧ onBattery.image.supply.storeLow ≤ (64 : Byte).toNat ∧ (63 : Byte).toNat < onBattery.image.supply.storeLow
      ∧ (after (.supplyLoss 0 63) (onBattery.onSup fun u => { u with low := 1 })).sup.state = .depleted := by decide +kernel
theorem witness_TrackLoss_exhausted :
    (base.onSup fun u => { u with state := .bridging }).sup.state = .bridging ∧ (63 : Byte).toNat < base.image.supply.storeLow
      ∧ Settled (base.onSup fun u => { u with low := 1 }) :=
  ⟨by decide +kernel, by decide +kernel, by decide +kernel, functionLaw_of_no_action _ (by decide +kernel)⟩
/-- The tenth good sample is due, SUPPLY is raised and both timers run. -/
def bridgingNow : State :=
  (underFailsafe { supply := true } none base).onSup fun u =>
    { u with state := .bridging, high := 9, bridging := some 1, normalHold := some 1, raised := true }
theorem witness_SupplyReturn :
    bridgingNow.power = .running ∧ FailsafeLaw bridgingNow.aut ∧ bridgingNow.sup.state ≠ .normal ∧ bridgingNow.sup.high = 9
      ∧ bridgingNow.image.supply.trackMin + 4 ≤ (76 : Byte).toNat ∧ bridgingNow.image.identity.supplyMode ≠ .battery
      ∧ bridgingNow.image.supply.storeLow ≤ (64 : Byte).toNat ∧ lastMs bridgingNow.sup.bridging = true
      ∧ lastMs bridgingNow.sup.normalHold = true := by
  simp only [FailsafeLaw]
  decide +kernel
theorem witness_SupplyReturn_counts :
    (bridgingNow.onSup fun u => { u with high := 8 }).sup.high < 9 ∧ (bridgingNow.onSup fun u => { u with high := 8 }).sup.state ≠ .normal
      ∧ ¬bridgingNow.image.supply.trackMin + 4 ≤ (75 : Byte).toNat
      ∧ (onBattery.onSup fun u => { u with state := .depleted, high := 9 }).sup.state ≠ .normal
      ∧ onBattery.image.supply.storeLow + 4 ≤ (68 : Byte).toNat := by decide +kernel
theorem witness_Power :
    base.power ≠ .off ∧ base.cfg.writing = none ∧ ({ base with power := .off } : State).power = .off
      ∧ ({ base with power := .starting, sup := { entryRun := 9 } } : State).sup.entryRun = 9
      ∧ base.image.supply.trackMin + 4 ≤ (76 : Byte).toNat ∧ base.image.identity.supplyMode ≠ .battery := by decide +kernel
/-- A brown-out during a page write: of the bytes 38 and 39 the first had come. -/
theorem witness_BrownOut_writing :
    (writingState 2).power ≠ .off ∧ (writingState 2).cfg.writing ≠ none
      ∧ (after (.brownOut 0x40) (writingState 2)).eeprom = [(38, 3)] := by decide +kernel
theorem witness_EntryTest :
    startingUp.power = .starting ∧ startingUp.sup.entryRun = 9 ∧ startingUp.image.ctxParked.funcMask = 0#32
      ∧ startingUp.image.ctxParked.lampMask = 0#8 ∧ startingUp.image.ctxParked.mode = .never
      ∧ ({ startingUp with sup := { entryRun := 8 } } : State).sup.entryRun < 9
      ∧ ¬startingUp.image.supply.trackMin + 4 ≤ (75 : Byte).toNat := by decide +kernel
theorem witness_PageWrites :
    (writingState 2).power = .running ∧ (∃ w, (writingState 2).cfg.writing = some w ∧ w.hasCrc = false)
      ∧ (∃ w, (writingState 31).cfg.writing = some w ∧ w.hasCrc = true) ∧ (writingState 31).cfg.restartPending = false
      ∧ ((writingState 31).onCfg fun c => { c with restartPending := true }).cfg.restartPending = true :=
  ⟨rfl, ⟨_, rfl, rfl⟩, ⟨_, rfl, rfl⟩, rfl, rfl⟩
/-- R171: a page write that the EEPROM does not answer ends the write with WRITE_FAILED, before its CRC page. -/
theorem witness_PageWrites_unanswered :
    (writingState 2).cfg.restartPending = false ∧ (after (.pageWriteComplete false [] true) (writingState 2)).cfg.status = .writeFailed
      ∧ (after (.pageWriteComplete false [] true) ((writingState 2).onCfg fun c => { c with restartPending := true })).power = .starting := by
  decide +kernel

end Sys2Proof.Tests
end

section
/-! The transmitter's side of RPT: what every command but the transmitter's own leaves as it was, and where a start sets it. -/

namespace Sys2Proof.Machine

/-! ### The transmitter's part of RPT

The counters and the due flag of RPT answer to every block; the rest (activity, credit, clocks, register, the report's bytes) answers to
the transmitter's commands alone. -/

/-- RPT with its counters and its due flag set aside. -/
def Rpt.transmitter (r : Rpt) : Rpt := { r with due := false, counterA := 0, counterB := 0 }

theorem credit_eq_of_transmitter_eq {r q : Rpt} (h : r.transmitter = q.transmitter) : r.credit = q.credit :=
  show r.transmitter.credit = q.transmitter.credit from h ▸ rfl

theorem activity_eq_of_transmitter_eq {r q : Rpt} (h : r.transmitter = q.transmitter) : r.activity = q.activity :=
  show r.transmitter.activity = q.transmitter.activity from h ▸ rfl

/-! ### What the operations leave of it -/

@[simp] theorem signal_transmitter (e : DiagEvent) (s : State) : (s.signal e).rpt.transmitter = s.rpt.transmitter := by
  simp [Rpt.transmitter]

@[simp] theorem makeDue_transmitter (s : State) : s.makeDue.rpt.transmitter = s.rpt.transmitter := by
  simp [Rpt.transmitter]

@[simp] theorem answer_transmitter (st : ServiceStatus) (s : State) : (s.answer st).rpt.transmitter = s.rpt.transmitter := by
  simp [State.answer]

@[simp] theorem takePeer_transmitter (info : FrameInfo) (role : PeerRole) (rec : Option LocoRecord) (s : State) :
    (s.takePeer info role rec).rpt.transmitter = s.rpt.transmitter := by
  unfold State.takePeer; (repeat' split) <;> simp

@[simp] theorem claim_transmitter (l : Level) (src : Option Nat) (s : State) : (s.claim l src).rpt.transmitter = s.rpt.transmitter := by
  simp [Rpt.transmitter]

@[simp] theorem addCause_transmitter (c : Cause) (s : State) : (s.addCause c).rpt.transmitter = s.rpt.transmitter := by
  simp [Rpt.transmitter]

@[simp] theorem request_transmitter (t : Trigger) (s : State) : (s.request t).rpt.transmitter = s.rpt.transmitter := by
  simp [Rpt.transmitter]

@[simp] theorem systemRequest_transmitter (hold : Bool) (index : Nat) (s : State) :
    (s.systemRequest hold index).rpt.transmitter = s.rpt.transmitter := by
  simp [Rpt.transmitter]

@[simp] theorem allocate_transmitter (t : Trigger) (c : Clip) (s : State) : (s.allocate t c).rpt.transmitter = s.rpt.transmitter := by
  unfold State.allocate; split <;> simp

@[simp] theorem lookupDone_transmitter (t : Trigger) (void : Bool) (s : State) :
    (s.lookupDone t void).rpt.transmitter = s.rpt.transmitter := by
  unfold State.lookupDone; (repeat' split) <;> simp

@[simp] theorem squealTest_transmitter (s : State) : s.squealTest.rpt.transmitter = s.rpt.transmitter := by
  unfold State.squealTest; split <;> simp

@[simp] theorem functionsRefresh_transmitter (s : State) : s.functionsRefresh.rpt.transmitter = s.rpt.transmitter := by
  simp [Rpt.transmitter]

@[simp] theorem entryActions_transmitter (l : Level) (resume : Bool) (s : State) :
    (s.entryActions l resume).rpt.transmitter = s.rpt.transmitter := by
  simp [Rpt.transmitter]

@[simp] theorem settle_transmitter (s0 s : State) : (s.settle s0).rpt.transmitter = s.rpt.transmitter := by
  simp [Rpt.transmitter]

@[simp] theorem memberTest_transmitter (s : State) : s.memberTest.rpt.transmitter = s.rpt.transmitter := by
  unfold State.memberTest; (repeat' split) <;> simp

@[simp] theorem watchMembers_transmitter (always : Bool) (s : State) : (s.watchMembers always).rpt.transmitter = s.rpt.transmitter := by
  simp only [State.watchMembers]; (repeat' split) <;> simp

@[simp] theorem joinFollower_transmitter (s : State) : s.joinFollower.rpt.transmitter = s.rpt.transmitter := by
  simp [State.joinFollower]

@[simp] theorem roleEffects_transmitter (h0 : Level) (before : Option Membership) (old new : ConsistRole) (s : State) :
    (s.roleEffects h0 before old new).rpt.transmitter = s.rpt.transmitter := by
  unfold State.roleEffects; split <;> simp

@[simp] theorem applyMembership_transmitter (h0 : Level) (m : Option Membership) (s : State) :
    (s.applyMembership h0 m).rpt.transmitter = s.rpt.transmitter := by
  simp only [State.applyMembership]; (repeat' split) <;> simp

@[simp] theorem takeMembership_transmitter (h0 : Level) (m : Option Membership) (s : State) :
    (s.takeMembership h0 m).rpt.transmitter = s.rpt.transmitter := by
  unfold State.takeMembership; (repeat' split) <;> simp

@[simp] theorem applySlot_transmitter (h0 : Level) (s : State) : (s.applySlot h0).rpt.transmitter = s.rpt.transmitter := by
  unfold State.applySlot; split <;> simp

@[simp] theorem takeConsist_transmitter (h0 : Level) (d : ConsistData) (s : State) :
    (s.takeConsist h0 d).rpt.transmitter = s.rpt.transmitter := by
  unfold State.takeConsist; split <;> simp

@[simp] theorem chuffEvent_transmitter (s : State) : s.chuffEvent.rpt.transmitter = s.rpt.transmitter := by
  simp [State.chuffEvent]

@[simp] theorem syntheticChuff_transmitter (s : State) : s.syntheticChuff.rpt.transmitter = s.rpt.transmitter := by
  unfold State.syntheticChuff; (repeat' split) <;> simp

@[simp] theorem camTake_transmitter (s : State) : s.camTake.rpt.transmitter = s.rpt.transmitter := by
  unfold State.camTake; split <;> simp

@[simp] theorem camEdge_transmitter (s : State) : s.camEdge.rpt.transmitter = s.rpt.transmitter := by
  unfold State.camEdge; split <;> simp

@[simp] theorem camExpiry_transmitter (s : State) : s.camExpiry.rpt.transmitter = s.rpt.transmitter := by
  simp [State.camExpiry]

@[simp] theorem judgeStopped_transmitter (h0 : Level) (s : State) : (s.judgeStopped h0).rpt.transmitter = s.rpt.transmitter := by
  unfold State.judgeStopped; (repeat' split) <;> simp

@[simp] theorem judgeAfterStop_transmitter (h0 : Level) (ref : Nat) (s : State) :
    (s.judgeAfterStop h0 ref).rpt.transmitter = s.rpt.transmitter := by
  unfold State.judgeAfterStop; split <;> simp

@[simp] theorem stallStop_transmitter (h0 : Level) (s : State) : (s.stallStop h0).rpt.transmitter = s.rpt.transmitter := by
  simp [State.stallStop]

@[simp] theorem controlPeriod_transmitter (s : State) : s.controlPeriod.rpt.transmitter = s.rpt.transmitter := by
  simp only [State.controlPeriod]; (repeat' split) <;> simp

@[simp] theorem emergencyStop_transmitter (h0 : Level) (s : State) : (s.emergencyStop h0).rpt.transmitter = s.rpt.transmitter := by
  simp [State.emergencyStop]

@[simp] theorem depletedStop_transmitter (h0 : Level) (s : State) : (s.depletedStop h0).rpt.transmitter = s.rpt.transmitter := by
  simp [State.depletedStop]

@[simp] theorem overcurrentLatch_transmitter (s : State) : s.overcurrentLatch.rpt.transmitter = s.rpt.transmitter := by
  simp [State.overcurrentLatch]

@[simp] theorem trip_transmitter (s : State) : s.trip.rpt.transmitter = s.rpt.transmitter := by
  simp only [State.trip]; (repeat' split) <;> simp

@[simp] theorem phaseEnd_transmitter (current : Nat) (s : State) : (s.phaseEnd current).rpt.transmitter = s.rpt.transmitter := by
  unfold State.phaseEnd; split <;> simp

@[simp] theorem bemf_transmitter (raw : Nat) (s : State) : (s.bemf raw).rpt.transmitter = s.rpt.transmitter := by
  simp [State.bemf]

@[simp] theorem zoneRequest_transmitter (hold : Bool) (group index : Nat) (s : State) :
    (s.zoneRequest hold group index).rpt.transmitter = s.rpt.transmitter := by
  simp [State.zoneRequest]

@[simp] theorem setZone_transmitter (passing : Bool) (f : ZoneFlags) (s : State) :
    (s.setZone passing f).rpt.transmitter = s.rpt.transmitter := by
  unfold State.setZone; (repeat' split) <;> simp

@[simp] theorem passingNotice_transmitter (h0 : Level) (r : BeaconRecord) (s : State) :
    (s.passingNotice h0 r).rpt.transmitter = s.rpt.transmitter := by
  unfold State.passingNotice; (repeat' split) <;> simp

@[simp] theorem passBeacon_transmitter (h0 : Level) (b : Nat) (d : BeaconData) (s : State) :
    (s.passBeacon h0 b d).rpt.transmitter = s.rpt.transmitter := by
  simp [State.passBeacon]

@[simp] theorem updateBeacon_transmitter (h0 : Level) (r : BeaconRecord) (d : BeaconData) (s : State) :
    (s.updateBeacon h0 r d).rpt.transmitter = s.rpt.transmitter := by
  simp [State.updateBeacon]

@[simp] theorem takeBeacon_transmitter (h0 : Level) (info : FrameInfo) (d : BeaconData) (s : State) :
    (s.takeBeacon h0 info d).rpt.transmitter = s.rpt.transmitter := by
  unfold State.takeBeacon; (repeat' split) <;> simp

@[simp] theorem emergency_transmitter (h0 : Level) (s : State) : (s.emergency h0).rpt.transmitter = s.rpt.transmitter := by
  unfold State.emergency; split <;> simp

@[simp] theorem bindDriver_transmitter (h0 : Level) (info : FrameInfo) (d : ThrottleData) (s : State) :
    (s.bindDriver h0 info d).rpt.transmitter = s.rpt.transmitter := by
  unfold State.bindDriver; split <;> simp

@[simp] theorem rebindDriver_transmitter (h0 : Level) (info : FrameInfo) (d : ThrottleData) (s : State) :
    (s.rebindDriver h0 info d).rpt.transmitter = s.rpt.transmitter := by
  unfold State.rebindDriver; split <;> simp

@[simp] theorem releaseDriver_transmitter (h0 : Level) (d : ThrottleData) (s : State) :
    (s.releaseDriver h0 d).rpt.transmitter = s.rpt.transmitter := by
  unfold State.releaseDriver; split <;> simp

@[simp] theorem boundFrame_transmitter (h0 : Level) (d : ThrottleData) (s : State) :
    (s.boundFrame h0 d).rpt.transmitter = s.rpt.transmitter := by
  unfold State.boundFrame; (repeat' split) <;> simp

@[simp] theorem driverFrame_transmitter (h0 : Level) (info : FrameInfo) (d : ThrottleData) (s : State) :
    (s.driverFrame h0 info d).rpt.transmitter = s.rpt.transmitter := by
  unfold State.driverFrame; (repeat' split) <;> simp

@[simp] theorem takeThrottle_transmitter (h0 : Level) (info : FrameInfo) (d : ThrottleData) (s : State) :
    (s.takeThrottle h0 info d).rpt.transmitter = s.rpt.transmitter := by
  unfold State.takeThrottle; split <;> simp

@[simp] theorem sampleOccupancy_transmitter (base : SampleBase) (s : State) :
    (s.sampleOccupancy base).rpt.transmitter = s.rpt.transmitter := by
  simp [State.sampleOccupancy, Rpt.transmitter]

@[simp] theorem enterDepleted_transmitter (h0 : Level) (s : State) : (s.enterDepleted h0).rpt.transmitter = s.rpt.transmitter := by
  simp [State.enterDepleted]

@[simp] theorem supplyMoved_transmitter (h0 : Level) (m : SupplyMove) (s : State) :
    (s.supplyMoved h0 m).rpt.transmitter = s.rpt.transmitter := by
  unfold State.supplyMoved; split <;> simp

@[simp] theorem bridgingDone_transmitter (s : State) : s.bridgingDone.rpt.transmitter = s.rpt.transmitter := by
  simp [State.bridgingDone]

@[simp] theorem clearFaults_transmitter (s : State) : s.clearFaults.rpt.transmitter = s.rpt.transmitter := by
  unfold State.clearFaults; split <;> simp

@[simp] theorem busy_transmitter (op : Nat) (s : State) : (s.busy op).rpt.transmitter = s.rpt.transmitter := by
  simp [State.busy]

@[simp] theorem dropFrame_transmitter (r : DropReason) (s : State) : (s.dropFrame r).rpt.transmitter = s.rpt.transmitter := by
  simp [State.dropFrame]

@[simp] theorem acceptFrame_transmitter (kind : Nat) (s : State) : (s.acceptFrame kind).rpt.transmitter = s.rpt.transmitter := by
  simp [State.acceptFrame]

@[simp] theorem takeHeader_transmitter (bytes : HeaderBytes) (levels : Levels) (s : State) :
    (s.takeHeader bytes levels).rpt.transmitter = s.rpt.transmitter := by
  unfold State.takeHeader; (repeat' split) <;> simp

@[simp] theorem hear_transmitter (info : FrameInfo) (role : PeerRole) (rec : Option LocoRecord) (s : State) :
    (s.hear info role rec).rpt.transmitter = s.rpt.transmitter := by
  unfold State.hear; split <;> simp

@[simp] theorem dispatchThrottle_transmitter (payload : List Byte) (info : FrameInfo) (s : State) :
    (s.dispatchThrottle payload info).rpt.transmitter = s.rpt.transmitter := by
  unfold State.dispatchThrottle; split <;> simp

@[simp] theorem dispatchConsist_transmitter (payload : List Byte) (info : FrameInfo) (s : State) :
    (s.dispatchConsist payload info).rpt.transmitter = s.rpt.transmitter := by
  simp [State.dispatchConsist]

@[simp] theorem dispatchBeacon_transmitter (payload : List Byte) (info : FrameInfo) (s : State) :
    (s.dispatchBeacon payload info).rpt.transmitter = s.rpt.transmitter := by
  simp [State.dispatchBeacon]

@[simp] theorem consistReport_transmitter (h0 : Level) (info : FrameInfo) (d : LocoData) (s : State) :
    (s.consistReport h0 info d).rpt.transmitter = s.rpt.transmitter := by
  unfold State.consistReport; (repeat' split) <;> simp

@[simp] theorem dispatchLoco_transmitter (payload : List Byte) (info : FrameInfo) (s : State) :
    (s.dispatchLoco payload info).rpt.transmitter = s.rpt.transmitter := by
  simp [State.dispatchLoco]

@[simp] theorem linkLost_transmitter (l : Link) (s : State) : (s.linkLost l).rpt.transmitter = s.rpt.transmitter := by
  simp [State.linkLost]

@[simp] theorem ageStep_transmitter (s : State) : s.ageStep.rpt.transmitter = s.rpt.transmitter := by
  simp only [State.ageStep]; (repeat' split) <;> simp

@[simp] theorem graceDone_transmitter (m : Nat) (s : State) : (s.graceDone m).rpt.transmitter = s.rpt.transmitter := by
  simp [State.graceDone]

@[simp] theorem valveDone_transmitter (s : State) : s.valveDone.rpt.transmitter = s.rpt.transmitter := by
  unfold State.valveDone; split <;> simp

@[simp] theorem close_transmitter (s0 s : State) : (s.close s0).rpt.transmitter = s.rpt.transmitter := by
  unfold State.close; split <;> simp

@[simp] theorem close_power (s0 s : State) : (s.close s0).power = s.power := by
  unfold State.close; split <;> simp

/-! ### Events that keep the transmitter or start it -/

/-- Power and the transmitter are as they were. -/
def KeepsTransmitter (s t : State) : Prop := t.power = s.power ∧ t.rpt.transmitter = s.rpt.transmitter

/-- Power and the transmitter are as they were, or the transmitter is as a start leaves it (R167). -/
def KeepsOrStarts (s t : State) : Prop := KeepsTransmitter s t ∨ t.rpt.transmitter = Rpt.transmitter {}

theorem KeepsTransmitter.rfl {s : State} : KeepsTransmitter s s := ⟨Eq.refl _, Eq.refl _⟩

theorem KeepsOrStarts.rfl {s : State} : KeepsOrStarts s s := .inl .rfl

theorem KeepsTransmitter.then {s t u : State} (hst : KeepsTransmitter s t) (htu : KeepsOrStarts t u) : KeepsOrStarts s u := by
  rcases htu with ⟨hpower, htx⟩ | hstart
  · exact .inl ⟨hpower.trans hst.1, htx.trans hst.2⟩
  · exact .inr hstart

theorem KeepsOrStarts.close {s t s0 : State} (h : KeepsOrStarts s t) : KeepsOrStarts s (t.close s0) := by
  simpa only [KeepsOrStarts, KeepsTransmitter, close_power, close_transmitter] using h

/-! ### The start sequence and the service operations -/

theorem beginStart_starts (answers : Bool) (s : State) : (s.beginStart answers).rpt.transmitter = Rpt.transmitter {} := rfl

theorem brownOut_starts (stored : BitVec 16) (s : State) : (s.brownOut stored).rpt.transmitter = Rpt.transmitter {} := rfl

theorem completeStart_starts (s : State) : s.completeStart.rpt.transmitter = Rpt.transmitter {} := by
  simp [State.completeStart, State.startupSound, State.startValues]

theorem entryTest_keepsOrStarts (track store : Byte) (s : State) : KeepsOrStarts s (s.entryTest track store) := by
  unfold State.entryTest
  split
  · split
    · exact .inl ⟨rfl, rfl⟩
    · exact .inr (completeStart_starts s)
  · exact .inl ⟨rfl, rfl⟩

theorem writeDone_keepsOrStarts (st : ServiceStatus) (startAnswers : Bool) (s : State) :
    KeepsOrStarts s (s.writeDone st startAnswers) := by
  unfold State.writeDone
  split
  · exact .inr (beginStart_starts _ _)
  · exact .inl ⟨by simp, by simp⟩

theorem pageDone_keepsOrStarts (answers : Bool) (wrong : List Host.Cell) (startAnswers : Bool) (w : Writing) (s : State) :
    KeepsOrStarts s (s.pageDone answers wrong startAnswers w) := by
  have hstored : KeepsTransmitter s (s.onEeprom fun m => pageStored m w wrong) := ⟨rfl, rfl⟩
  unfold State.pageDone
  split
  · split
    · exact hstored.then (writeDone_keepsOrStarts _ _ _)
    · exact .inl ⟨rfl, rfl⟩
  · exact hstored.then (writeDone_keepsOrStarts _ _ _)

theorem acceptService_keepsOrStarts (startAnswers : Bool) (d : ServiceData) (s : State) :
    KeepsOrStarts s (s.acceptService startAnswers d) := by
  unfold State.acceptService
  split
  · exact .inl ⟨rfl, rfl⟩
  · exact .inl ⟨by simp, by simp⟩
  · exact .inr (beginStart_starts _ _)

theorem takeService_keepsOrStarts (startAnswers : Bool) (d : ServiceData) (s : State) :
    KeepsOrStarts s (s.takeService startAnswers d) := by
  have answered (st : ServiceStatus) : KeepsOrStarts s (s.answer st) := .inl ⟨by simp, by simp⟩
  unfold State.takeService
  split
  · exact answered _
  · split
    · exact answered _
    · split
      · exact .inl ⟨by simp, by simp⟩
      · split
        · exact answered _
        · exact acceptService_keepsOrStarts _ _ _

/-! ### Frames -/

theorem dispatchService_keepsOrStarts (startAnswers : Bool) (payload : List Byte) (info : FrameInfo) (s : State) :
    KeepsOrStarts s (State.dispatchService startAnswers payload info s) := by
  have heard : KeepsTransmitter s (s.hear info .tool none) := ⟨by simp, by simp⟩
  unfold State.dispatchService
  split
  · exact heard.then (takeService_keepsOrStarts _ _ _)
  · exact .rfl

/-- A frame's arrival does to the transmitter what its dispatch does: tests, counts and the event's end leave it alone. -/
theorem takeFrame_keepsOrStarts {dispatch : FrameInfo → State → State} (hd : ∀ info u, KeepsOrStarts u (dispatch info u))
    (kinds : Nat → Bool) (payload : List Byte) (crc : BitVec 16) (s : State) :
    KeepsOrStarts s (s.takeFrame kinds payload crc dispatch) := by
  have judged (u : State) (c : Collected) : KeepsOrStarts u (u.judgeFrame c payload crc dispatch) := by
    have accepted : KeepsTransmitter u (u.acceptFrame (headerKind c.bytes)) := ⟨by simp, by simp⟩
    unfold State.judgeFrame
    split
    · exact .inl ⟨by simp, by simp⟩
    · exact accepted.then (hd _ _)
  have collected : KeepsTransmitter s (s.onRxc fun r => { r with collecting := none }) := ⟨rfl, rfl⟩
  unfold State.takeFrame
  split
  · dsimp only
    split
    · exact (collected.then (judged _ _)).close
    · exact .inl collected
    · exact .rfl
  · exact .rfl

/-! ### The answers of the commands -/

/-- Every next state of an answer has a property. -/
def Yields (p : State → Prop) (o : Host.Outcome State Fault Refusal) : Prop := ∀ t, o = .next t → p t

section Yields

variable {p q : State → Prop} {s t : State} {o o' : Host.Outcome State Fault Refusal}

theorem yields_next (h : p t) : Yields p (.next t) := by
  rintro u ⟨⟩
  exact h

theorem yields_whenRunning (hs : p s) (ht : p t) : Yields p (whenRunning s t) := by
  unfold whenRunning
  split
  · exact yields_next ht
  · exact yields_next hs
  · exact yields_next hs

theorem yields_ite {c : Prop} [Decidable c] (h : c → Yields p o) (h' : ¬c → Yields p o') : Yields p (if c then o else o') := by
  split
  · exact h ‹_›
  · exact h' ‹_›

theorem Yields.mono (h : Yields p o) (hpq : ∀ t, p t → q t) : Yields q o := fun t ht => hpq t (h t ht)

end Yields

section Answers

variable {s t u : State} {c : Prop} [Decidable c]

/-- An event of a running part that keeps the transmitter. -/
theorem yields_kept (hp : t.power = s.power) (ht : t.rpt.transmitter = s.rpt.transmitter) :
    Yields (KeepsOrStarts s) (whenRunning s t) :=
  yields_whenRunning .rfl (.inl ⟨hp, ht⟩)

/-- An event of a running part that ends at AUT. -/
theorem yields_closed (h : KeepsOrStarts s t) : Yields (KeepsOrStarts s) (whenRunningClose s t) :=
  yields_whenRunning .rfl h.close

/-- A command that acts where its condition holds (entry 7). -/
theorem yields_timed (h : Yields (KeepsOrStarts s) (whenRunning s t)) :
    Yields (KeepsOrStarts s) (if c then whenRunning s t else .next s) :=
  yields_ite (fun _ => h) fun _ => yields_next .rfl

end Answers

/-! ### What the commands do to the transmitter -/

/-- The commands of the transmitter itself (R23 to R29). -/
def drivesTransmitter : Instr → Bool
  | .lfsrSeedTaken _ => true
  | .holdoffExpires => true
  | .reportPeriodDue => true
  | .clearChannelCheck => true
  | .ccaComplete _ _ => true
  | .backoffExpires => true
  | .transmissionEnd => true
  | .creditAccrual => true
  | _ => false

/-- A command that is not the transmitter's own keeps power and the transmitter, or starts the part or stops it. -/
theorem exec_keepsOrStarts {c : Instr} (hc : drivesTransmitter c = false) (s : State) : Yields (KeepsOrStarts s) (exec c s) := by
  have kept {t : State} (hp : t.power = s.power) (ht : t.rpt.transmitter = s.rpt.transmitter) : KeepsOrStarts s t := .inl ⟨hp, ht⟩
  cases c with
  | headerComplete channel bytes levels =>
    refine yields_next ?_
    split
    · exact kept (by simp) (by simp)
    · exact .rfl
  | throttleFrame _ _ | consistFrame _ _ | beaconFrame _ _ | locoFrame _ _ =>
    exact yields_next (takeFrame_keepsOrStarts (fun _ _ => .inl ⟨by simp, by simp⟩) _ _ _ _)
  | undefinedKindFrame _ _ => exact yields_next (takeFrame_keepsOrStarts (fun _ _ => .rfl) _ _ _ _)
  | serviceWrite _ _ | serviceClearFaults _ _ | serviceRestart _ _ _ | serviceOtherOp _ _ =>
    exact yields_next (takeFrame_keepsOrStarts (dispatchService_keepsOrStarts _ _) _ _ _ _)
  | peerAgeingStep | controlPeriod | drivePhaseEnd _ | bemfSample _ | thermostatTick _ =>
    exact yields_closed (kept (by simp) (by simp))
  | linkWindowExpires _ | dwellExpires | failsafeHoldExpires | graceTimerExpires _ | overcurrentTrip _ | coolEnds _ | stallDetected
  | supplyLoss _ _ | supplyReturn _ _ | bridgingTimerExpires | normalHoldExpires =>
    exact yields_timed (yields_closed (kept (by simp) (by simp)))
  | occupancySample _ | soundSampleEvent | flickerLfsrStep => exact yields_kept (by simp) (by simp)
  | tripDecayExpires | camWindowExpires | valveTimerExpires | standstillTimerExpires | fanBurstEnds | flareEnds | ditchPhaseToggle
  | fadeStep _ | strobePhaseAdvance _ => exact yields_timed (yields_kept (by simp) (by simp))
  | wheelSensorEdge level => exact yields_whenRunning (kept (by simp) (by simp)) (kept (by simp) (by simp))
  | lookupComplete =>
    simp only [exec, execLookupComplete]
    split
    · exact yields_kept (by simp) (by simp)
    · exact yields_next .rfl
    · exact yields_next .rfl
  | refillComplete =>
    simp only [exec, execRefillComplete]
    split
    · exact yields_kept (by simp) (by simp)
    · exact yields_next .rfl
    · exact yields_next .rfl
  | blinkPhaseEnd lamp =>
    simp only [exec, execBlinkPhaseEnd]
    split
    · exact yields_timed (yields_kept (by simp) (by simp))
    · exact yields_next .rfl
  | supplyEvaluation track store =>
    simp only [exec, execSupplyEvaluation]
    split
    · exact yields_next (KeepsOrStarts.close (kept (by simp) (by simp)))
    · exact yields_next (entryTest_keepsOrStarts _ _ _)
    · exact yields_next .rfl
  | brownOut stored =>
    simp only [exec, execBrownOut]
    split
    · exact yields_next .rfl
    · exact yields_next (.inr (brownOut_starts _ _))
    · exact yields_next (.inr (brownOut_starts _ _))
  | powerOn answers =>
    simp only [exec, execPowerOn]
    split
    · exact yields_next (.inr (beginStart_starts _ _))
    · exact yields_next .rfl
    · exact yields_next .rfl
  | entryTestPassed track store =>
    simp only [exec, execEntryTestPassed]
    split
    · exact yields_ite (fun _ => yields_next (entryTest_keepsOrStarts _ _ _)) fun _ => yields_next .rfl
    · exact yields_next .rfl
    · exact yields_next .rfl
  | pageWriteComplete answers wrong startAnswers =>
    simp only [exec, execPageWriteComplete]
    split
    · exact yields_closed (pageDone_keepsOrStarts _ _ _ _ _)
    · exact yields_next .rfl
  | lfsrSeedTaken _ | holdoffExpires | reportPeriodDue | clearChannelCheck | ccaComplete _ _ | backoffExpires | transmissionEnd
  | creditAccrual => cases hc

/-! ### The airtime credit (R29) -/

/-- What one command can do to the airtime credit: nothing, and no transmission begins; a start or a stop empties it; an accrual; a
report that starts at the end of a check. -/
inductive CreditStep (c : Instr) (s t : State) : Prop
  | kept (power : t.power = s.power) (credit : t.rpt.credit = s.rpt.credit)
      (silent : t.rpt.activity = .sending → s.rpt.activity = .sending)
  | emptied (credit : t.rpt.credit = 0) (activity : t.rpt.activity = .holdoff)
  | accrued (command : c = .creditAccrual) (power : t.power = s.power) (credit : t.rpt.credit = min (s.rpt.credit + 100) 50000)
      (activity : t.rpt.activity = s.rpt.activity)
  | reported (power : t.power = s.power) (checking : s.rpt.activity = .checking) (credit : t.rpt.credit = s.rpt.credit - reportAirtime)

theorem CreditStep.rfl {c : Instr} {s : State} : CreditStep c s s := .kept (Eq.refl _) (Eq.refl _) id

theorem KeepsOrStarts.creditStep {s t : State} (c : Instr) (h : KeepsOrStarts s t) : CreditStep c s t := by
  rcases h with ⟨hpower, htx⟩ | hstart
  · exact .kept hpower (credit_eq_of_transmitter_eq htx) fun ht => activity_eq_of_transmitter_eq htx ▸ ht
  · exact .emptied (credit_eq_of_transmitter_eq hstart) (activity_eq_of_transmitter_eq hstart)

/-- A command of the transmitter acts in a running part where its condition holds. -/
theorem yields_creditStep {c : Instr} {s t : State} {b : Prop} [Decidable b] (h : b → CreditStep c s t) :
    Yields (CreditStep c s) (if b then whenRunning s t else .next s) :=
  yields_ite (fun hb => yields_whenRunning .rfl (h hb)) fun _ => yields_next .rfl

theorem finishCheck_creditStep {c : Instr} {s : State} (hs : s.rpt.activity = .checking) (first second : Int) :
    CreditStep c s (s.finishCheck first second) := by
  unfold State.finishCheck
  split
  · exact .reported (by simp) hs rfl
  · exact .kept (by simp) (by simp [State.backOff]) (by simp [State.backOff])

theorem clockDue_creditStep {c : Instr} (s : State) : CreditStep c s s.clockDue := by
  unfold State.clockDue
  split
  · exact .kept rfl rfl id
  · exact .rfl

theorem sendDone_creditStep {c : Instr} (s : State) : CreditStep c s s.sendDone :=
  .kept (by simp) (by simp [State.sendDone]) (by simp [State.sendDone])

theorem satAdd_eq_min (x n cap : Nat) : satAdd x n cap = min (x + n) cap := by
  unfold satAdd; split <;> omega

/-- An accrual is 100 µs, up to 50,000 µs (R29). -/
theorem accrue_eq (s : State) : s.accrue = { s with rpt := { s.rpt with credit := min (s.rpt.credit + 100) 50000 } } := by
  simp only [State.accrue, State.onRpt, satAdd_eq_min]

/-- Every command does one of the four to the credit. -/
theorem exec_creditStep (c : Instr) (s : State) : Yields (CreditStep c s) (exec c s) := by
  cases c with
  | lfsrSeedTaken level => exact yields_creditStep fun _ => .kept rfl rfl id
  | holdoffExpires => exact yields_creditStep fun _ => .kept rfl rfl nofun
  | reportPeriodDue => exact yields_creditStep fun _ => clockDue_creditStep s
  | clearChannelCheck => exact yields_creditStep fun _ => .kept rfl rfl nofun
  | ccaComplete first second => exact yields_creditStep fun hs => finishCheck_creditStep hs first second
  | backoffExpires => exact yields_creditStep fun _ => .kept rfl rfl nofun
  | transmissionEnd => exact yields_creditStep fun _ => sendDone_creditStep s
  | creditAccrual => exact yields_whenRunning .rfl (.accrued rfl rfl (by rw [accrue_eq]) rfl)
  | _ => exact (exec_keepsOrStarts rfl s).mono fun _ => KeepsOrStarts.creditStep _

theorem exec_creditAccrual {s : State} (h : s.power = .running) :
    exec .creditAccrual s = .next { s with rpt := { s.rpt with credit := min (s.rpt.credit + 100) 50000 } } := by
  rw [← accrue_eq]
  exact whenRunning_of_running h

namespace CreditStep

variable {c : Instr} {s t : State}

theorem credit_of_start (h : CreditStep c s t) (hs : s.power ≠ .running) (ht : t.power = .running) : t.rpt.credit = 0 := by
  cases h with
  | emptied credit _ => exact credit
  | kept power | accrued _ power | reported power => exact absurd (power.symm.trans ht) hs

theorem credit_le (h : CreditStep c s t) (hs : CreditLaw s) : t.rpt.credit ≤ 50000 := by
  obtain ⟨hcap, -⟩ := hs
  cases h <;> omega

theorem raised_only_by_accrual (h : CreditStep c s t) (hr : s.rpt.credit < t.rpt.credit) :
    c = .creditAccrual ∧ s.rpt.credit ≤ 50000 := by
  cases h with
  | accrued command _ credit _ => exact ⟨command, by omega⟩
  | kept _ credit | emptied credit | reported _ _ credit => omega

theorem report_paid (h : CreditStep c s t) (hlaw : CreditLaw s) (hs : s.rpt.activity ≠ .sending) (ht : t.rpt.activity = .sending) :
    2640 ≤ s.rpt.credit ∧ t.rpt.credit = s.rpt.credit - 2640 := by
  obtain ⟨-, hpaid, -⟩ := hlaw
  cases h with
  | kept _ _ silent => exact absurd (silent ht) hs
  | emptied _ activity => exact absurd (activity.symm.trans ht) nofun
  | accrued _ _ _ activity => exact absurd (activity.symm.trans ht) hs
  | reported _ checking credit => exact ⟨hpaid (.inl checking), credit⟩

end CreditStep

/-- Settles O40: every command's effect on the credit is one of the four of `CreditStep`, and each part of the law follows from them. -/
theorem airtimeCreditFollowsItsLaw : Obligations.AirtimeCreditFollowsItsLaw := by
  refine ⟨fun s h => exec_creditAccrual h, fun c s t h => ?_⟩
  have hstep : CreditStep c s t := exec_creditStep c s t h
  exact ⟨hstep.credit_of_start, hstep.credit_le, hstep.raised_only_by_accrual, hstep.report_paid⟩

end Sys2Proof.Machine
end

section
/-! The ageing step of the peer table (R39), and the reach of an event that ends at AUT. -/

namespace Sys2Proof.Machine

/-! ### The reach of an event that ends at AUT -/

section Reach

variable {s t u : State} {bs cs : List Block}

theorem blockKept.trans {b : Block} (hst : blockKept s t b) (htu : blockKept t u b) : blockKept s u b := by
  cases b <;> exact Eq.trans htu hst

/-- What follows an event's own changes reaches no further than the event where its blocks are among the event's. -/
theorem reachesOnly.trans (hst : reachesOnly bs s t) (htu : reachesOnly cs t u) (hsub : cs ⊆ bs) : reachesOnly bs s u :=
  fun b hb => (hst b hb).trans (htu b fun hc => hb (hsub hc))

theorem reachesOnly_settle (s t : State) : reachesOnly settlingBlocks t (t.settle s) := by
  intro b hb
  cases b with
  | aut | snd | rpt | fnm | spr | smk | lmp => exact absurd hb (by decide)
  | _ => simp [blockKept]

theorem motionKept_settle (h : motionKept s t) : motionKept s (t.settle u) := by
  simpa [motionKept] using h

theorem motionKept_of_spr_eq (h : t.spr = s.spr) : motionKept s t := by
  simp [motionKept, h]

/-- In a running part that stays running, an event that ends at AUT answers with its changes settled. -/
theorem whenRunningClose_of_running (hs : s.power = .running) (ht : t.power = .running) :
    whenRunningClose s t = .next (t.settle s) := by
  rw [whenRunningClose, whenRunning_of_running hs, close_of_running ht]

end Reach

/-! ### The ageing step (R39) -/

/-- Both tests that may follow the ageing leave the table as the ageing made it. -/
@[simp] theorem ageStep_entries (s : State) : s.ageStep.ptb.entries = s.ptb.entries.map (agedEntry s.pinned) := by
  simp only [State.ageStep]
  split <;> split <;> simp

/-- The ageing reaches the table, the occupancy limit of TKM, and with a MEMBER cause AUT and RPT (R39, R46, R83). -/
theorem reachesOnly_ageStep (s : State) : reachesOnly (.ptb :: .tkm :: settlingBlocks) s s.ageStep := by
  intro b hb
  cases b with
  | ptb | tkm | aut | rpt => exact absurd hb (by decide)
  | _ => simp [blockKept]

theorem exec_peerAgeingStep {s : State} (h : s.power = .running) :
    exec .peerAgeingStep s = .next (s.ageStep.settle s) :=
  whenRunningClose_of_running h (by simp [h])

/-- An entry one step older is 10 ms older up to 65535, and STALE where overdue (R39, steps 1 and 2). -/
theorem agedPeer_eq {p : Peer} {age : Nat} {stale : Bool} (hage : age = min (p.age + 10) 65535)
    (hstale : stale = (p.stale || decide (4 * p.period.getD 2000 < age))) :
    agedPeer p = { p with age := age, stale := stale } := by
  rw [agedPeer, satAdd_eq, staleAfter, ← hage, ← hstale]

/-- An entry is emptied where it is STALE, unpinned and 60,000 ms old, and kept one step older elsewhere (R39, step 3). -/
theorem agedEntry_some (pinned : Nat → Bool) (p : Peer) :
    agedEntry pinned (some p) =
      if (agedPeer p).stale = true ∧ pinned p.station = false ∧ 60000 ≤ (agedPeer p).age then none else some (agedPeer p) := by
  simp [agedEntry, and_assoc]

/-- Settles O35: the step maps `agedEntry` over the table, and the end of the event leaves the table alone. -/
theorem ageingStepAgesEveryEntry : Obligations.AgeingStepAgesEveryEntry := by
  intro s hpower
  have hentries : (s.ageStep.settle s).ptb.entries = s.ptb.entries.map (agedEntry s.pinned) := by simp
  refine ⟨s.ageStep.settle s, exec_peerAgeingStep hpower, ?length, ?empty, ?entry, ?reach, ?motion⟩
  case length => rw [hentries, List.length_map]
  case empty =>
    intro i hi
    rw [hentries, List.getElem?_map, hi]
    rfl
  case entry =>
    intro i p age stale hi hage hstale
    rw [hentries, List.getElem?_map, hi, Option.map_some, agedEntry_some, agedPeer_eq hage hstale]
  case reach => exact (reachesOnly_ageStep s).trans (reachesOnly_settle s _) (by simp)
  case motion => exact motionKept_settle (motionKept_of_spr_eq (by simp))

end Sys2Proof.Machine
end

section
/-! The PI law (R104, R105): its sum, its error, and the integral and duty it answers. -/

namespace Sys2Proof.Machine

section Law

variable (t : TractionConfig) (dMax ref y : Nat) (integral e : Int)

/-- Toward minus infinity is Lean's own division where the divisor is not negative. -/
theorem floorDiv_eq_ediv (a : Int) {b : Int} (hb : 0 ≤ b) : floorDiv a b = a / b :=
  Int.fdiv_eq_ediv_of_nonneg a hb

theorem lawSum_eq : lawSum t ref e integral = (t.kp * e + integral) / 64 + (ref / 16 * t.feed / 1024 : Nat) := by
  rw [lawSum, floorDiv_eq_ediv _ (by decide)]

/-- The error of the law (R104). -/
def lawError (ref y : Nat) : Int := (ref / 16 : Nat) - (y : Int)

/-- The integral of a period before the anti-windup (R104). -/
def nextIntegral : Int := max (-64000) (min 64000 (integral + t.ki * lawError ref y))

/-- The duty of a sum lies past a limit, and the error drives it further (R105). -/
def windsUp (dMax : Nat) (sum e : Int) : Prop := dMax < sum ∧ 0 < e ∨ sum < 0 ∧ e < 0

theorem clampInt_eq_nextIntegral :
    clampInt (integral + t.ki * lawError ref y) (-64000) 64000 = nextIntegral t ref y integral := by
  rw [clampInt_eq _ _ _ (by decide), min_comm, nextIntegral]

/-- The anti-windup keeps the old integral (R105). -/
theorem piLaw_integral_of_windsUp
    (h : windsUp dMax (lawSum t ref (lawError ref y) (nextIntegral t ref y integral)) (lawError ref y)) :
    (piLaw t dMax ref y integral).integral = integral := by
  rw [← clampInt_eq_nextIntegral] at h
  exact if_pos h

/-- Elsewhere the law takes the new integral (R104). -/
theorem piLaw_integral_of_not_windsUp
    (h : ¬windsUp dMax (lawSum t ref (lawError ref y) (nextIntegral t ref y integral)) (lawError ref y)) :
    (piLaw t dMax ref y integral).integral = nextIntegral t ref y integral := by
  rw [← clampInt_eq_nextIntegral] at h ⊢
  exact if_neg h

/-- Either way the duty is the sum of the integral taken, clamped: the anti-windup's second sum is the same formula (R105). -/
theorem piLaw_duty :
    ((piLaw t dMax ref y integral).duty : Int)
      = max 0 (min (dMax : Int) (lawSum t ref (lawError ref y) (piLaw t dMax ref y integral).integral)) := by
  have hduty : (piLaw t dMax ref y integral).duty
      = (clampInt (lawSum t ref (lawError ref y) (piLaw t dMax ref y integral).integral) 0 dMax).toNat := rfl
  rw [hduty, clampInt_eq _ _ _ (Int.natCast_nonneg dMax), Int.toNat_of_nonneg (le_max_left _ _), min_comm]

end Law

/-- Settles O44: the two branches differ in the integral alone, and the duty follows from it. -/
theorem lawFollowsErrorAndAntiWindup : Obligations.LawFollowsErrorAndAntiWindup := by
  intro t dMax ref y integral e next sum he hnext hsum
  obtain rfl : e = lawError ref y := he
  obtain rfl : next = nextIntegral t ref y integral := hnext
  rw [← lawSum_eq] at hsum
  subst hsum
  refine ⟨fun hwinds => ?kept, fun hfree => ?taken⟩
  case kept =>
    have hintegral := piLaw_integral_of_windsUp t dMax ref y integral hwinds
    exact ⟨hintegral, by rw [piLaw_duty, hintegral, lawSum_eq]⟩
  case taken =>
    have hintegral := piLaw_integral_of_not_windsUp t dMax ref y integral hfree
    exact ⟨hintegral, by rw [piLaw_duty, hintegral]⟩

end Sys2Proof.Machine
end

section
/-! The voice gain of the mixer (R140) and the chuff load gain under it (R141). -/

namespace Sys2Proof.Machine

section Gain

variable (k : SoundConfig) (duty : Nat) {v : Voice}

/-- The load gain of R141: with G_min within a byte the clamp's bounds are in order. -/
theorem chuffGain_eq (hmin : k.gMin ≤ 255) :
    chuffGain k duty = max (k.gMin : Int) (min 255 (k.gBase + ((duty : Int) - k.uCruise) * k.kLoad / 64)) := by
  rw [chuffGain, clampInt_eq _ _ _ (by exact_mod_cast hmin), floorDiv_eq_ediv _ (by decide), min_comm]

theorem ownerGain_of_chuff {o : Option Owner} (h : o = some .chuff) : ownerGain k duty o = chuffGain k duty := if_pos h

theorem ownerGain_of_not_chuff {o : Option Owner} (h : o ≠ some .chuff) : ownerGain k duty o = 255 := if_neg h

/-- A playing voice gives its sample under the clip's and the owner's gain (R140, step 1). -/
theorem contribution_of_voicePlays (h : voicePlays v = true) :
    contribution k duty v = voiceSample v * (v.clip.gain * ownerGain k duty v.owner / 256) := by
  rw [contribution, if_pos h, floorDiv_eq_ediv _ (by decide)]

end Gain

/-- Settles O53: by the owner, the gain is the load gain or 255. -/
theorem chuffGainFollowsTheDuty : Obligations.ChuffGainFollowsTheDuty := by
  intro k duty v hmin hplays
  rw [contribution_of_voicePlays k duty hplays]
  refine ⟨fun howner => ?chuff, fun howner => ?other⟩
  case chuff => rw [ownerGain_of_chuff k duty howner, chuffGain_eq k duty hmin]
  case other =>
    rw [ownerGain_of_not_chuff k duty howner]
    norm_cast

end Sys2Proof.Machine
end

section
/-! What a command can do, said once: the changes an event makes before its end at AUT, the effects of the commands that end nowhere, and
the commands of a part that does not run. Every law kept by every command is proved over these cases. -/

namespace Sys2Proof.Machine

/-! ### Frames -/

/-- The receiver hunts for a header again (R4). -/
def State.hunting (s : State) : State := s.onRxc fun r => { r with collecting := none }

theorem accepted_eq (kind : Nat) (s : State) : s.accepted kind = s.hunting.acceptFrame kind := rfl

@[simp] theorem hunting_frame (s : State) :
    s.hunting.pending = s.pending ∧ s.hunting.power = s.power ∧ s.hunting.rpt = s.rpt ∧ s.hunting.ptb = s.ptb ∧
    s.hunting.tkm = s.tkm ∧ s.hunting.aut = s.aut ∧ s.hunting.csu = s.csu ∧ s.hunting.spr = s.spr ∧ s.hunting.mrg = s.mrg ∧
    s.hunting.fnm = s.fnm ∧ s.hunting.chg = s.chg ∧ s.hunting.snd = s.snd ∧ s.hunting.smk = s.smk ∧ s.hunting.lmp = s.lmp ∧
    s.hunting.sup = s.sup ∧ s.hunting.cfg = s.cfg ∧ s.hunting.eeprom = s.eeprom ∧ s.hunting.flash = s.flash ∧
    s.hunting.rxc = { s.rxc with collecting := none } := by
  simp [State.hunting]

/-- An accepted frame changes the receiver's counts and the counters of RPT alone (R9, R31). -/
@[simp] theorem accepted_frame (kind : Nat) (s : State) :
    (s.accepted kind).pending = s.pending ∧ (s.accepted kind).power = s.power ∧ (s.accepted kind).ptb = s.ptb ∧
    (s.accepted kind).tkm = s.tkm ∧ (s.accepted kind).aut = s.aut ∧ (s.accepted kind).csu = s.csu ∧
    (s.accepted kind).spr = s.spr ∧ (s.accepted kind).mrg = s.mrg ∧ (s.accepted kind).fnm = s.fnm ∧
    (s.accepted kind).chg = s.chg ∧ (s.accepted kind).snd = s.snd ∧ (s.accepted kind).smk = s.smk ∧
    (s.accepted kind).lmp = s.lmp ∧ (s.accepted kind).sup = s.sup ∧ (s.accepted kind).cfg = s.cfg ∧
    (s.accepted kind).eeprom = s.eeprom ∧ (s.accepted kind).flash = s.flash := by
  simp [accepted_eq]

@[simp] theorem accepted_rxc (kind : Nat) (s : State) :
    (s.accepted kind).rxc = { s.rxc with collecting := none, accepted := satAdd s.rxc.accepted 1 255 } := by
  simp [accepted_eq, State.acceptFrame]

/-- A frame without a drop reason arrives (R7, R8). -/
theorem arrives_of_dropReason {s : State} {h : Collected} {payload : List Byte} {crc : BitVec 16}
    (hp : s.power = .running) (hs : s.rpt.activity ≠ .sending) (hc : s.rxc.collecting = some h)
    (hlen : payload.length = 2 * headerWords h.bytes)
    (hd : dropReason s.image.identity.layout h.bytes payload crc = none) :
    arrives (headerKind h.bytes) s h payload crc ∧ 1 ≤ headerKind h.bytes ∧ headerKind h.bytes ≤ 5 := by
  unfold dropReason at hd
  split at hd
  · cases hd
  · split at hd
    · cases hd
    · split at hd
      · cases hd
      · split at hd
        · cases hd
        · exact ⟨⟨hp, hs, hc, rfl, hlen, by simp_all, by omega, by simp_all⟩, by omega, by omega⟩

theorem completed_cases (s : State) (kinds : Nat → Bool) (payload : List Byte) :
    s.completed kinds payload = none ∨
      ∃ h, s.completed kinds payload = some h ∧ s.receiverOn = true ∧ s.rxc.collecting = some h ∧
        kinds (headerKind h.bytes) = true ∧ payload.length = 2 * headerWords h.bytes := by
  unfold State.completed
  split
  · split
    · split
      · rename_i h hc hk
        simp only [Bool.and_eq_true, beq_iff_eq] at hk
        exact .inr ⟨h, rfl, by assumption, hc, hk⟩
      · exact .inl rfl
    · exact .inl rfl
  · exact .inl rfl

/-- What a frame's completion can do: nothing, a collection given up during the start, a drop, or its dispatch (R4, R7, R9, R167). -/
theorem takeFrame_cases (kinds : Nat → Bool) (payload : List Byte) (crc : BitVec 16) (dispatch : FrameInfo → State → State)
    (s : State) :
    s.takeFrame kinds payload crc dispatch = s ∨
      (s.power = .starting ∧ s.takeFrame kinds payload crc dispatch = s.hunting) ∨
      (s.power = .running ∧ ∃ r, s.takeFrame kinds payload crc dispatch = (s.hunting.dropFrame r).close s) ∨
      ∃ h kind, arrives kind s h payload crc ∧ 1 ≤ kind ∧ kind ≤ 5 ∧ kinds kind = true ∧
        s.takeFrame kinds payload crc dispatch = (dispatch (frameInfo h) (s.accepted kind)).close s := by
  rcases completed_cases s kinds payload with hn | ⟨h, hsome, hon, hcol, hk, hlen⟩
  · exact .inl (by simp [State.takeFrame, hn])
  · cases hp : s.power with
    | off => exact .inl (by simp [State.takeFrame, hsome, hp])
    | starting => exact .inr (.inl ⟨rfl, by simp only [State.takeFrame, hsome, hp, State.hunting]⟩)
    | running =>
      refine .inr (.inr ?_)
      have hs : s.rpt.activity ≠ .sending := by simpa [State.receiverOn, hp] using hon
      cases hd : dropReason s.image.identity.layout h.bytes payload crc with
      | none =>
        obtain ⟨ha, h1, h5⟩ := arrives_of_dropReason hp hs hcol hlen hd
        exact .inr ⟨h, _, ha, h1, h5, hk, takeFrame_of_arrives ha h1 h5 hk⟩
      | some r =>
        refine .inl ⟨rfl, r, ?_⟩
        simp only [State.takeFrame, hsome, hp, State.judgeFrame, State.hunting, State.onRxc]
        simp only [State.image] at hd ⊢
        simp only [hd]

/-! ### The changes of an event before its end at AUT -/

/-- What a command of a running part changes before its event ends at AUT. -/
inductive EventBody (s : State) : Instr → State → Prop
  | dropped {c : Instr} (r : DropReason) (air : fromTheAir c = true) : EventBody s c (s.hunting.dropFrame r)
  | throttle {payload : List Byte} {crc : BitVec 16} {h : Collected} (arrival : arrives 1 s h payload crc) :
    EventBody s (.throttleFrame payload crc) (State.dispatchThrottle payload (frameInfo h) (s.accepted 1))
  | consist {payload : List Byte} {crc : BitVec 16} {h : Collected} (arrival : arrives 2 s h payload crc) :
    EventBody s (.consistFrame payload crc) (State.dispatchConsist payload (frameInfo h) (s.accepted 2))
  | beacon {payload : List Byte} {crc : BitVec 16} {h : Collected} (arrival : arrives 3 s h payload crc) :
    EventBody s (.beaconFrame payload crc) (State.dispatchBeacon payload (frameInfo h) (s.accepted 3))
  | loco {payload : List Byte} {crc : BitVec 16} {h : Collected} (arrival : arrives 4 s h payload crc) :
    EventBody s (.locoFrame payload crc) (State.dispatchLoco payload (frameInfo h) (s.accepted 4))
  | service {c : Instr} {payload : List Byte} {crc : BitVec 16} {h : Collected} (startAnswers : Bool)
    (arrival : arrives 5 s h payload crc) (air : fromTheAir c = true)
    (row : serviceOp payload = 2 → c = .serviceClearFaults payload crc) :
    EventBody s c (State.dispatchService startAnswers payload (frameInfo h) (s.accepted 5))
  | linkWindow {l : Link} (due : linkExpires (s.linkWindow l) (linkRecord l s.rxc) = true) :
    EventBody s (.linkWindowExpires l) (s.linkLost l)
  | ageing : EventBody s .peerAgeingStep s.ageStep
  | dwell (due : s.dwellEnds = true) : EventBody s .dwellExpires s.dwellDone
  | hold (due : s.holdEnds = true) : EventBody s .failsafeHoldExpires s.holdDone
  | grace {m : Nat} (due : graceEnds m s.csu.watches = true) : EventBody s (.graceTimerExpires m) (s.graceDone m)
  | period {c : Instr} (row : c = .controlPeriod ∨ c = .stallDetected) : EventBody s c s.controlPeriod
  | phase {c : Instr} (current : Nat) (row : c = .drivePhaseEnd current ∨ c = .overcurrentTrip current ∨ c = .coolEnds current) :
    EventBody s c (s.phaseEnd current)
  | bemf {raw : BitVec 10} : EventBody s (.bemfSample raw) (s.bemf raw.toNat)
  | thermostat {raw : BitVec 10} : EventBody s (.thermostatTick raw) (s.thermostat raw.toNat)
  | supply {c : Instr} (track store : Byte)
    (row : c = .supplyEvaluation track store ∨ c = .supplyLoss track store ∨ c = .supplyReturn track store) :
    EventBody s c (s.supplyMoved s.head (s.supplyMove track store))
  | bridging (due : lastMs s.sup.bridging = true) : EventBody s .bridgingTimerExpires s.bridgingDone
  | normalHold (due : lastMs s.sup.normalHold = true) : EventBody s .normalHoldExpires s.normalHoldDone
  | page {answers startAnswers : Bool} {wrong : List (Nat × BitVec 8)} {w : Writing} (flight : s.cfg.writing = some w) :
    EventBody s (.pageWriteComplete answers wrong startAnswers) (s.pageDone answers wrong startAnswers w)

/-- What a command of a running part does whose event does not end at AUT. -/
inductive DirectEffect (s : State) : Instr → State → Prop
  | seed {level : Int} (due : s.rpt.activity = .holdoff ∧ s.rpt.holdoffLeft = none) :
    DirectEffect s (.lfsrSeedTaken level) (s.takeSeed level)
  | holdoff (due : s.holdoffEnds = true) : DirectEffect s .holdoffExpires s.holdoffDone
  | clock (due : s.clockReaches = true) : DirectEffect s .reportPeriodDue s.clockDue
  | check (may : s.checkMayBegin = true) : DirectEffect s .clearChannelCheck s.beginCheck
  | cca {first second : Int} (checking : s.rpt.activity = .checking) :
    DirectEffect s (.ccaComplete first second) (s.finishCheck first second)
  | backoff (due : s.backoffEnds = true) : DirectEffect s .backoffExpires s.beginCheck
  | sent (due : s.airEnds = true) : DirectEffect s .transmissionEnd s.sendDone
  | accrual : DirectEffect s .creditAccrual s.accrue
  | sample {base : SampleBase} : DirectEffect s (.occupancySample base) (s.sampleOccupancy base)
  | tripDecay : DirectEffect s .tripDecayExpires s.tripDecayDone
  | edge {level : Bool} : DirectEffect s (.wheelSensorEdge level) (s.sensorSet level).camEdge
  | camWindow : DirectEffect s .camWindowExpires s.camExpiry
  | lookup {t : Trigger} {void : Bool} (port : s.snd.port = .lookup t void) : DirectEffect s .lookupComplete (s.lookupDone t void)
  | refill {i pos n : Nat} (port : s.snd.port = .refill i pos n) : DirectEffect s .refillComplete (s.refillDone i pos n)
  | soundSample : DirectEffect s .soundSampleEvent s.sampleEvent
  | valve : DirectEffect s .valveTimerExpires s.valveDone
  | standstill : DirectEffect s .standstillTimerExpires s.standstillDone
  | burst : DirectEffect s .fanBurstEnds s.burstDone
  | flare : DirectEffect s .flareEnds (s.onLmp fun u => { u with flare := none })
  | flicker : DirectEffect s .flickerLfsrStep (s.onLmp fun u => { u with lfsr := lfsrStep u.lfsr })
  | ditch : DirectEffect s .ditchPhaseToggle (s.onLmp fun u => { u with ditchRight := !u.ditchRight, ditchLeft := some 500 })
  | fade {lamp : Fin 8} (due : fadeDue (s.lamp lamp) = true) : DirectEffect s (.fadeStep lamp) (s.onLamp lamp fadeUp)
  | blink {lamp : Fin 8} {b : Blink} (running : (s.lamp lamp).blink = some b) :
    DirectEffect s (.blinkPhaseEnd lamp) (s.onLamp lamp fun l => { l with blink := nextBlink b })
  | strobe {lamp : Fin 8} (due : strobeDue (s.lamp lamp) = true) : DirectEffect s (.strobePhaseAdvance lamp) (s.onLamp lamp strobeOn)

/-- What a command can do to the part. -/
inductive Effect (s : State) : Instr → State → Prop
  | nothing (c : Instr) : Effect s c s
  | header {channel : Fin 16} {bytes : HeaderBytes} {levels : Levels} (on : s.receiverOn = true) :
    Effect s (.headerComplete channel bytes levels) (s.takeHeader bytes levels)
  | closed {c : Instr} {u : State} (running : s.power = .running) (body : EventBody s c u) : Effect s c (u.close s)
  | direct {c : Instr} {u : State} (running : s.power = .running) (effect : DirectEffect s c u) : Effect s c u
  | discarded {c : Instr} (starting : s.power = .starting) : Effect s c s.hunting
  | sensor {level : Bool} (stands : s.power ≠ .running) : Effect s (.wheelSensorEdge level) (s.sensorSet level)
  | entry {c : Instr} {track store : Byte} (starting : s.power = .starting) : Effect s c (s.entryTest track store)
  | brownOut {stored : BitVec 16} (on : s.power ≠ .off) : Effect s (.brownOut stored) (s.brownOut stored)
  | powerOn {answers : Bool} (off : s.power = .off) : Effect s (.powerOn answers) (s.beginStart answers)

/-! ### Every command -/

section Cases

variable {s u : State} {c : Instr}

theorem yields_direct (h : DirectEffect s c u) : Yields (Effect s c) (whenRunning s u) := by
  by_cases hp : s.power = .running
  · rw [whenRunning_of_running hp]
    exact yields_next (.direct hp h)
  · rw [whenRunning_of_not_running hp]
    exact yields_next (.nothing c)

theorem yields_direct_if {b : Prop} [Decidable b] (h : b → DirectEffect s c u) :
    Yields (Effect s c) (if b then whenRunning s u else .next s) :=
  yields_ite (fun hb => yields_direct (h hb)) fun _ => yields_next (.nothing c)

theorem yields_body (h : EventBody s c u) : Yields (Effect s c) (whenRunningClose s u) := by
  by_cases hp : s.power = .running
  · rw [whenRunningClose, whenRunning_of_running hp]
    exact yields_next (.closed hp h)
  · rw [whenRunningClose, whenRunning_of_not_running hp]
    exact yields_next (.nothing c)

theorem yields_body_if {b : Prop} [Decidable b] (h : b → EventBody s c u) :
    Yields (Effect s c) (if b then whenRunningClose s u else .next s) :=
  yields_ite (fun hb => yields_body (h hb)) fun _ => yields_next (.nothing c)

/-- A frame command does nothing, ends a collection, drops its frame or dispatches it. -/
theorem yields_frame {kinds : Nat → Bool} {payload : List Byte} {crc : BitVec 16} {dispatch : FrameInfo → State → State}
    (air : fromTheAir c = true)
    (h : ∀ col kind, arrives kind s col payload crc → kinds kind = true → 1 ≤ kind → kind ≤ 5 →
      EventBody s c (dispatch (frameInfo col) (s.accepted kind))) :
    Yields (Effect s c) (.next (s.takeFrame kinds payload crc dispatch)) := by
  refine yields_next ?_
  rcases takeFrame_cases kinds payload crc dispatch s with hn | ⟨hp, hd⟩ | ⟨hp, r, hd⟩ | ⟨col, kind, ha, h1, h5, hk, hd⟩
  · rw [hn]; exact .nothing c
  · rw [hd]; exact .discarded hp
  · rw [hd]; exact .closed hp (.dropped r air)
  · rw [hd]; exact .closed ha.1 (h col kind ha hk h1 h5)

end Cases

/-- Every command has one of these effects. -/
theorem exec_effect (c : Instr) (s : State) : Yields (Effect s c) (exec c s) := by
  cases c with
  | headerComplete channel bytes levels =>
    refine yields_next ?_
    split
    · exact .header (by simp_all)
    · exact .nothing _
  | throttleFrame payload crc =>
    refine yields_frame rfl fun col kind ha hk _ _ => ?_
    obtain rfl : kind = 1 := by simpa using hk
    exact .throttle ha
  | consistFrame payload crc =>
    refine yields_frame rfl fun col kind ha hk _ _ => ?_
    obtain rfl : kind = 2 := by simpa using hk
    exact .consist ha
  | beaconFrame payload crc =>
    refine yields_frame rfl fun col kind ha hk _ _ => ?_
    obtain rfl : kind = 3 := by simpa using hk
    exact .beacon ha
  | locoFrame payload crc =>
    refine yields_frame rfl fun col kind ha hk _ _ => ?_
    obtain rfl : kind = 4 := by simpa using hk
    exact .loco ha
  | serviceWrite payload crc =>
    refine yields_frame rfl fun col kind ha hk _ _ => ?_
    simp only [Bool.and_eq_true, beq_iff_eq] at hk
    obtain ⟨rfl, hop⟩ := hk
    exact .service false ha rfl fun h => by omega
  | serviceClearFaults payload crc =>
    refine yields_frame rfl fun col kind ha hk _ _ => ?_
    simp only [Bool.and_eq_true, beq_iff_eq] at hk
    obtain ⟨rfl, hop⟩ := hk
    exact .service false ha rfl fun _ => rfl
  | serviceRestart payload crc answers =>
    refine yields_frame rfl fun col kind ha hk _ _ => ?_
    simp only [Bool.and_eq_true, beq_iff_eq] at hk
    obtain ⟨rfl, hop⟩ := hk
    exact .service answers ha rfl fun h => by omega
  | serviceOtherOp payload crc =>
    refine yields_frame rfl fun col kind ha hk _ _ => ?_
    simp only [Bool.and_eq_true, Bool.or_eq_true, beq_iff_eq, decide_eq_true_eq] at hk
    obtain ⟨rfl, hop⟩ := hk
    exact .service false ha rfl fun h => by omega
  | undefinedKindFrame payload crc =>
    refine yields_frame rfl fun col kind ha hk h1 h5 => ?_
    simp only [undefinedKind, Bool.or_eq_true, decide_eq_true_eq] at hk
    omega
  | linkWindowExpires link => exact yields_body_if fun h => .linkWindow h
  | peerAgeingStep => exact yields_body .ageing
  | dwellExpires => exact yields_body_if fun h => .dwell h
  | failsafeHoldExpires => exact yields_body_if fun h => .hold h
  | graceTimerExpires m => exact yields_body_if fun h => .grace h
  | controlPeriod => exact yields_body (.period (.inl rfl))
  | stallDetected => exact yields_body_if fun _ => .period (.inr rfl)
  | drivePhaseEnd current => exact yields_body (.phase current (.inl rfl))
  | overcurrentTrip current => exact yields_body_if fun _ => .phase current (.inr (.inl rfl))
  | coolEnds current => exact yields_body_if fun _ => .phase current (.inr (.inr rfl))
  | bemfSample raw => exact yields_body .bemf
  | thermostatTick raw => exact yields_body .thermostat
  | supplyLoss track store => exact yields_body_if fun _ => .supply track store (.inr (.inl rfl))
  | supplyReturn track store => exact yields_body_if fun _ => .supply track store (.inr (.inr rfl))
  | bridgingTimerExpires => exact yields_body_if fun h => .bridging h
  | normalHoldExpires => exact yields_body_if fun h => .normalHold h
  | lfsrSeedTaken level => exact yields_direct_if fun h => .seed h
  | holdoffExpires => exact yields_direct_if fun h => .holdoff h
  | reportPeriodDue => exact yields_direct_if fun h => .clock h
  | clearChannelCheck => exact yields_direct_if fun h => .check h
  | ccaComplete first second => exact yields_direct_if fun h => .cca h
  | backoffExpires => exact yields_direct_if fun h => .backoff h
  | transmissionEnd => exact yields_direct_if fun h => .sent h
  | creditAccrual => exact yields_direct .accrual
  | occupancySample base => exact yields_direct .sample
  | tripDecayExpires => exact yields_direct_if fun _ => .tripDecay
  | camWindowExpires => exact yields_direct_if fun _ => .camWindow
  | soundSampleEvent => exact yields_direct .soundSample
  | valveTimerExpires => exact yields_direct_if fun _ => .valve
  | standstillTimerExpires => exact yields_direct_if fun _ => .standstill
  | fanBurstEnds => exact yields_direct_if fun _ => .burst
  | flareEnds => exact yields_direct_if fun _ => .flare
  | flickerLfsrStep => exact yields_direct .flicker
  | ditchPhaseToggle => exact yields_direct_if fun _ => .ditch
  | fadeStep lamp => exact yields_direct_if fun h => .fade h
  | strobePhaseAdvance lamp => exact yields_direct_if fun h => .strobe h
  | wheelSensorEdge level =>
    simp only [exec, execWheelSensorEdge]
    by_cases hp : s.power = .running
    · rw [whenRunning_of_running (by simpa using hp)]
      exact yields_next (.direct hp .edge)
    · rw [whenRunning_of_not_running (by simpa using hp)]
      exact yields_next (.sensor hp)
  | lookupComplete =>
    simp only [exec, execLookupComplete]
    split
    · exact yields_direct (.lookup ‹_›)
    · exact yields_next (.nothing _)
    · exact yields_next (.nothing _)
  | refillComplete =>
    simp only [exec, execRefillComplete]
    split
    · exact yields_direct (.refill ‹_›)
    · exact yields_next (.nothing _)
    · exact yields_next (.nothing _)
  | blinkPhaseEnd lamp =>
    simp only [exec, execBlinkPhaseEnd]
    split
    · exact yields_direct_if fun _ => .blink ‹_›
    · exact yields_next (.nothing _)
  | supplyEvaluation track store =>
    simp only [exec, execSupplyEvaluation]
    split
    · exact yields_next (.closed ‹_› (.supply track store (.inl rfl)))
    · exact yields_next (.entry ‹_›)
    · exact yields_next (.nothing _)
  | brownOut stored =>
    simp only [exec, execBrownOut]
    split
    · exact yields_next (.nothing _)
    · exact yields_next (.brownOut (by simp_all))
    · exact yields_next (.brownOut (by simp_all))
  | powerOn answers =>
    simp only [exec, execPowerOn]
    split
    · exact yields_next (.powerOn ‹_›)
    · exact yields_next (.nothing _)
    · exact yields_next (.nothing _)
  | entryTestPassed track store =>
    simp only [exec, execEntryTestPassed]
    split
    · exact yields_ite (fun _ => yields_next (.entry ‹_›)) fun _ => yields_next (.nothing _)
    · exact yields_next (.nothing _)
    · exact yields_next (.nothing _)
  | pageWriteComplete answers wrong startAnswers =>
    simp only [exec, execPageWriteComplete]
    split
    · exact yields_body (.page ‹_›)
    · exact yields_next (.nothing _)

theorem effect_of_exec {c : Instr} {s t : State} (h : exec c s = .next t) : Effect s c t := exec_effect c s t h

/-! ### Laws kept by every step -/

/-- A law that reads nothing of the queue, that a millisecond keeps and that every command's effect keeps is kept by every step. -/
theorem keptByEveryStep_of_effect {law : State → Prop} (hqueue : ∀ s rest, law s → law { s with pending := rest })
    (htick : ∀ s : State, s.power = .running → law s → law { s.aged with pending := s.expiries })
    (heffect : ∀ c s t, law s → Effect s c t → law t) : keptByEveryStep law := by
  intro s t hs ht
  unfold step at ht
  split at ht
  · cases ht
    unfold State.tick
    split
    · exact htick s ‹_› hs
    · exact hs
    · exact hs
  · exact heffect _ _ _ (hqueue s _ hs) (effect_of_exec ht)

end Sys2Proof.Machine
end

section
/-! What the operations an event is made of carry over: the image, the counters that select none of the events signalled, the receiver's
collection and counts, the flicker register, and the laws of sound and of the heater. One rule per operation, in the order of the model. -/

namespace Sys2Proof.Machine

/-- The receiver's collection, estimate and frame counts, without its RSSI and the supervision records (R3, R4, R9). -/
def Rxc.channel (r : Rxc) : Option Collected × Option Nat × Nat × Nat := (r.collecting, r.estimate, r.accepted, r.dropped)

/-- A counter selects none of the given events; TRIGGER_DROP (10) and CLAIM (11) may be counted in any event (R31). -/
def unselected (codes : List Nat) (c : CounterConfig) : Prop := c.event ∉ 10 :: 11 :: codes

/-- What an operation carries over that signals events of the given codes alone, besides TRIGGER_DROP and CLAIM. -/
structure Carries (codes : List Nat) (s t : State) : Prop where
  flash : t.flash = s.flash
  power : t.power = s.power
  transmitter : t.rpt.transmitter = s.rpt.transmitter
  image : t.cfg.image = s.cfg.image
  tallyA : unselected codes s.image.counterA → t.rpt.counterA = s.rpt.counterA
  tallyB : unselected codes s.image.counterB → t.rpt.counterB = s.rpt.counterB
  boundA : s.rpt.counterA ≤ 65535 → t.rpt.counterA ≤ 65535
  boundB : s.rpt.counterB ≤ 65535 → t.rpt.counterB ≤ 65535
  channel : t.rxc.channel = s.rxc.channel
  flicker : t.lmp.lfsr = s.lmp.lfsr
  sound : SoundLaw s → SoundLaw t
  heater : HeaterLaw s → HeaterLaw t

section Carries

variable {codes : List Nat} {s t u : State}

theorem Carries.trans (hst : Carries codes s t) (htu : Carries codes t u) : Carries codes s u where
  flash := htu.flash.trans hst.flash
  power := htu.power.trans hst.power
  transmitter := htu.transmitter.trans hst.transmitter
  image := htu.image.trans hst.image
  tallyA h := (htu.tallyA (by simpa [State.image, hst.image] using h)).trans (hst.tallyA h)
  tallyB h := (htu.tallyB (by simpa [State.image, hst.image] using h)).trans (hst.tallyB h)
  boundA h := htu.boundA (hst.boundA h)
  boundB h := htu.boundB (hst.boundB h)
  channel := htu.channel.trans hst.channel
  flicker := htu.flicker.trans hst.flicker
  sound h := htu.sound (hst.sound h)
  heater h := htu.heater (hst.heater h)

theorem soundLaw_congr (hq : t.snd.queue = s.snd.queue) (hv : t.snd.voices = s.snd.voices) (h : SoundLaw s) : SoundLaw t := by
  simpa [SoundLaw, hq, hv] using h

/-- The heater's four conditions are read off the image, the supply, the smoke state, the latch and the current window (R151). -/
theorem heaterAllowed_congr (hi : t.cfg.image = s.cfg.image) (ho : t.cfg.overtemp = s.cfg.overtemp)
    (hst : t.smk.state = s.smk.state) (hu : t.sup.state = s.sup.state) (hw : t.mrg.window = s.mrg.window) :
    t.heaterAllowed = s.heaterAllowed := by
  have himage : t.image = s.image := hi
  rw [State.heaterAllowed, State.heaterAllowed, State.budgetHolds, State.budgetHolds, himage, ho, hst, hu, hw]

theorem heaterLaw_congr (hi : t.cfg.image = s.cfg.image) (ho : t.cfg.overtemp = s.cfg.overtemp)
    (hst : t.smk.state = s.smk.state) (hh : t.smk.heater = s.smk.heater) (hu : t.sup.state = s.sup.state)
    (hw : t.mrg.window = s.mrg.window) (h : HeaterLaw s) : HeaterLaw t := by
  unfold HeaterLaw at *
  rwa [hh, heaterAllowed_congr hi ho hst hu hw]

/-- A heater that is off meets its law. -/
theorem heaterLaw_of_off (h : t.smk.heater = false) : HeaterLaw t := by simp [HeaterLaw, h]

/-- An operation that leaves all of it as it was. -/
theorem Carries.of_eq
    (h : t.flash = s.flash ∧ t.power = s.power ∧ t.rpt.transmitter = s.rpt.transmitter ∧ t.cfg.image = s.cfg.image ∧ t.cfg.overtemp = s.cfg.overtemp ∧ t.rpt.counterA = s.rpt.counterA ∧
      t.rpt.counterB = s.rpt.counterB ∧ t.rxc.channel = s.rxc.channel ∧ t.lmp.lfsr = s.lmp.lfsr ∧
      t.snd.queue = s.snd.queue ∧ t.snd.voices = s.snd.voices ∧ t.smk.heater = s.smk.heater ∧ t.smk.state = s.smk.state ∧
      t.sup.state = s.sup.state ∧ t.mrg.window = s.mrg.window) : Carries codes s t := by
  obtain ⟨hfl, hp, ht, hi, ho, ha, hb, hc, hf, hq, hv, hh, hst, hu, hw⟩ := h
  exact
    { flash := hfl, power := hp, transmitter := ht, image := hi, tallyA := fun _ => ha, tallyB := fun _ => hb, boundA := fun h => ha ▸ h, boundB := fun h => hb ▸ h
      channel := hc, flicker := hf, sound := soundLaw_congr hq hv, heater := heaterLaw_congr hi ho hst hh hu hw }

theorem Carries.rfl : Carries codes s s := .of_eq (by simp)

/-- Two branches of an operation. -/
theorem Carries.ite {p : Prop} [Decidable p] (ht : p → Carries codes s t) (hu : ¬p → Carries codes s u) :
    Carries codes s (if p then t else u) := by
  split
  · exact ht ‹_›
  · exact hu ‹_›

theorem Carries.mono {more : List Nat} (h : Carries codes s t) (hsub : codes ⊆ more) : Carries more s t :=
  { h with
    tallyA := fun hn => h.tallyA fun hm => hn (by simp at hm ⊢; exact hm.imp_right (Or.imp_right fun x => hsub x))
    tallyB := fun hn => h.tallyB fun hm => hn (by simp at hm ⊢; exact hm.imp_right (Or.imp_right fun x => hsub x)) }

end Carries

/-! ### Diagnostic counters -/

theorem countEvent_le (c : CounterConfig) (e : DiagEvent) {n : Nat} (h : n ≤ 65535) : countEvent c e n ≤ 65535 := by
  unfold countEvent
  split
  · rw [satAdd_eq]; omega
  · exact h

/-- A counter that selects another event stays as it was (R31). -/
theorem countEvent_of_other {c : CounterConfig} {e : DiagEvent} (h : c.event ≠ diagCode e) (n : Nat) : countEvent c e n = n := by
  simp [countEvent, counterTakes, h]

@[simp] theorem signal_counters (e : DiagEvent) (s : State) :
    (s.signal e).rpt.counterA = countEvent s.image.counterA e s.rpt.counterA ∧
    (s.signal e).rpt.counterB = countEvent s.image.counterB e s.rpt.counterB := ⟨rfl, rfl⟩

theorem signal_carries {codes : List Nat} {e : DiagEvent} (he : diagCode e ∈ 10 :: 11 :: codes) (s : State) :
    Carries codes s (s.signal e) where
  flash := by simp
  power := by simp
  transmitter := by simp
  image := by simp
  tallyA h := countEvent_of_other (fun hn => h (hn ▸ he)) _
  tallyB h := countEvent_of_other (fun hn => h (hn ▸ he)) _
  boundA := countEvent_le _ _
  boundB := countEvent_le _ _
  channel := by simp
  flicker := by simp
  sound := soundLaw_congr (by simp) (by simp)
  heater := heaterLaw_congr (by simp) (by simp) (by simp) (by simp) (by simp) (by simp)

/-- One event signalled between operations that signal others is counted once (R30, R31). -/
theorem counted_of_signal {codes more : List Nat} {e : DiagEvent} {code : Nat} {takes : BitVec 8 → Bool} {s a t : State}
    (htakes : ∀ c : CounterConfig, c.event = code → counterTakes c e = takes c.mask)
    (before : Carries codes s a) (after : Carries more (a.signal e) t)
    (hc : code ∉ 10 :: 11 :: codes) (hm : code ∉ 10 :: 11 :: more) : counted code takes s t := by
  have himage : a.image = s.image := before.image
  have hsig : (a.signal e).image = s.image := by simpa [State.image] using before.image
  constructor
  · intro hsel
    rw [after.tallyA (by rwa [unselected, hsig, hsel])]
    simp only [signal_counters, himage, before.tallyA (by rwa [unselected, hsel]), countEvent, htakes _ hsel, satAdd_eq]
  · intro hsel
    rw [after.tallyB (by rwa [unselected, hsig, hsel])]
    simp only [signal_counters, himage, before.tallyB (by rwa [unselected, hsel]), countEvent, htakes _ hsel, satAdd_eq]

/-- An event of a code that is not signalled is not counted. -/
theorem counted_none {codes : List Nat} {code : Nat} {s t : State} (h : Carries codes s t) (hc : code ∉ 10 :: 11 :: codes) :
    counted code (fun _ => false) s t :=
  ⟨fun hsel => by simpa using h.tallyA (by rwa [unselected, hsel]), fun hsel => by simpa using h.tallyB (by rwa [unselected, hsel])⟩

end Sys2Proof.Machine
end

section
/-! The sound engine's operations keep the law of sound resources (R130, R134, R137). -/

namespace Sys2Proof.Machine

/-- A trigger of CHUFF (R130). -/
def chuffTriggered (q : Trigger) : Bool := q.owner == .chuff

/-- A queue that loses triggers and voices that CHUFF owns no more of still meet the law. -/
theorem soundLaw_of_sublist {s t : State} (h : SoundLaw s) (hq : t.snd.queue.Sublist s.snd.queue)
    (hl : t.snd.voices.length = s.snd.voices.length)
    (hv : t.snd.voices.countP ownedByChuff ≤ s.snd.voices.countP ownedByChuff) : SoundLaw t := by
  obtain ⟨hlen, hone, hsix, htwo⟩ := h
  exact ⟨hq.length_le.trans hlen, (hq.countP_le).trans hone, hl.trans hsix, hv.trans htwo⟩

/-! ### The arbiter (R133) -/

/-- The arbiter takes the head trigger out of the queue or leaves it. -/
theorem arbitrate_queue_sublist (s : State) : s.arbitrate.snd.queue.Sublist s.snd.queue := by
  unfold State.arbitrate arbitrateSnd
  simp only [State.onSnd]
  split
  · split
    · exact .refl _
    · split
      · rename_i hq
        simp [hq]
      · exact .refl _
  · exact .refl _

theorem soundLaw_arbitrate {s : State} (h : SoundLaw s) : SoundLaw s.arbitrate :=
  soundLaw_of_sublist h (arbitrate_queue_sublist s) (by simp) (by simp)

/-! ### Requests (R130) -/

theorem coalesceChuff_owners (t : Trigger) (q : List Trigger) : (coalesceChuff t q).map Trigger.owner = q.map Trigger.owner := by
  induction q with
  | nil => rfl
  | cons x xs ih =>
    simp only [coalesceChuff]
    split
    · rfl
    · simp [ih]

theorem countP_chuffs_of_owners {p q : List Trigger} (h : p.map Trigger.owner = q.map Trigger.owner) :
    p.countP (fun t => t.owner == .chuff) = q.countP (fun t => t.owner == .chuff) := by
  have hp := List.countP_map (f := Trigger.owner) (p := fun o => o == Owner.chuff) (l := p)
  have hq := List.countP_map (f := Trigger.owner) (p := fun o => o == Owner.chuff) (l := q)
  rw [h] at hp
  exact hp.symm.trans hq

/-- The trigger to displace is in the queue. -/
theorem lowestTrigger_lt {q : List Trigger} {x : Nat × Nat} (h : lowestTrigger q = some x) : x.1 < q.length := by
  induction q generalizing x with
  | nil => simp [lowestTrigger] at h
  | cons t ts ih =>
    simp only [lowestTrigger] at h
    split at h
    · cases h; simp
    · rename_i y hy
      split at h <;> cases h
      · simpa using ih hy
      · simp

/-- A trigger appended to a queue with room for it, and with no other chuff where it is one. -/
theorem soundLaw_append {s t : State} {q : List Trigger} {r : Trigger} (h : SoundLaw s) (hq : q.Sublist s.snd.queue)
    (hroom : q.length < 8) (hone : r.owner = .chuff → q.countP (fun t => t.owner == .chuff) = 0)
    (hqueue : t.snd.queue = q ++ [r]) (hvoices : t.snd.voices = s.snd.voices) : SoundLaw t := by
  obtain ⟨hlen, hchuff, hvs⟩ := h
  refine ⟨by simp [hqueue]; omega, ?_, by rwa [hvoices]⟩
  have hle := hq.countP_le (p := fun t => t.owner == .chuff)
  by_cases hr : r.owner = .chuff
  · simp [hqueue, hr, hone hr]
  · simp [hqueue, hr]
    omega

theorem soundLaw_request (r : Trigger) {s : State} (h : SoundLaw s) : SoundLaw (s.request r) := by
  unfold State.request
  split
  next hc =>
    refine ⟨?_, ?_, by simpa using h.2.2⟩
    · simpa [coalesceChuff_length] using h.1
    · simpa [countP_chuffs_of_owners (coalesceChuff_owners r s.snd.queue)] using h.2.1
  next hc =>
    have hnone : r.owner = .chuff → s.snd.queue.countP (fun t => t.owner == .chuff) = 0 := by
      intro hr
      simpa [hr, List.countP_eq_zero] using hc
    split
    next hroom => exact soundLaw_arbitrate (soundLaw_append h (.refl _) hroom hnone (by simp) (by simp))
    next hfull =>
      split
      next x hx =>
        split
        · refine soundLaw_arbitrate (soundLaw_append h (q := s.snd.queue.eraseIdx x.1) (r := r) ?_ ?_ ?_ (by simp) (by simp))
          · exact List.eraseIdx_sublist ..
          · have hlt := lowestTrigger_lt hx
            have hlen := h.1
            rw [List.length_eraseIdx_of_lt hlt]
            omega
          · intro hr
            have hle := (List.eraseIdx_sublist s.snd.queue x.1).countP_le (p := fun t => t.owner == .chuff)
            rw [hnone hr] at hle
            omega
        · exact soundLaw_congr (by simp) (by simp) h
      next => exact h

/-- A request can lose a trigger, which is counted, and changes SND alone besides. -/
theorem request_carries {codes : List Nat} (r : Trigger) (s : State) : Carries codes s (s.request r) := by
  have hcounters : (s.request r).rpt.counterA = s.rpt.counterA ∧ (s.request r).rpt.counterB = s.rpt.counterB ∨
      ∃ c, (s.request r).rpt.counterA = countEvent s.image.counterA (.triggerDrop c) s.rpt.counterA ∧
        (s.request r).rpt.counterB = countEvent s.image.counterB (.triggerDrop c) s.rpt.counterB := by
    rcases request_cases r s with h | ⟨-, h⟩ | ⟨i, h⟩ | h | h <;> rw [h]
    · exact .inr ⟨_, rfl, rfl⟩
    · exact .inl ⟨rfl, rfl⟩
    · exact .inr ⟨_, rfl, rfl⟩
    · exact .inr ⟨_, rfl, rfl⟩
    · exact .inl ⟨rfl, rfl⟩
  refine
    { flash := by simp, power := by simp, transmitter := by simp, image := by simp, tallyA := fun h => ?_, tallyB := fun h => ?_, boundA := fun h => ?_, boundB := fun h => ?_
      channel := by simp, flicker := by simp, sound := soundLaw_request r
      heater := heaterLaw_congr (by simp) (by simp) (by simp) (by simp) (by simp) (by simp) }
  all_goals rcases hcounters with ⟨ha, hb⟩ | ⟨c, ha, hb⟩
  · exact ha
  · rw [ha]; exact countEvent_of_other (fun hn => h (by rw [hn]; simp [diagCode])) _
  · exact hb
  · rw [hb]; exact countEvent_of_other (fun hn => h (by rw [hn]; simp [diagCode])) _
  · rwa [ha]
  · rw [ha]; exact countEvent_le _ _ h
  · rwa [hb]
  · rw [hb]; exact countEvent_le _ _ h

theorem systemRequest_carries {codes : List Nat} (hold : Bool) (index : Nat) (s : State) :
    Carries codes s (s.systemRequest hold index) := request_carries _ s

/-! ### Stops (R131) -/

theorem ownedByChuff_stopVoice (o : Owner) (v : Voice) : ownedByChuff (stopVoice o v) = true → ownedByChuff v = true := by
  unfold stopVoice
  split
  · split <;> simp [ownedByChuff]
  · exact id

theorem countP_map_le {α : Type} (p : α → Bool) (f : α → α) (l : List α) (h : ∀ a, p (f a) = true → p a = true) :
    (l.map f).countP p ≤ l.countP p := by
  rw [List.countP_map]
  exact List.countP_mono_left fun a _ ha => h a ha

theorem soundLaw_stopOwner (o : Owner) {s : State} (h : SoundLaw s) : SoundLaw (s.stopOwner o) :=
  soundLaw_of_sublist h List.filter_sublist (by simp [State.stopOwner])
    (countP_map_le _ _ _ (ownedByChuff_stopVoice o))

theorem stopOwner_carries {codes : List Nat} (o : Owner) (s : State) : Carries codes s (s.stopOwner o) where
  flash := by simp
  power := by simp
  transmitter := by simp
  image := by simp
  tallyA _ := by simp
  tallyB _ := by simp
  boundA := by simp
  boundB := by simp
  channel := by simp
  flicker := by simp
  sound := soundLaw_stopOwner o
  heater := heaterLaw_congr (by simp) (by simp) (by simp) (by simp) (by simp) (by simp)

/-! ### Lookups, refills and sample events (R134, R136, R138) -/

theorem countP_set_le {α : Type} (p : α → Bool) (l : List α) (i : Nat) (a : α) :
    (l.set i a).countP p ≤ l.countP p + (if p a then 1 else 0) := by
  induction l generalizing i with
  | nil => simp
  | cons x xs ih =>
    cases i with
    | zero => simp only [List.set_cons_zero, List.countP_cons]; split <;> omega
    | succ i =>
      have hi := ih i
      simp only [List.set_cons_succ, List.countP_cons]
      omega

theorem countP_set_of_held {α : Type} (p : α → Bool) (l : List α) (i : Nat) (a d : α) (h : p a = true → p (l.getD i d) = true) : (l.set i a).countP p ≤ l.countP p := by
  induction l generalizing i with
  | nil => simp
  | cons x xs ih =>
    cases i with
    | zero =>
      have hx : p a = true → p x = true := h
      simp only [List.set_cons_zero, List.countP_cons]
      by_cases ha : p a = true
      · simp [ha, hx ha]
      · simp [ha]
    | succ i =>
      have hi := ih i (by simpa using h)
      simp only [List.set_cons_succ, List.countP_cons]
      omega

/-- The earliest voice of a test is in the list and meets the test. -/
theorem earliest_spec {p : Voice → Bool} {vs : List Voice} {x : Nat × Nat} (h : earliest p vs = some x) :
    x.1 < vs.length ∧ p (vs.getD x.1 {}) = true := by
  induction vs generalizing x with
  | nil => simp [earliest] at h
  | cons v vs ih =>
    have hrest : ∀ y, (earliest p vs).map (fun x => (x.1 + 1, x.2)) = some y → y.1 < vs.length + 1 ∧ p ((v :: vs).getD y.1 {}) = true := by
      intro y hy
      obtain ⟨z, hz, rfl⟩ := Option.map_eq_some_iff.1 hy
      simpa using ih hz
    simp only [earliest] at h
    split at h
    next hv =>
      split at h
      · cases h; simpa using hv
      · rename_i y hy
        split at h <;> cases h
        · simpa using hrest _ hy
        · simpa using hv
    next => simpa using hrest x h

/-- A trigger's voice leaves CHUFF with at most two (R134). -/
theorem soundLaw_allocate (q : Trigger) (c : Clip) {s : State} (h : SoundLaw s) : SoundLaw (s.allocate q c) := by
  obtain ⟨hlen, hone, hsix, htwo⟩ := h
  have set_of_few : ∀ i o, ¬(q.owner = .chuff ∧ 2 ≤ s.snd.voices.countP ownedByChuff) →
      (s.snd.voices.set i (loadedVoice q c o)).countP ownedByChuff ≤ 2 := by
    intro i o hfew
    have hle := countP_set_le ownedByChuff s.snd.voices i (loadedVoice q c o)
    by_cases hq : q.owner = .chuff
    · simp only [hq, true_and] at hfew
      split at hle <;> omega
    · have hno : ownedByChuff (loadedVoice q c o) = false := by simp [ownedByChuff, loadedVoice, hq]
      simp only [hno, Bool.false_eq_true, if_false] at hle
      omega
  unfold State.allocate
  cases hg : grantVoice q s.snd.voices with
  | drop => exact ⟨by simpa using hlen, by simpa using hone, by simpa using hsix, by simpa using htwo⟩
  | cap i =>
    refine ⟨by simpa [State.setVoice] using hlen, by simpa [State.setVoice] using hone, by simpa [State.setVoice] using hsix, ?_⟩
    have hi : ownedByChuff (s.snd.voices.getD i {}) = true := by
      unfold grantVoice at hg
      split at hg
      · split at hg
        · cases hg; exact (earliest_spec ‹_›).2
        · cases hg
      · split at hg
        · cases hg
        · split at hg
          · split at hg <;> cases hg
          · cases hg
    have hset := countP_set_of_held ownedByChuff s.snd.voices i (loadedVoice q c (nextOrder s.snd.voices)) {} (fun _ => hi)
    simpa [State.setVoice] using hset.trans htwo
  | free i =>
    refine ⟨by simpa [State.setVoice] using hlen, by simpa [State.setVoice] using hone, by simpa [State.setVoice] using hsix, ?_⟩
    refine set_of_few _ _ fun hc => ?_
    simp only [grantVoice, if_pos hc] at hg
    split at hg <;> cases hg
  | preempt i =>
    refine ⟨by simpa [State.setVoice] using hlen, by simpa [State.setVoice] using hone, by simpa [State.setVoice] using hsix, ?_⟩
    refine set_of_few _ _ fun hc => ?_
    simp only [grantVoice, if_pos hc] at hg
    split at hg <;> cases hg

/-- A lookup's end signals at most a preemption or a dropped trigger and changes SND alone besides. -/
theorem allocate_counters (q : Trigger) (c : Clip) (s : State) :
    ((s.allocate q c).rpt.counterA = s.rpt.counterA ∧ (s.allocate q c).rpt.counterB = s.rpt.counterB) ∨
      ∃ e, (s.allocate q c).rpt.counterA = countEvent s.image.counterA e s.rpt.counterA ∧
        (s.allocate q c).rpt.counterB = countEvent s.image.counterB e s.rpt.counterB := by
  unfold State.allocate
  split
  · exact .inr ⟨_, rfl, rfl⟩
  · exact .inl ⟨rfl, rfl⟩
  · exact .inr ⟨_, rfl, rfl⟩
  · exact .inr ⟨_, rfl, rfl⟩

theorem soundLaw_lookupDone (q : Trigger) (void : Bool) {s : State} (h : SoundLaw s) : SoundLaw (s.lookupDone q void) := by
  have hidle : SoundLaw (s.onSnd fun d => { d with port := .idle }) := soundLaw_congr rfl rfl h
  unfold State.lookupDone
  refine soundLaw_arbitrate ?_
  split
  · exact hidle
  · split
    · exact soundLaw_allocate _ _ hidle
    · exact soundLaw_congr (by simp) (by simp) hidle

theorem soundLaw_refillDone (i pos n : Nat) {s : State} (h : SoundLaw s) : SoundLaw (s.refillDone i pos n) := by
  have hidle : SoundLaw (s.onSnd fun d => { d with port := .idle }) := soundLaw_congr rfl rfl h
  unfold State.refillDone
  refine soundLaw_arbitrate ?_
  split
  · exact hidle
  · exact soundLaw_of_sublist hidle (.refl _) (by simp [State.setVoice])
      (countP_set_of_held ownedByChuff _ i _ {} id)

theorem sampledVoices_length (port : Port) (i : Nat) (vs : List Voice) : (sampledVoices port i vs).length = vs.length := by
  induction vs generalizing i with
  | nil => rfl
  | cons v vs ih => simp [sampledVoices, ih]

theorem ownedByChuff_sampledVoice (port : Port) (i : Nat) (v : Voice) :
    ownedByChuff (sampledVoice port i v) = true → ownedByChuff v = true := by
  unfold sampledVoice
  split
  · split
    · simp [ownedByChuff]
    · exact id
  · exact id

theorem countP_sampledVoices_le (port : Port) (i : Nat) (vs : List Voice) :
    (sampledVoices port i vs).countP ownedByChuff ≤ vs.countP ownedByChuff := by
  induction vs generalizing i with
  | nil => exact le_rfl
  | cons v vs ih =>
    have hv := ownedByChuff_sampledVoice port i v
    have hi := ih (i + 1)
    simp only [sampledVoices, List.countP_cons]
    by_cases h : ownedByChuff (sampledVoice port i v) = true
    · simp [h, hv h, hi]
    · rw [if_neg h]
      omega

theorem soundLaw_sampleEvent {s : State} (h : SoundLaw s) : SoundLaw s.sampleEvent := by
  unfold State.sampleEvent
  exact soundLaw_arbitrate (soundLaw_of_sublist h (.refl _) (sampledVoices_length _ _ _) (countP_sampledVoices_le _ _ _))

end Sys2Proof.Machine
end

section
/-! The operations of an event's course, each with what it carries over: claims and causes, links, smoke, functions, the end of an event. -/

namespace Sys2Proof.Machine

variable {codes : List Nat}

/-! ### Updates of blocks that none of it is read off -/

theorem onPtb_carries (f : Ptb → Ptb) (s : State) : Carries codes s (s.onPtb f) := .of_eq (by simp)
theorem onTkm_carries (f : Tkm → Tkm) (s : State) : Carries codes s (s.onTkm f) := .of_eq (by simp)
theorem onAut_carries (f : Aut → Aut) (s : State) : Carries codes s (s.onAut f) := .of_eq (by simp)
theorem onCsu_carries (f : Csu → Csu) (s : State) : Carries codes s (s.onCsu f) := .of_eq (by simp)
theorem onSpr_carries (f : Spr → Spr) (s : State) : Carries codes s (s.onSpr f) := .of_eq (by simp)
theorem onFnm_carries (f : Fnm → Fnm) (s : State) : Carries codes s (s.onFnm f) := .of_eq (by simp)
theorem onChg_carries (f : Chg → Chg) (s : State) : Carries codes s (s.onChg f) := .of_eq (by simp)

theorem onMrg_carries {f : Mrg → Mrg} (h : ∀ m, (f m).window = m.window) (s : State) : Carries codes s (s.onMrg f) :=
  .of_eq (by simp [h])

theorem onSnd_carries {f : Snd → Snd} (h : ∀ d, (f d).queue = d.queue ∧ (f d).voices = d.voices) (s : State) :
    Carries codes s (s.onSnd f) := .of_eq (by simp [h])

/-! ### Reports, peers, occupancy -/

theorem makeDue_carries (s : State) : Carries codes s s.makeDue := .of_eq (by simp)

theorem reportTest_carries (s0 s : State) : Carries codes s (s.reportTest s0) :=
  .of_eq (by simp [Rpt.transmitter])

theorem answer_carries (st : ServiceStatus) (s : State) : Carries codes s (s.answer st) := .of_eq (by simp [State.answer])

theorem occupancyTest_carries (s : State) : Carries codes s s.occupancyTest := .of_eq (by simp)

theorem takePeer_carries (h : 7 ∈ codes) (info : FrameInfo) (role : PeerRole) (rec : Option LocoRecord) (s : State) :
    Carries codes s (s.takePeer info role rec) := by
  unfold State.takePeer
  split
  · exact .of_eq (by simp)
  · split
    · exact .of_eq (by simp)
    · split
      · refine Carries.trans ?_ (onPtb_carries ..)
        split
        · exact signal_carries (by simp [diagCode, h]) s
        · exact .rfl
      · exact .rfl

/-! ### Claims, causes and links -/

theorem claim_carries (l : Level) (src : Option Nat) (s : State) : Carries codes s (s.claim l src) :=
  (onAut_carries _ s).trans (signal_carries (by simp [diagCode]) _)

theorem release_carries (l : Level) (s : State) : Carries codes s (s.release l) := .of_eq (by simp)

theorem addCause_carries (c : Cause) (s : State) : Carries codes s (s.addCause c) := by
  unfold State.addCause
  split
  · exact .rfl
  · refine Carries.trans ?_ (onAut_carries ..)
    exact .ite (fun _ => .rfl) fun _ => claim_carries ..

theorem removeCause_carries (c : Cause) (s : State) : Carries codes s (s.removeCause c) := .of_eq (by simp)

@[simp] theorem setLinkRecord_channel (l : Link) (k : LinkRecord) (r : Rxc) : (setLinkRecord l k r).channel = r.channel := by
  cases l <;> rfl

theorem setLink_carries (l : Link) (src : Option Nat) (st : LinkState) (s : State) : Carries codes s (s.setLink l src st) :=
  .of_eq (by simp [State.setLink])

theorem validFrame_carries (l : Link) (s : State) : Carries codes s (s.validFrame l) := by
  unfold State.validFrame
  split
  · exact setLink_carries ..
  · exact setLink_carries ..
  · exact (setLink_carries ..).trans (removeCause_carries ..)

theorem linkLost_carries (l : Link) (s : State) : Carries codes s (s.linkLost l) :=
  Carries.trans (.of_eq (by simp)) (addCause_carries ..)

/-! ### Smoke -/

/-- A smoke operation that changes SMK alone, turns no heater on, and heats on only in a heating state. -/
theorem Carries.of_smoke {s t : State} (h : t.flash = s.flash ∧ t.power = s.power ∧ t.cfg = s.cfg ∧ t.rpt = s.rpt ∧ t.rxc = s.rxc ∧ t.lmp = s.lmp ∧ t.snd = s.snd ∧
    t.sup = s.sup ∧ t.mrg = s.mrg) (hh : t.smk.heater = true → s.smk.heater = true ∧ smokeHeats t.smk.state = true) :
    Carries codes s t := by
  obtain ⟨hfl, hp, hc, hr, hx, hl, hd, hu, hm⟩ := h
  refine
    { flash := hfl, power := hp, transmitter := by rw [hr], image := by rw [hc], tallyA := fun _ => by rw [hr], tallyB := fun _ => by rw [hr], boundA := by rw [hr]; exact id
      boundB := by rw [hr]; exact id, channel := by rw [hx], flicker := by rw [hl]
      sound := soundLaw_congr (by rw [hd]) (by rw [hd]), heater := fun hs hon => ?_ }
  obtain ⟨hon', hheats⟩ := hh hon
  have hs' := hs hon'
  simp only [State.heaterAllowed, State.budgetHolds, State.image, hc, hu, hm, hheats, Bool.and_eq_true] at hs' ⊢
  exact ⟨⟨⟨hs'.1.1.1, trivial⟩, hs'.1.2⟩, hs'.2⟩

theorem smokeEnter_carries (st : SmokeState) (s : State) : Carries codes s (s.smokeEnter st) :=
  .of_smoke (by simp) (by simp [State.smokeEnter])

theorem smokeReach_carries (s : State) : Carries codes s s.smokeReach := smokeEnter_carries _ s

theorem smokeEnabled_carries (on : Bool) (s : State) : Carries codes s (s.smokeEnabled on) :=
  .ite (fun _ => .ite (fun _ => smokeEnter_carries ..) fun _ => .rfl) fun _ => .ite (fun _ => .rfl) fun _ => smokeEnter_carries ..

theorem smokeZone_carries (s : State) : Carries codes s s.smokeZone :=
  .ite (fun _ => .ite (fun _ => smokeEnter_carries ..) fun _ => .rfl) fun _ =>
    .ite (fun _ => smokeReach_carries s) fun _ => .rfl

theorem smokeSupply_carries (s : State) : Carries codes s s.smokeSupply :=
  .ite (fun _ => .ite (fun _ => smokeEnter_carries ..) fun _ => .rfl) fun _ => .ite (fun _ => smokeEnter_carries ..) fun _ => .rfl

theorem smokeStopBegins_carries (s : State) : Carries codes s s.smokeStopBegins := .of_eq (by simp [State.smokeStopBegins])

theorem smokeStopEnds_carries (s : State) : Carries codes s s.smokeStopEnds := by
  refine Carries.trans (t := s.onSmk fun k => { k with standstill := none, long := false }) (.of_eq (by simp)) ?_
  exact .ite (fun _ => smokeReach_carries _) fun _ => .of_eq (by simp)

theorem standstillDone_carries (s : State) : Carries codes s s.standstillDone := by
  refine Carries.trans (t := s.onSmk fun k => { k with standstill := none, long := true }) (.of_eq (by simp)) ?_
  exact .ite (fun _ => smokeEnter_carries ..) fun _ => .rfl

theorem burstDone_carries (s : State) : Carries codes s s.burstDone := .of_eq (by simp [State.burstDone])

theorem entryBurst_carries (ms : Nat) (s : State) : Carries codes s (s.entryBurst ms) := .of_eq (by simp)

theorem chuffBurst_carries (s : State) : Carries codes s s.chuffBurst := .of_eq (by simp)

/-! ### Lamps and functions -/

theorem lampsRefresh_carries (s : State) : Carries codes s s.lampsRefresh := .of_eq (by simp)

theorem ditchChange_carries (before after : Bool) (s : State) : Carries codes s (s.ditchChange before after) := .of_eq (by simp)

theorem blink_carries (mask : BitVec 8) (count : Nat) (s : State) : Carries codes s (s.blink mask count) := .of_eq (by simp)

theorem flare_carries (s : State) : Carries codes s s.flare := .of_eq (by simp [State.flare])

theorem ask_carries (k : SoundAsk) (s : State) : Carries codes s (s.ask k) := by
  cases k with
  | stop o => exact stopOwner_carries o s
  | play t => exact request_carries t s

theorem askAll_carries (ks : List SoundAsk) (s : State) : Carries codes s (ks.foldl State.ask s) := by
  induction ks generalizing s with
  | nil => exact .rfl
  | cons k ks ih => exact (ask_carries k s).trans (ih _)

theorem evaluate_carries (s : State) : Carries codes s s.evaluate := by
  simp only [State.evaluate]
  refine Carries.trans ?_ (ditchChange_carries ..)
  have hhanded : Carries codes s
      ((((evaluationAsks s.image s.fnm s.fEff s.role).foldl State.ask s).onFnm fun _ =>
        evaluatedFnm s.image s.fEff s.role).onSpr fun r => { r with shunting := (evaluatedFnm s.image s.fEff s.role).shunting }) :=
    ((askAll_carries (evaluationAsks s.image s.fnm s.fEff s.role) s).trans (onFnm_carries ..)).trans (onSpr_carries ..)
  exact .ite (fun _ => hhanded) fun _ => hhanded.trans (smokeEnabled_carries ..)

theorem functionsRefresh_carries (s : State) : Carries codes s s.functionsRefresh :=
  (Carries.ite (fun _ => .rfl) fun _ => evaluate_carries s).trans (lampsRefresh_carries _)

/-! ### The end of an event -/

theorem settleClaims_carries (h0 : Level) (s : State) : Carries codes s (s.settleClaims h0) := .of_eq (by simp)

theorem entryAction_carries (k : EntryAction) (s : State) : Carries codes s (s.entryAction k) := by
  cases k with
  | sound g i p => exact request_carries _ s
  | lampBlink m c => exact blink_carries m c s
  | fanBurst ms => exact entryBurst_carries ms s

theorem runActions_carries (ks : List EntryAction) (s : State) : Carries codes s (ks.foldl State.entryAction s) := by
  induction ks generalizing s with
  | nil => exact .rfl
  | cons k ks ih => exact (entryAction_carries k s).trans (ih _)

theorem entryActions_carries (l : Level) (resume : Bool) (s : State) : Carries codes s (s.entryActions l resume) :=
  .ite (fun _ => runActions_carries _ s) fun _ => .rfl

theorem activate_carries (h0 l : Level) (s : State) : Carries codes s (s.activate h0 l) := by
  have hstarted : Carries codes s (((s.onAut fun a => markStarted l (loadSaved h0 l a)).functionsRefresh).entryActions l
      (autCtx s.aut l).started) :=
    (Carries.trans (.of_eq (by simp)) (functionsRefresh_carries _)).trans (entryActions_carries ..)
  exact .ite (fun _ => hstarted.trans (systemRequest_carries ..)) fun _ => hstarted

theorem changeHead_carries (h0 : Level) (s : State) : Carries codes s (s.changeHead h0) := by
  refine .ite (fun _ => functionsRefresh_carries s) fun _ => ?_
  have hpreempted : Carries codes s (s.onAut (preempt h0)) := .of_eq (by simp)
  exact (Carries.ite (fun _ => hpreempted.trans (stopOwner_carries ..)) fun _ => hpreempted).trans (activate_carries ..)

theorem settle_carries (s s0 : State) : Carries codes s (s.settle s0) :=
  (((settleClaims_carries _ s).trans (changeHead_carries ..)).trans (onAut_carries ..)).trans
    (reportTest_carries ..)

theorem close_carries (s s0 : State) : Carries codes s (s.close s0) := by
  by_cases h : s.power = .running
  · rw [close_of_running h]; exact settle_carries s s0
  · rw [close_of_not_running h]; exact .rfl

/-! ### Consists -/

theorem memberTest_carries (s : State) : Carries codes s s.memberTest :=
  .ite (fun _ => .ite (fun _ => addCause_carries ..) fun _ => .ite (fun _ => removeCause_carries ..) fun _ => .rfl) fun _ => .rfl

theorem watchMembers_carries (always : Bool) (s : State) : Carries codes s (s.watchMembers always) := by
  have hset : Carries codes s (s.onCsu fun c =>
      { c with watches := (otherMembers s.ownId s.csu.record).map (watchFor c.watches s.image.windows.consistWindow) }) :=
    .of_eq (by simp)
  exact .ite (fun _ => hset.trans (memberTest_carries _)) fun _ => hset

theorem followReport_carries (h0 : Level) (d : LocoData) (s : State) : Carries codes s (s.followReport h0 d) := .of_eq (by simp)

theorem leaveFollower_carries (s : State) : Carries codes s s.leaveFollower :=
  ((((release_carries .consist s).trans (setLink_carries ..)).trans (removeCause_carries ..)).trans (removeCause_carries ..)).trans
    (onCsu_carries ..)

theorem leaveLead_carries (s : State) : Carries codes s s.leaveLead :=
  (onCsu_carries _ s).trans (removeCause_carries ..)

theorem joinFollower_carries (s : State) : Carries codes s s.joinFollower :=
  ((((claim_carries .consist _ s).trans (onAut_carries ..)).trans (release_carries ..)).trans (setLink_carries ..)).trans
    (onCsu_carries ..)

theorem stayFollower_carries (h0 : Level) (before : Option Membership) (s : State) :
    Carries codes s (s.stayFollower h0 before) := by
  refine .ite (fun _ => .ite (fun _ => .rfl) fun _ => ?_) fun _ => ?_
  · split
    · exact .of_eq (by simp)
    · exact .rfl
  · exact ((onAut_carries _ s).trans (setLink_carries ..)).trans (onCsu_carries ..)

theorem roleEffects_carries (h0 : Level) (before : Option Membership) (old new : ConsistRole) (s : State) :
    Carries codes s (s.roleEffects h0 before old new) := by
  unfold State.roleEffects
  split
  · exact joinFollower_carries s
  · exact watchMembers_carries _ s
  · exact leaveFollower_carries s
  · exact leaveLead_carries s
  · exact (leaveFollower_carries s).trans (watchMembers_carries ..)
  · exact (leaveLead_carries s).trans (joinFollower_carries _)
  · exact stayFollower_carries ..
  · exact watchMembers_carries _ s
  · exact .rfl

theorem applyMembership_carries (h0 : Level) (m : Option Membership) (s : State) : Carries codes s (s.applyMembership h0 m) := by
  have happlied : Carries codes s ((s.onCsu fun c => { c with record := m }).roleEffects h0 s.csu.record s.role
      (s.onCsu fun c => { c with record := m }).role) :=
    (onCsu_carries _ s).trans (roleEffects_carries ..)
  exact .ite (fun _ => happlied) fun _ => happlied.trans (occupancyTest_carries _)

theorem takeMembership_carries (h0 : Level) (m : Option Membership) (s : State) : Carries codes s (s.takeMembership h0 m) :=
  .ite (fun _ => .of_eq (by simp)) fun _ =>
    .ite (fun _ => (onCsu_carries _ s).trans (applyMembership_carries ..)) fun _ => .of_eq (by simp)

theorem applySlot_carries (h0 : Level) (s : State) : Carries codes s (s.applySlot h0) := by
  unfold State.applySlot
  split
  · exact .rfl
  · exact (onCsu_carries _ s).trans (applyMembership_carries ..)

theorem takeConsist_carries (h0 : Level) (d : ConsistData) (s : State) : Carries codes s (s.takeConsist h0 d) :=
  .ite (fun _ => takeMembership_carries ..) fun _ => .rfl

/-! ### Motion -/

theorem chuffEvent_carries (s : State) : Carries codes s s.chuffEvent :=
  (((request_carries _ s).trans (onChg_carries ..)).trans (chuffBurst_carries _)).trans (flare_carries _)

theorem syntheticChuff_carries (s : State) : Carries codes s s.syntheticChuff :=
  .ite (fun _ => .ite (fun _ => .of_eq (by simp)) fun _ => (onChg_carries _ s).trans (chuffEvent_carries _)) fun _ => .rfl

theorem camTake_carries (s : State) : Carries codes s s.camTake := by
  have htaken : Carries codes s (s.onChg fun c => { c with cam := c.sensor, camWindow := some 8 }) := .of_eq (by simp)
  exact .ite (fun _ => htaken.trans (chuffEvent_carries _)) fun _ => htaken

theorem camEdge_carries (s : State) : Carries codes s s.camEdge := .ite (fun _ => camTake_carries s) fun _ => .rfl

theorem camExpiry_carries (s : State) : Carries codes s s.camExpiry := (onChg_carries _ s).trans (camEdge_carries _)

theorem judgeStopped_carries (h0 : Level) (s : State) : Carries codes s (s.judgeStopped h0) := by
  have hjudged : Carries codes s (s.onSpr fun r => { r with stopped := s.standing }) := .of_eq (by simp)
  refine .ite (fun _ => ?_) fun _ => .ite (fun _ => ?_) fun _ => hjudged
  · exact ((hjudged.trans (smokeStopBegins_carries _)).trans (onSnd_carries (by simp) _)).trans (applySlot_carries ..)
  · exact (hjudged.trans (smokeStopEnds_carries _)).trans (onSnd_carries (by simp) _)

theorem judgeAfterStop_carries (h0 : Level) (ref : Nat) (s : State) : Carries codes s (s.judgeAfterStop h0 ref) :=
  .ite (fun _ => .rfl) fun _ => judgeStopped_carries ..

theorem periodCompute_carries (s : State) : Carries codes s s.periodCompute :=
  .of_eq (by simp [State.periodCompute, State.sprCompute, State.mrgLaw, State.mrgBridge, State.stallCount])

theorem stallStop_carries (h0 : Level) (s : State) : Carries codes s (s.stallStop h0) :=
  ((((addCause_carries .stall s).trans (onSpr_carries ..)).trans (onMrg_carries (by simp) _)).trans (onMrg_carries (by simp) _)).trans (judgeAfterStop_carries ..)

theorem controlPeriod_carries (s : State) : Carries codes s s.controlPeriod :=
  .ite (fun _ => (periodCompute_carries s).trans (stallStop_carries ..)) fun _ => periodCompute_carries s

theorem emergencyStop_carries (h0 : Level) (s : State) : Carries codes s (s.emergencyStop h0) :=
  ((onSpr_carries _ s).trans (onMrg_carries (by simp) _)).trans (judgeStopped_carries ..)

theorem depletedStop_carries (h0 : Level) (s : State) : Carries codes s (s.depletedStop h0) :=
  ((onSpr_carries _ s).trans (onMrg_carries (by simp) _)).trans (judgeAfterStop_carries ..)

/-- The budget is tested on the average that a phase's current gives, so the heater's law survives the new window (R151). -/
theorem currentTaken_carries (current : Nat) (s : State) : Carries codes s (s.currentTaken current) where
  flash := by simp
  power := by simp
  transmitter := by simp
  image := by simp
  tallyA _ := by simp
  tallyB _ := by simp
  boundA := by simp
  boundB := by simp
  channel := by simp
  flicker := by simp
  sound := soundLaw_congr (by simp) (by simp)
  heater h := by
    unfold State.currentTaken State.budgetCut
    split
    next hb =>
      intro hon
      have hs := h hon
      simp only [State.heaterAllowed, Bool.and_eq_true] at hs ⊢
      exact ⟨hs.1, hb⟩
    next => exact heaterLaw_of_off rfl

/-- The latch of the fourth trip, before its cause is added (R113). -/
theorem overcurrentLatch_carries (s : State) : Carries codes s s.overcurrentLatch := by
  have hlatched : Carries codes s
      ((s.onMrg fun m => { m with tripDecay := none, bridge := .off }).onCfg fun c => { c with overcurrent := true }) :=
    .of_eq (by simp)
  exact hlatched.trans (addCause_carries ..)

theorem trip_carries (h : 13 ∈ codes) (s : State) : Carries codes s s.trip := by
  have htripped : Carries codes s ((s.onMrg fun m =>
      { m with overRun := 0, tripCount := m.tripCount + 1, tripDecay := some 10000, integral := 0, duty := 0, stallRun := 0 }).signal
        .motorTrip) :=
    (onMrg_carries (by simp) s).trans (signal_carries (by simp [diagCode, h]) _)
  refine .ite (fun _ => ?_) fun _ => htripped.trans (onMrg_carries (by simp) _)
  exact htripped.trans (overcurrentLatch_carries _)

theorem phaseEnd_carries (h : 13 ∈ codes) (current : Nat) (s : State) : Carries codes s (s.phaseEnd current) := by
  have htaken : Carries codes s (s.currentTaken current) := currentTaken_carries current s
  have hended := onMrg_carries (codes := codes) (f := fun m => { m with inDrive := false, active := false }) (fun _ => rfl)
  refine Carries.trans ?_ (hended _)
  refine .ite (fun _ => htaken.trans (trip_carries h _)) fun _ => ?_
  have hcounted : Carries codes s (State.overRunCount current (s.currentTaken current)) :=
    htaken.trans (.of_eq (by simp [State.overRunCount]))
  exact hcounted.trans (.ite (fun _ => .of_eq (by simp)) fun _ => .rfl)

theorem squealTest_carries (s : State) : Carries codes s s.squealTest := by
  refine .ite (fun _ => ?_) fun _ => .of_eq (by simp)
  exact ((onSnd_carries (by simp) s).trans (systemRequest_carries ..)).trans (onSnd_carries (by simp) _)

theorem bemf_carries (raw : Nat) (s : State) : Carries codes s (s.bemf raw) :=
  (((onMrg_carries (by simp) s).trans (judgeStopped_carries ..)).trans (syntheticChuff_carries _)).trans
    (squealTest_carries _)

end Sys2Proof.Machine
end

section
/-! What the frames' dispatches, the service operations, the supply and the timers carry over; then every event's body. -/

namespace Sys2Proof.Machine

variable {codes : List Nat}

/-! ### Beacons -/

theorem setRecord_carries (r : BeaconRecord) (s : State) : Carries codes s (s.setRecord r) :=
  (onTkm_carries _ s).trans (occupancyTest_carries _)

theorem setZone_carries (passing : Bool) (f : ZoneFlags) (s : State) : Carries codes s (s.setZone passing f) := by
  unfold State.setZone
  refine Carries.trans ?_ (smokeZone_carries _)
  refine Carries.trans (t := if passing && f.hornPoint then _ else _) ?_ (.ite (fun _ => request_carries ..) fun _ => .rfl)
  refine Carries.trans (t := if s.tkm.bellZone && !f.bellZone then _ else _) ?_ (.ite (fun _ => request_carries ..) fun _ => .rfl)
  exact (onTkm_carries _ s).trans (.ite (fun _ => stopOwner_carries ..) fun _ => .rfl)

theorem passingNotice_carries (h0 : Level) (r : BeaconRecord) (s : State) : Carries codes s (s.passingNotice h0 r) :=
  .ite (fun _ => .ite (fun _ => onAut_carries ..) fun _ => (claim_carries ..).trans (onAut_carries ..)) fun _ =>
    release_carries ..

theorem dwellRefresh_carries (h0 : Level) (r : BeaconRecord) (s : State) : Carries codes s (s.dwellRefresh h0 r) :=
  .ite (fun _ => onAut_carries ..) fun _ => .rfl

theorem passBeacon_carries (h0 : Level) (b : Nat) (d : BeaconData) (s : State) : Carries codes s (s.passBeacon h0 b d) :=
  ((setRecord_carries _ s).trans (setZone_carries ..)).trans (passingNotice_carries ..)

theorem updateBeacon_carries (h0 : Level) (r : BeaconRecord) (d : BeaconData) (s : State) :
    Carries codes s (s.updateBeacon h0 r d) :=
  ((setRecord_carries _ s).trans (setZone_carries ..)).trans (dwellRefresh_carries ..)

theorem takeBeacon_carries (h0 : Level) (info : FrameInfo) (d : BeaconData) (s : State) :
    Carries codes s (s.takeBeacon h0 info d) := by
  unfold State.takeBeacon
  split
  · exact .ite (fun _ => updateBeacon_carries ..) fun _ => .ite (fun _ => passBeacon_carries ..) fun _ => .rfl
  · exact .ite (fun _ => passBeacon_carries ..) fun _ => .rfl

/-! ### Throttles -/

theorem setRssi_carries (n : Nat) (s : State) : Carries codes s (s.setRssi n) := .of_eq (by simp [State.setRssi, Rxc.channel])

theorem emergency_carries (h0 : Level) (s : State) : Carries codes s (s.emergency h0) :=
  .ite (fun _ => (onAut_carries _ s).trans (emergencyStop_carries ..)) fun _ => onAut_carries _ s

theorem bindDriver_carries (h0 : Level) (info : FrameInfo) (d : ThrottleData) (s : State) :
    Carries codes s (s.bindDriver h0 info d) := by
  have hbound := ((((claim_carries (codes := codes) .driver (some info.source) s).trans
    (onAut_carries (putDriverData h0 d) _)).trans (onAut_carries (putZeroLock h0 (d.step != 0)) _)).trans
      (setLink_carries .driver (some info.source) .up _)).trans (setRssi_carries info.rssi _)
  exact .ite (fun _ => hbound.trans (emergency_carries ..)) fun _ => hbound

theorem rebindDriver_carries (h0 : Level) (info : FrameInfo) (d : ThrottleData) (s : State) :
    Carries codes s (s.rebindDriver h0 info d) := by
  have hbound := (((onAut_carries (codes := codes) (fun a => { a with driver := { a.driver with source := some info.source } })
    s).trans (onAut_carries (putDriverData h0 d) _)).trans (onAut_carries (putZeroLock h0 true) _)).trans
      (setLink_carries .driver (some info.source) .regaining _)
  exact .ite (fun _ => hbound.trans (emergency_carries ..)) fun _ => hbound

theorem releaseDriver_carries (h0 : Level) (d : ThrottleData) (s : State) : Carries codes s (s.releaseDriver h0 d) := by
  have hstopped : Carries codes s (if d.emergency && h0 == .driver then s.emergency h0 else s) :=
    .ite (fun _ => emergency_carries ..) fun _ => .rfl
  exact (((hstopped.trans (release_carries ..)).trans (setLink_carries ..)).trans (removeCause_carries ..)).trans
    (setRssi_carries ..)

theorem boundFrame_carries (h0 : Level) (d : ThrottleData) (s : State) : Carries codes s (s.boundFrame h0 d) := by
  refine .ite (fun _ => releaseDriver_carries ..) fun _ => ?_
  have hput := onAut_carries (codes := codes) (putDriverData h0 d) s
  exact .ite (fun _ => hput.trans (emergency_carries ..)) fun _ => .ite (fun _ => hput.trans (onAut_carries ..)) fun _ => hput

theorem driverFrame_carries (h : 14 ∈ codes) (h0 : Level) (info : FrameInfo) (d : ThrottleData) (s : State) :
    Carries codes s (s.driverFrame h0 info d) := by
  refine .ite (fun _ => .ite (fun _ => boundFrame_carries ..) fun _ => .ite (fun _ => ?_) fun _ => ?_) fun _ => ?_
  · exact .ite (fun _ => .rfl) fun _ => rebindDriver_carries ..
  · exact signal_carries (by simp [diagCode, h]) s
  · exact .ite (fun _ => .rfl) fun _ => bindDriver_carries ..

theorem driverHeard_carries (info : FrameInfo) (s : State) : Carries codes s (s.driverHeard info) :=
  .ite (fun _ => (validFrame_carries ..).trans (setRssi_carries ..)) fun _ => .rfl

theorem takeThrottle_carries (h : 14 ∈ codes) (h0 : Level) (info : FrameInfo) (d : ThrottleData) (s : State) :
    Carries codes s (s.takeThrottle h0 info d) := by
  have hheard := driverHeard_carries (codes := codes) info s
  exact .ite (fun _ => hheard.trans (onAut_carries ..)) fun _ => hheard.trans (driverFrame_carries h ..)

/-! ### Dispatch -/

theorem hear_carries (h : 7 ∈ codes) (info : FrameInfo) (role : PeerRole) (rec : Option LocoRecord) (s : State) :
    Carries codes s (s.hear info role rec) := by
  have htaken := takePeer_carries h info role rec s
  exact .ite (fun _ => htaken.trans (occupancyTest_carries _)) fun _ => htaken

theorem dispatchThrottle_carries (h7 : 7 ∈ codes) (h14 : 14 ∈ codes) (payload : List Byte) (info : FrameInfo) (s : State) :
    Carries codes s (State.dispatchThrottle payload info s) :=
  .ite (fun _ => (hear_carries h7 ..).trans (takeThrottle_carries h14 ..)) fun _ => .rfl

theorem dispatchConsist_carries (payload : List Byte) (info : FrameInfo) (s : State) :
    Carries codes s (State.dispatchConsist payload info s) := takeConsist_carries ..

theorem dispatchBeacon_carries (h : 7 ∈ codes) (payload : List Byte) (info : FrameInfo) (s : State) :
    Carries codes s (State.dispatchBeacon payload info s) := (hear_carries h ..).trans (takeBeacon_carries ..)

theorem leadHeard_carries (info : FrameInfo) (s : State) : Carries codes s (s.leadHeard info) :=
  .ite (fun _ => validFrame_carries ..) fun _ => .rfl

theorem consistReport_carries (h0 : Level) (info : FrameInfo) (d : LocoData) (s : State) :
    Carries codes s (s.consistReport h0 info d) := by
  unfold State.consistReport
  split
  · exact .ite (fun _ => followReport_carries ..) fun _ => .rfl
  · exact .ite (fun _ => memberTest_carries _) fun _ => .rfl
  · exact .rfl

theorem dispatchLoco_carries (h : 7 ∈ codes) (payload : List Byte) (info : FrameInfo) (s : State) :
    Carries codes s (State.dispatchLoco payload info s) :=
  (((hear_carries h ..).trans (occupancyTest_carries _)).trans (leadHeard_carries ..)).trans (consistReport_carries ..)

/-! ### Service -/

theorem beginWrite_carries (d : ServiceData) (s : State) : Carries codes s (s.beginWrite d) := .of_eq (by simp [State.beginWrite])

theorem busy_carries (op : Nat) (s : State) : Carries codes s (s.busy op) := .of_eq (by simp [State.busy, State.answer])

/-- Clearing the latches takes none of the heater's conditions away (R172). -/
theorem latchesCleared_carries (s : State) :
    Carries codes s (s.onCfg fun c => { c with overcurrent := false, overtemp := false }) where
  flash := by simp
  power := by simp
  transmitter := by simp
  image := by simp
  tallyA _ := by simp
  tallyB _ := by simp
  boundA := by simp
  boundB := by simp
  channel := by simp
  flicker := by simp
  sound := soundLaw_congr (by simp) (by simp)
  heater h hon := by
    have hs := h hon
    simp only [State.heaterAllowed, State.budgetHolds, State.image, onCfg_sup, onCfg_smk, onCfg_cfg, onCfg_mrg,
      Bool.and_eq_true] at hs ⊢
    exact ⟨⟨hs.1.1, rfl⟩, hs.2⟩

theorem clearFaults_carries (s : State) : Carries codes s s.clearFaults := by
  have hmotor : Carries codes s (if s.cfg.overcurrent then s.tripClear else s) :=
    .ite (fun _ => .of_eq (by simp [State.tripClear])) fun _ => .rfl
  exact ((hmotor.trans (latchesCleared_carries _)).trans (removeCause_carries ..)).trans (answer_carries ..)

/-- A start begins from a state with the flash, the sensor's pin, the queue and the count of free estimates of another (R167). -/
def Starts (answers : Bool) (s t : State) : Prop :=
  ∃ v : State, t = v.beginStart answers ∧ v.pending = s.pending ∧ v.chg = s.chg ∧ v.flash = s.flash
    ∧ v.rxc.renewals = s.rxc.renewals

theorem Starts.congr {answers : Bool} {a s t : State} (h : Starts answers a t)
    (ha : a.pending = s.pending ∧ a.chg = s.chg ∧ a.flash = s.flash ∧ a.rxc.renewals = s.rxc.renewals) : Starts answers s t := by
  obtain ⟨v, hv, hp, hc, hf, hr⟩ := h
  obtain ⟨hp', hc', hf', hr'⟩ := ha
  exact ⟨v, hv, hp.trans hp', hc.trans hc', hf.trans hf', hr.trans hr'⟩

/-- A service operation carries over, or is a RESTART that passed its tests (R170, R173). -/
theorem takeService_carries (startAnswers : Bool) (d : ServiceData) (s : State) :
    Carries codes s (s.takeService startAnswers d) ∨
      s.takeService startAnswers d = s.restart startAnswers ∧ d.op = 3 ∧ s.spr.stopped = true ∧ contextAllows 3 s.head = true
        ∧ s.cfg.writing = none := by
  unfold State.takeService
  split
  next => exact .inl (answer_carries ..)
  next hop =>
    split
    next => exact .inl (answer_carries ..)
    next hstands =>
      split
      next => exact .inl (busy_carries ..)
      next hfree =>
        split
        next => exact .inl (answer_carries ..)
        next =>
          unfold State.acceptService
          split
          · exact .inl (beginWrite_carries ..)
          · exact .inl (clearFaults_carries _)
          · rename_i hne1 hne2
            have h1 : d.op ≠ 1 := hne1
            have h2 : d.op ≠ 2 := hne2
            have h3 : d.op = 3 := by omega
            simp_all

theorem writeDone_carries (st : ServiceStatus) (startAnswers : Bool) (s : State) :
    (s.cfg.restartPending = false ∧ Carries codes s (s.writeDone st startAnswers)) ∨
      s.cfg.restartPending = true ∧ Starts startAnswers s (s.writeDone st startAnswers) := by
  unfold State.writeDone
  split
  next h => exact .inr ⟨by simpa using h, _, rfl, by simp⟩
  next h => exact .inl ⟨by simpa using h, .of_eq (by simp [State.answer])⟩

/-- A page write's end carries over, or begins the deferred start (R171, R173). -/
theorem pageDone_carries (answers : Bool) (wrong : List Host.Cell) (startAnswers : Bool) (w : Writing) (s : State) :
    Carries codes s (s.pageDone answers wrong startAnswers w) ∨
      Starts startAnswers s (s.pageDone answers wrong startAnswers w) := by
  have hstored : Carries codes s (s.onEeprom fun m => pageStored m w wrong) := .of_eq (by simp)
  unfold State.pageDone
  split
  · split
    · exact (writeDone_carries ..).imp (fun h => hstored.trans h.2) fun h => h.2.congr (by simp)
    · exact .inl (hstored.trans (.of_eq (by simp)))
  · exact (writeDone_carries ..).imp (fun h => hstored.trans h.2) fun h => h.2.congr (by simp)

/-! ### Supply, thermostat and timers -/

/-- A change at SUP after which the heater's law still holds. -/
theorem Carries.of_onSup {f : Sup → Sup} {s t : State} (h : Carries codes (s.onSup f) t) (hh : HeaterLaw s → HeaterLaw t) :
    Carries codes s t :=
  { h with heater := hh }

/-- Away from NORMAL the heater is off: it heats in no state but the heating ones, and those shed (R149, R151). -/
theorem heaterLaw_smokeSupply {s t : State} (hs : HeaterLaw s) (hsmk : t.smk = s.smk) (hsup : t.sup.state ≠ .normal) :
    HeaterLaw t.smokeSupply := by
  unfold State.smokeSupply
  rw [if_neg hsup]
  split
  next => exact heaterLaw_of_off (by simp [State.smokeEnter, smokeHeats])
  next hcold =>
    refine heaterLaw_of_off ?_
    rw [hsmk] at hcold ⊢
    by_contra hon
    have hallowed := hs (by simpa using hon)
    simp only [State.heaterAllowed, Bool.and_eq_true] at hallowed
    exact hcold hallowed.1.1.2

theorem heaterLaw_onSup_normal {f : Sup → Sup} (hf : ∀ u, (f u).state = .normal) {s : State} (h : HeaterLaw s) :
    HeaterLaw (s.onSup f) := by
  intro hon
  have hs := h hon
  simp only [State.heaterAllowed, State.budgetHolds, State.image, onSup_sup, onSup_smk, onSup_cfg, onSup_mrg, hf,
    Bool.and_eq_true] at hs ⊢
  exact ⟨⟨⟨rfl, hs.1.1.2⟩, hs.1.2⟩, hs.2⟩

theorem supplyMoved_carries (h0 : Level) (m : SupplyMove) (s : State) : Carries codes s (s.supplyMoved h0 m) := by
  match m with
  | .counts l h => exact .of_eq (by simp [State.supplyMoved])
  | .to .normal =>
    unfold State.supplyMoved State.enterNormal
    exact Carries.of_onSup (smokeSupply_carries _) fun h =>
      (smokeSupply_carries (codes := codes) _).heater (heaterLaw_onSup_normal (by simp) h)
  | .to .bridging =>
    unfold State.supplyMoved State.enterBridging
    exact Carries.of_onSup (smokeSupply_carries _) fun h => heaterLaw_smokeSupply h rfl (by simp)
  | .to .depleted =>
    refine Carries.trans (t := State.smokeSupply (State.addCause .supply (s.onSup fun u =>
      { u with state := .depleted, low := 0, high := 0, bridging := none, normalHold := none, raised := true })))
      ?_ (depletedStop_carries ..)
    exact Carries.of_onSup ((addCause_carries ..).trans (smokeSupply_carries _)) fun h =>
      heaterLaw_smokeSupply h (by simp) (by simp)

theorem bridgingDone_carries (s : State) : Carries codes s s.bridgingDone :=
  Carries.trans (t := s.onSup fun u => { u with bridging := none, raised := true }) (.of_eq (by simp)) (addCause_carries ..)

theorem normalHoldDone_carries (s : State) : Carries codes s s.normalHoldDone :=
  Carries.trans (t := s.onSup fun u => { u with normalHold := none, raised := false }) (.of_eq (by simp)) (removeCause_carries ..)

theorem overtempTest_carries (s : State) : Carries codes s s.overtempTest := by
  unfold State.overtempTest
  split
  · exact
      { flash := by simp, power := by simp, transmitter := by simp, image := by simp, tallyA := fun _ => by simp, tallyB := fun _ => by simp, boundA := by simp, boundB := by simp
        channel := by simp, flicker := by simp, sound := soundLaw_congr (by simp) (by simp)
        heater := fun _ => heaterLaw_of_off (by simp) }
  · exact .rfl

theorem heaterDecision_heater (s : State) (h : s.heaterDecision.smk.heater = true) : s.heaterAllowed = true := by
  by_contra hno
  simp [State.heaterDecision, hno] at h

/-- The decision of a tick meets the heater's law whatever was before (R151). -/
theorem heaterDecision_carries (s : State) : Carries codes s s.heaterDecision where
  flash := by simp
  power := by simp
  transmitter := by simp
  image := by simp
  tallyA _ := by simp
  tallyB _ := by simp
  boundA := by simp
  boundB := by simp
  channel := by simp
  flicker := by simp
  sound := soundLaw_congr (by simp) (by simp)
  heater _ hon := by
    rw [heaterAllowed_congr (s := s) (by simp) (by simp) (by simp [State.heaterDecision]) (by simp) (by simp)]
    exact heaterDecision_heater s hon

theorem thermostat_carries (raw : Nat) (s : State) : Carries codes s (s.thermostat raw) := by
  have hmeasured : Carries codes s (s.onSmk fun k => { k with temp := temperature s.image.smoke raw }) := .of_eq (by simp)
  exact (((hmeasured.trans (overtempTest_carries _)).trans (.ite (fun _ => smokeEnter_carries ..) fun _ => .rfl)).trans
    (.ite (fun _ => smokeReach_carries _) fun _ => .rfl)).trans (heaterDecision_carries _)

theorem valveDone_carries (s : State) : Carries codes s s.valveDone := by
  have hrun : Carries codes s (s.onSnd fun d => { d with valve := some 60000 }) := .of_eq (by simp)
  exact .ite (fun _ => hrun.trans (systemRequest_carries ..)) fun _ => hrun

/-- What changes SND alone and keeps its law. -/
theorem Carries.of_snd {s t : State} (h : t.flash = s.flash ∧ t.power = s.power ∧ t.cfg = s.cfg ∧ t.rpt = s.rpt ∧ t.rxc = s.rxc ∧ t.lmp = s.lmp ∧
    t.smk = s.smk ∧ t.sup = s.sup ∧ t.mrg = s.mrg) (hsound : SoundLaw s → SoundLaw t) : Carries codes s t := by
  obtain ⟨hfl, hp, hc, hr, hx, hl, hk, hu, hm⟩ := h
  exact
    { flash := hfl, power := hp, transmitter := by rw [hr], image := by rw [hc], tallyA := fun _ => by rw [hr], tallyB := fun _ => by rw [hr]
      boundA := by rw [hr]; exact id, boundB := by rw [hr]; exact id, channel := by rw [hx], flicker := by rw [hl]
      sound := hsound, heater := heaterLaw_congr (by rw [hc]) (by rw [hc]) (by rw [hk]) (by rw [hk]) (by rw [hu]) (by rw [hm]) }

/-- A lookup's end signals at most a preemption, besides the triggers dropped (R134). -/
theorem lookupDone_carries (h : 9 ∈ codes) (q : Trigger) (void : Bool) (s : State) : Carries codes s (s.lookupDone q void) := by
  have hcounters : ∃ u : State, Carries codes s u ∧ (s.lookupDone q void).rpt = u.rpt := by
    unfold State.lookupDone State.allocate
    simp only [arbitrate_frame]
    split
    · exact ⟨s, .rfl, rfl⟩
    · split
      · split
        · exact ⟨s.signal (.voicePreempt .chuff), signal_carries (by simp [diagCode, h]) s, rfl⟩
        · exact ⟨s, .rfl, rfl⟩
        · exact ⟨s.signal (.voicePreempt (voiceClass _)), signal_carries (by simp [diagCode, h]) s, rfl⟩
        · exact ⟨s.signal (.triggerDrop (ownerClass q.owner)), signal_carries (by simp [diagCode]) s, rfl⟩
      · exact ⟨s.signal (.triggerDrop (ownerClass q.owner)), signal_carries (by simp [diagCode]) s, rfl⟩
  obtain ⟨u, hu, hr⟩ := hcounters
  exact
    { flash := by simp, power := by simp, transmitter := by simp, image := by simp, tallyA := fun hn => by rw [hr]; exact hu.tallyA hn
      tallyB := fun hn => by rw [hr]; exact hu.tallyB hn, boundA := by rw [hr]; exact hu.boundA
      boundB := by rw [hr]; exact hu.boundB, channel := by simp, flicker := by simp, sound := soundLaw_lookupDone q void
      heater := heaterLaw_congr (by simp) (by simp) (by simp) (by simp) (by simp) (by simp) }

theorem refillDone_carries (i pos n : Nat) (s : State) : Carries codes s (s.refillDone i pos n) :=
  .of_snd (by simp) (soundLaw_refillDone i pos n)

theorem sampleEvent_carries (s : State) : Carries codes s s.sampleEvent := .of_snd (by simp) soundLaw_sampleEvent

theorem ageStep_carries (s : State) : Carries codes s s.ageStep := by
  have haged : Carries codes s (s.onPtb fun t => { t with entries := s.ptb.entries.map (agedEntry s.pinned) }) :=
    onPtb_carries _ s
  have htested : Carries codes s (if anyFades locoFades s.ptb.entries (s.ptb.entries.map (agedEntry s.pinned)) then
      (s.onPtb fun t => { t with entries := s.ptb.entries.map (agedEntry s.pinned) }).occupancyTest
    else s.onPtb fun t => { t with entries := s.ptb.entries.map (agedEntry s.pinned) }) :=
    .ite (fun _ => haged.trans (occupancyTest_carries _)) fun _ => haged
  exact .ite (fun _ => htested.trans (memberTest_carries _)) fun _ => htested

theorem graceDone_carries (m : Nat) (s : State) : Carries codes s (s.graceDone m) :=
  (onCsu_carries _ s).trans (memberTest_carries _)

/-! ### Every event's body -/

/-- The events that an operation of a body may signal besides TRIGGER_DROP and CLAIM: an eviction, a trip, a contention (R31). -/
def bodyCodes : List Nat := [7, 13, 14]

/-- Where the operations of an event's body start from: the state itself, a frame dropped, or a frame accepted (R7, R9). -/
inductive Opened (s : State) : State → Prop
  | same : Opened s s
  | dropped (r : DropReason) : Opened s (s.hunting.dropFrame r)
  | accepted (kind : Nat) : Opened s (s.accepted kind)

/-- An event's body carries over from its opening, or it is a start. -/
theorem EventBody.carries {c : Instr} {s u : State} (h : EventBody s c u) :
    (∃ a, Opened s a ∧ Carries bodyCodes a u) ∨ ∃ answers, Starts answers s u := by
  have seven : 7 ∈ bodyCodes := by decide
  cases h with
  | dropped r => exact .inl ⟨_, .dropped r, .rfl⟩
  | throttle => exact .inl ⟨_, .accepted 1, dispatchThrottle_carries seven (by decide) ..⟩
  | consist => exact .inl ⟨_, .accepted 2, dispatchConsist_carries ..⟩
  | beacon => exact .inl ⟨_, .accepted 3, dispatchBeacon_carries seven ..⟩
  | loco => exact .inl ⟨_, .accepted 4, dispatchLoco_carries seven ..⟩
  | service answers =>
    unfold State.dispatchService
    split
    · rcases takeService_carries (codes := bodyCodes) answers (serviceData _) ((s.accepted 5).hear _ .tool none) with hc | ⟨hr, -⟩
      · exact .inl ⟨_, .accepted 5, (hear_carries seven ..).trans hc⟩
      · refine .inr ⟨answers, ?_⟩
        rw [hr]
        exact ⟨_, rfl, by simp⟩
    · exact .inl ⟨_, .accepted 5, .rfl⟩
  | linkWindow => exact .inl ⟨s, .same, linkLost_carries ..⟩
  | ageing => exact .inl ⟨s, .same, ageStep_carries _⟩
  | dwell => exact .inl ⟨s, .same, onAut_carries ..⟩
  | hold => exact .inl ⟨s, .same, onAut_carries ..⟩
  | grace => exact .inl ⟨s, .same, graceDone_carries ..⟩
  | period => exact .inl ⟨s, .same, controlPeriod_carries _⟩
  | phase => exact .inl ⟨s, .same, phaseEnd_carries (by decide) ..⟩
  | bemf => exact .inl ⟨s, .same, bemf_carries ..⟩
  | thermostat => exact .inl ⟨s, .same, thermostat_carries ..⟩
  | supply => exact .inl ⟨s, .same, supplyMoved_carries ..⟩
  | bridging => exact .inl ⟨s, .same, bridgingDone_carries _⟩
  | normalHold => exact .inl ⟨s, .same, normalHoldDone_carries _⟩
  | page =>
    rcases pageDone_carries (codes := bodyCodes) _ _ _ _ s with hc | hr
    · exact .inl ⟨s, .same, hc⟩
    · exact .inr ⟨_, hr⟩

end Sys2Proof.Machine
end

section
/-! The laws of the transmitter and the receiver, and the laws of sound and of the heater, kept by every step. -/

namespace Sys2Proof.Machine

/-! ### The shift registers (R26, R156) -/

/-- The register's top bit comes from the generator alone, so a step never gives 0 from a register that is not 0. -/
theorem lfsrStep_ne_zero {v : BitVec 16} (h : v ≠ 0#16) : lfsrStep v ≠ 0#16 := by
  unfold lfsrStep
  split
  next => exact fun hz => by simpa using congrArg (fun x : BitVec 16 => x.getLsbD 15) hz
  next hbit =>
    refine fun hz => h (BitVec.eq_of_getLsbD_eq fun i hi => ?_)
    cases i with
    | zero => simpa using hbit
    | succ i =>
      have := congrArg (fun x : BitVec 16 => x.getLsbD i) hz
      simpa [Nat.add_comm] using this

theorem seedOf_ne_zero (estimate own : Nat) : seedOf estimate own ≠ 0#16 := by
  unfold seedOf
  split
  next => decide
  next h =>
    intro hz
    have hmod := congrArg BitVec.toNat hz
    simp only [BitVec.toNat_ofNat] at hmod
    omega

/-! ### The transmitter's laws -/

/-- The laws of the credit, of half duplex and of the channel estimate together (R1 to R3, R24, R29). -/
def TransmitterLaws (s : State) : Prop := CreditLaw s ∧ HalfDuplexLaw s ∧ EstimateLaw s

theorem lfsr_eq_of_transmitter_eq {r q : Rpt} (h : r.transmitter = q.transmitter) : r.lfsr = q.lfsr :=
  show r.transmitter.lfsr = q.transmitter.lfsr from h ▸ rfl

theorem Carries.transmitterLaws {codes : List Nat} {s t : State} (h : Carries codes s t) (hs : TransmitterLaws s) :
    TransmitterLaws t := by
  have hcredit := credit_eq_of_transmitter_eq h.transmitter
  have hactivity := activity_eq_of_transmitter_eq h.transmitter
  have hlfsr := lfsr_eq_of_transmitter_eq h.transmitter
  have hchannel := h.channel
  simp only [Rxc.channel, Prod.mk.injEq] at hchannel
  obtain ⟨hcollecting, hestimate, haccepted, hdropped⟩ := hchannel
  obtain ⟨⟨hc, hair, ha, hb, hacc, hdrop, hr, hf⟩, hduplex, hest⟩ := hs
  refine ⟨⟨by rwa [hcredit], ?_, h.boundA ha, h.boundB hb, by rwa [haccepted], by rwa [hdropped], by rwa [hlfsr], ?_⟩, ?_, ?_⟩
  · rwa [hcredit, hactivity]
  · rw [h.flicker]; exact hf
  · rwa [HalfDuplexLaw, hactivity, h.power, hcollecting]
  · simpa only [EstimateLaw, State.receiverOn, hestimate, h.power, hactivity] using hest

theorem receiverOn_of_running {s : State} (hp : s.power = .running) (h : s.rpt.activity ≠ .sending) : s.receiverOn = true := by
  simp [State.receiverOn, hp, h]

/-- The start values meet the laws with the receiver off; a start brings it on with an estimate (R167). -/
theorem transmitterLaws_brownOut (stored : BitVec 16) (s : State) : TransmitterLaws (s.brownOut stored) := by
  refine ⟨?_, ?_, ?_⟩
  · simp [CreditLaw, State.brownOut, State.startValues]
  · simp [HalfDuplexLaw, State.brownOut, State.startValues]
  · simp [EstimateLaw, State.receiverOn, State.brownOut, State.startValues]

theorem transmitterLaws_beginStart (answers : Bool) (s : State) : TransmitterLaws (s.beginStart answers) := by
  refine ⟨?_, ?_, ?_⟩
  · simp [CreditLaw, State.beginStart, State.startValues, freshEstimate]
  · simp [HalfDuplexLaw, State.beginStart, State.startValues]
  · simp [EstimateLaw, State.receiverOn, State.beginStart, State.startValues, freshEstimate, clampLevel_le]

/-- The state from which the start completes: the start values, with the receiver as it stood (R167). -/
def State.awakened (s : State) : State :=
  (s.startValues .running s.image s.cfg.configInvalid).onRxc fun r =>
    { r with collecting := s.rxc.collecting, estimate := s.rxc.estimate }

theorem completeStart_carries {codes : List Nat} (s : State) : Carries codes s.awakened s.completeStart :=
  (((systemRequest_carries false 1 s.awakened).trans (signal_carries (by simp [diagCode]) _)).trans
    (functionsRefresh_carries _)).trans (entryActions_carries ..)

theorem transmitterLaws_awakened {s : State} (hp : s.power = .starting) (h : TransmitterLaws s) : TransmitterLaws s.awakened := by
  obtain ⟨-, -, hsome, hle⟩ := h
  refine ⟨?_, ?_, ?_, ?_⟩
  · simp [CreditLaw, State.awakened, State.startValues]
  · simp [HalfDuplexLaw, State.awakened, State.startValues]
  · have hon : s.receiverOn = true := by simp [State.receiverOn, hp]
    exact (hsome.trans hon).trans (receiverOn_of_running rfl (by simp [State.awakened, State.startValues])).symm
  · simpa [State.awakened] using hle

/-- A change of the receiver's collection while it is on. -/
theorem transmitterLaws_collecting {s : State} (h : TransmitterLaws s) (on : s.receiverOn = true) (c : Option Collected) :
    TransmitterLaws (s.onRxc fun r => { r with collecting := c }) := by
  obtain ⟨hcredit, hduplex, hest⟩ := h
  refine ⟨hcredit, fun hsending => ?_, hest⟩
  have hp := (hduplex hsending).1
  simp_all [State.receiverOn]

theorem transmitterLaws_dropFrame {s : State} (h : TransmitterLaws s) (r : DropReason) : TransmitterLaws (s.dropFrame r) := by
  refine (signal_carries (codes := [2]) (by simp [diagCode]) _).transmitterLaws ?_
  obtain ⟨⟨hc, hair, ha, hb, hacc, hdrop, hr, hf⟩, hduplex, hest⟩ := h
  exact ⟨⟨hc, hair, ha, hb, hacc, by simp only [onRxc_rxc, satAdd_eq]; omega, hr, hf⟩, hduplex, hest⟩

theorem transmitterLaws_acceptFrame {s : State} (h : TransmitterLaws s) (kind : Nat) : TransmitterLaws (s.acceptFrame kind) := by
  refine (signal_carries (codes := [1]) (by simp [diagCode]) _).transmitterLaws ?_
  obtain ⟨⟨hc, hair, ha, hb, hacc, hdrop, hr, hf⟩, hduplex, hest⟩ := h
  exact ⟨⟨hc, hair, ha, hb, by simp only [onRxc_rxc, satAdd_eq]; omega, hdrop, hr, hf⟩, hduplex, hest⟩

/-- A hunting receiver has given up its frame, on the air or not. -/
theorem transmitterLaws_hunting {s : State} (h : TransmitterLaws s) : TransmitterLaws s.hunting := by
  obtain ⟨hcredit, hduplex, hest⟩ := h
  exact ⟨hcredit, fun hsending => ⟨(hduplex hsending).1, rfl⟩, hest⟩

theorem Opened.transmitterLaws {s a : State} (h : Opened s a) (hs : TransmitterLaws s) : TransmitterLaws a := by
  cases h with
  | same => exact hs
  | dropped r => exact transmitterLaws_dropFrame (transmitterLaws_hunting hs) r
  | accepted kind => exact transmitterLaws_acceptFrame (transmitterLaws_hunting hs) kind

theorem transmitterLaws_sampled (s : State) (base : SampleBase) (c : CounterConfig) {n : Nat} (h : n ≤ 65535) :
    s.sampled base c n ≤ 65535 := by
  unfold State.sampled
  split
  · rw [satAdd_eq]; omega
  · exact h

theorem transmitterLaws_direct {c : Instr} {s t : State} (hp : s.power = .running) (hs : TransmitterLaws s)
    (h : DirectEffect s c t) : TransmitterLaws t := by
  have hkept : ∀ {u : State}, Carries [9] s u → TransmitterLaws u := fun hc => hc.transmitterLaws hs
  obtain ⟨⟨hc, hair, ha, hb, hacc, hdrop, hr, hf⟩, hduplex, hsome, hle⟩ := id hs
  cases h with
  | seed due =>
    refine ⟨⟨hc, hair, ha, hb, hacc, hdrop, lfsrStep_ne_zero (seedOf_ne_zero _ _), hf⟩, hduplex, ?_⟩
    simp [EstimateLaw, State.takeSeed, State.receiverOn, hp, due.1, clampLevel_le]
  | holdoff due =>
    have hhold : s.rpt.activity = .holdoff := by
      simp only [State.holdoffEnds, Bool.and_eq_true, beq_iff_eq] at due
      exact due.1
    refine ⟨⟨hc, by simp [State.holdoffDone], ha, hb, hacc, hdrop, hr, hf⟩, by simp [HalfDuplexLaw, State.holdoffDone], ?_, hle⟩
    exact (hsome.trans (receiverOn_of_running hp (by simp [hhold]))).trans
      (receiverOn_of_running (s := s.holdoffDone) hp (by simp [State.holdoffDone])).symm
  | clock =>
    unfold State.clockDue
    split
    · exact ⟨⟨hc, hair, ha, hb, hacc, hdrop, hr, hf⟩, hduplex, hsome, hle⟩
    · exact hs
  | check may =>
    simp only [State.checkMayBegin, Bool.and_eq_true, beq_iff_eq, decide_eq_true_eq] at may
    refine ⟨⟨hc, fun _ => may.2, ha, hb, hacc, hdrop, hr, hf⟩, by simp [HalfDuplexLaw, State.beginCheck], ?_, hle⟩
    exact (hsome.trans (receiverOn_of_running hp (by simp [may.1.1.1]))).trans
      (receiverOn_of_running (s := s.beginCheck) hp (by simp [State.beginCheck])).symm
  | backoff due =>
    simp only [State.backoffEnds, Bool.and_eq_true, beq_iff_eq] at due
    refine ⟨⟨hc, fun _ => hair (.inr due.1), ha, hb, hacc, hdrop, hr, hf⟩, by simp [HalfDuplexLaw, State.beginCheck], ?_, hle⟩
    exact (hsome.trans (receiverOn_of_running hp (by simp [due.1]))).trans
      (receiverOn_of_running (s := s.beginCheck) hp (by simp [State.beginCheck])).symm
  | cca checking =>
    unfold State.finishCheck
    split
    · refine ⟨⟨?_, by simp [State.startReport], ?_⟩, fun _ => ⟨hp, rfl⟩, ?_⟩
      · simp only [State.startReport, onRxc_rpt, onRpt_rpt]; omega
      · exact ⟨by simp [State.startReport], by simp [State.startReport], by simp [State.startReport], by simp [State.startReport], hr, hf⟩
      · simp [EstimateLaw, State.startReport, State.receiverOn, hp]
    · refine ⟨⟨hc, fun _ => hair (.inl checking), countEvent_le _ _ ha, countEvent_le _ _ hb, hacc, hdrop, lfsrStep_ne_zero hr, hf⟩, ?_, ?_⟩
      · simp [HalfDuplexLaw, State.backOff]
      · simp [EstimateLaw, State.backOff, State.receiverOn, hp, clampLevel_le]
  | sent =>
    refine ⟨⟨hc, by simp [State.sendDone], countEvent_le _ _ ha, countEvent_le _ _ hb, hacc, hdrop, hr, hf⟩, ?_, ?_⟩
    · simp [HalfDuplexLaw, State.sendDone]
    · simp [EstimateLaw, State.sendDone, State.receiverOn, hp, freshEstimate, clampLevel_le]
  | accrual =>
    refine ⟨⟨?_, fun hb => ?_, ha, hb, hacc, hdrop, hr, hf⟩, hduplex, hsome, hle⟩
    · simp only [State.accrue, onRpt_rpt, satAdd_eq]; omega
    · have hcredit := hair hb
      simp only [State.accrue, onRpt_rpt, satAdd_eq, reportAirtime] at hcredit ⊢
      omega
  | sample =>
    exact ⟨⟨hc, hair, transmitterLaws_sampled s _ _ ha, transmitterLaws_sampled s _ _ hb, hacc, hdrop, hr, hf⟩, hduplex, hsome, hle⟩
  | flicker => exact ⟨⟨hc, hair, ha, hb, hacc, hdrop, hr, lfsrStep_ne_zero hf⟩, hduplex, hsome, hle⟩
  | edge => exact hkept ((onChg_carries _ s).trans (camEdge_carries _))
  | camWindow => exact hkept (camExpiry_carries s)
  | valve => exact hkept (valveDone_carries s)
  | standstill => exact hkept (standstillDone_carries s)
  | burst => exact hkept (burstDone_carries s)
  | lookup => exact hkept (lookupDone_carries (by decide) ..)
  | refill => exact hkept (refillDone_carries ..)
  | soundSample => exact hkept (sampleEvent_carries s)
  | tripDecay | flare | ditch | fade | blink | strobe => exact hkept (.of_eq (by simp [State.tripDecayDone, State.onLamp]))

theorem transmitterLaws_takeHeader {s : State} (hs : TransmitterLaws s) (on : s.receiverOn = true) (bytes : HeaderBytes)
    (levels : Levels) : TransmitterLaws (s.takeHeader bytes levels) := by
  unfold State.takeHeader
  split
  · split
    · exact transmitterLaws_dropFrame hs _
    · exact hs
    · exact hs
  · exact transmitterLaws_collecting hs on _

theorem transmitterLaws_entryTest {s : State} (hp : s.power = .starting) (hs : TransmitterLaws s) (track store : Byte) :
    TransmitterLaws (s.entryTest track store) := by
  unfold State.entryTest
  split
  · split
    · exact hs
    · exact (completeStart_carries (codes := []) s).transmitterLaws (transmitterLaws_awakened hp hs)
  · exact hs

theorem Effect.transmitterLaws {c : Instr} {s t : State} (hs : TransmitterLaws s) (h : Effect s c t) : TransmitterLaws t := by
  cases h with
  | nothing => exact hs
  | header on => exact transmitterLaws_takeHeader hs on _ _
  | closed running body =>
    refine (close_carries (codes := []) _ s).transmitterLaws ?_
    rcases body.carries with ⟨a, ha, hc⟩ | ⟨answers, v, hv, -⟩
    · exact hc.transmitterLaws (ha.transmitterLaws hs)
    · exact hv ▸ transmitterLaws_beginStart answers v
  | direct running effect => exact transmitterLaws_direct running hs effect
  | discarded => exact transmitterLaws_hunting hs
  | sensor => exact hs
  | entry starting => exact transmitterLaws_entryTest starting hs _ _
  | brownOut => exact transmitterLaws_brownOut _ _
  | powerOn => exact transmitterLaws_beginStart _ _

/-- A millisecond renews the estimate while the receiver is on and touches nothing else of these laws (R3). -/
theorem transmitterLaws_aged {s : State} (hs : TransmitterLaws s) : TransmitterLaws { s.aged with pending := s.expiries } := by
  obtain ⟨⟨hc, hair, ha, hb, hacc, hdrop, hr, hf⟩, hduplex, hsome, hle⟩ := hs
  by_cases hon : s.receiverOn = true
  · have hrxc : s.aged.rxc =
        { freshEstimate s.rxc with
          driverLink := agedLink (s.linkWindow .driver) s.rxc.driverLink
          leadLink := agedLink (s.linkWindow .lead) s.rxc.leadLink } := by
      simp [State.aged, agedRxc, hon, freshEstimate]
    refine ⟨⟨hc, hair, ha, hb, by rwa [hrxc], by rwa [hrxc], hr, hf⟩, by rwa [HalfDuplexLaw, hrxc], ?_⟩
    refine ⟨?_, ?_⟩
    · rw [hrxc]; exact hon.symm
    · simp [hrxc, freshEstimate, clampLevel_le]
  · have hrxc : s.aged.rxc =
        { s.rxc with
          driverLink := agedLink (s.linkWindow .driver) s.rxc.driverLink
          leadLink := agedLink (s.linkWindow .lead) s.rxc.leadLink } := by
      simp [State.aged, agedRxc, hon]
    refine ⟨⟨hc, hair, ha, hb, by rwa [hrxc], by rwa [hrxc], hr, hf⟩, by rwa [HalfDuplexLaw, hrxc], ?_⟩
    rw [EstimateLaw, hrxc]
    exact ⟨hsome, hle⟩

/-- Settles O5: every command opens, carries over or starts, and each keeps the laws. -/
theorem everyStepKeepsTheTransmitterLaws : Obligations.EveryStepKeepsTheTransmitterLaws :=
  keptByEveryStep_of_effect (law := TransmitterLaws) (fun _ _ h => h) (fun _ _ h => transmitterLaws_aged h)
    fun _ _ _ hs h => h.transmitterLaws hs

/-! ### The laws of sound and of the heater (R130, R151) -/

/-- The law of sound resources and the heater's law together. -/
def AudibleLaws (s : State) : Prop := SoundLaw s ∧ HeaterLaw s

theorem Carries.audibleLaws {codes : List Nat} {s t : State} (h : Carries codes s t) (hs : AudibleLaws s) : AudibleLaws t :=
  ⟨h.sound hs.1, h.heater hs.2⟩

theorem audibleLaws_congr {s t : State} (h : t.snd = s.snd ∧ t.smk = s.smk ∧ t.cfg = s.cfg ∧ t.sup = s.sup ∧ t.mrg = s.mrg)
    (hs : AudibleLaws s) : AudibleLaws t := by
  obtain ⟨hd, hk, hc, hu, hm⟩ := h
  exact ⟨soundLaw_congr (by rw [hd]) (by rw [hd]) hs.1,
    heaterLaw_congr (by rw [hc]) (by rw [hc]) (by rw [hk]) (by rw [hk]) (by rw [hu]) (by rw [hm]) hs.2⟩

/-- No trigger, six free voices and a cold heater. -/
theorem audibleLaws_start {s : State} (hd : s.snd = {}) (hk : s.smk = {}) : AudibleLaws s :=
  ⟨by rw [SoundLaw, hd]; decide, heaterLaw_of_off (by rw [hk])⟩

theorem Opened.audibleLaws {s a : State} (h : Opened s a) (hs : AudibleLaws s) : AudibleLaws a := by
  cases h with
  | same => exact hs
  | dropped | accepted => exact audibleLaws_congr (by simp) hs

theorem audibleLaws_direct {c : Instr} {s t : State} (hs : AudibleLaws s) (h : DirectEffect s c t) : AudibleLaws t := by
  have hkept : ∀ {u : State}, Carries [9] s u → AudibleLaws u := fun hc => hc.audibleLaws hs
  cases h with
  | edge => exact hkept ((onChg_carries _ s).trans (camEdge_carries _))
  | camWindow => exact hkept (camExpiry_carries s)
  | valve => exact hkept (valveDone_carries s)
  | standstill => exact hkept (standstillDone_carries s)
  | burst => exact hkept (burstDone_carries s)
  | lookup => exact hkept (lookupDone_carries (by decide) ..)
  | refill => exact hkept (refillDone_carries ..)
  | soundSample => exact hkept (sampleEvent_carries s)
  | tripDecay | flare | ditch | fade | blink | strobe => exact hkept (.of_eq (by simp [State.tripDecayDone, State.onLamp]))
  | seed | holdoff | clock | check | backoff | cca | sent | accrual | sample | flicker => exact audibleLaws_congr (by simp) hs

theorem Effect.audibleLaws {c : Instr} {s t : State} (hs : AudibleLaws s) (h : Effect s c t) : AudibleLaws t := by
  cases h with
  | nothing => exact hs
  | header => exact audibleLaws_congr (by simp) hs
  | closed running body =>
    refine (close_carries (codes := []) _ s).audibleLaws ?_
    rcases body.carries with ⟨a, ha, hc⟩ | ⟨answers, v, hv, -⟩
    · exact hc.audibleLaws (ha.audibleLaws hs)
    · exact hv ▸ audibleLaws_start rfl rfl
  | direct running effect => exact audibleLaws_direct hs effect
  | discarded | sensor => exact audibleLaws_congr (by simp) hs
  | entry =>
    unfold State.entryTest
    split
    · split
      · exact ⟨hs.1, hs.2⟩
      · exact (completeStart_carries (codes := []) s).audibleLaws (audibleLaws_start rfl rfl)
    · exact ⟨hs.1, hs.2⟩
  | brownOut | powerOn => exact audibleLaws_start rfl rfl

/-- Settles O11: the operations of sound and smoke keep both laws, and a start begins with neither sound nor heat. -/
theorem everyStepKeepsTheSoundAndHeaterLaws : Obligations.EveryStepKeepsTheSoundAndHeaterLaws :=
  keptByEveryStep_of_effect (law := AudibleLaws) (fun _ _ h => h) (fun _ _ h => ⟨h.1, h.2⟩) fun _ _ _ hs h => h.audibleLaws hs

end Sys2Proof.Machine
end

section
/-! The image, the flash, the latches and the EEPROM over every command (chapter 12). -/

namespace Sys2Proof.Machine

/-! ### What CFG holds after the operations that change it -/

@[simp] theorem answer_cfg (st : ServiceStatus) (s : State) : (s.answer st).cfg = { s.cfg with status := st } := by
  simp [State.answer]

@[simp] theorem overtempTest_cfg (s : State) :
    s.overtempTest.cfg = { s.cfg with overtemp := s.cfg.overtemp || decide (350 ≤ s.smk.temp) } := by
  unfold State.overtempTest
  split
  next h => simp [h]
  next h => simp [decide_eq_false h]

@[simp] theorem overtempTest_smk (s : State) :
    s.overtempTest.smk = { s.smk with heater := s.smk.heater && !decide (350 ≤ s.smk.temp) } := by
  unfold State.overtempTest
  split
  next h => simp [h]
  next h => simp [decide_eq_false h]

@[simp] theorem thermostat_cfg (raw : Nat) (s : State) :
    (s.thermostat raw).cfg =
      { s.cfg with overtemp := s.cfg.overtemp || decide (350 ≤ temperature s.image.smoke raw) } := by
  simp [State.thermostat]
  rfl

@[simp] theorem currentTaken_mrg (current : Nat) (s : State) :
    (s.currentTaken current).mrg = { s.mrg with window := s.mrg.window.tail ++ [min current 4000] } := by
  simp [State.currentTaken]

@[simp] theorem overcurrentLatch_cfg (s : State) : s.overcurrentLatch.cfg = { s.cfg with overcurrent := true } := by
  simp [State.overcurrentLatch]

@[simp] theorem trip_cfg (s : State) :
    s.trip.cfg = { s.cfg with overcurrent := s.cfg.overcurrent || decide (4 ≤ s.mrg.tripCount + 1) } := by
  unfold State.trip
  simp only [signal_frame, onMrg_mrg]
  split
  next h => simp [Nat.le_of_succ_le_succ h]
  next h => simp [decide_eq_false (Nat.succ_le_succ_iff.not.1 h)]

@[simp] theorem phaseEnd_cfg (current : Nat) (s : State) :
    (s.phaseEnd current).cfg =
      { s.cfg with overcurrent := s.cfg.overcurrent || s.tripTest current && decide (4 ≤ s.mrg.tripCount + 1) } := by
  unfold State.phaseEnd
  cases h : s.tripTest current <;> simp

@[simp] theorem clearFaults_cfg (s : State) :
    s.clearFaults.cfg = { s.cfg with overcurrent := false, overtemp := false, status := .done } := by
  unfold State.clearFaults
  split <;> simp [State.tripClear]

@[simp] theorem busy_cfg (op : Nat) (s : State) :
    (s.busy op).cfg = { s.cfg with restartPending := s.cfg.restartPending || op == 3, status := .busy } := by
  simp [State.busy]

@[simp] theorem beginWrite_cfg (d : ServiceData) (s : State) :
    (s.beginWrite d).cfg = { s.cfg with writing := some (writingPage s.eeprom d.offset d.count d.data (d.offset / 16) []) } := by
  simp [State.beginWrite]

/-- What an accepted or refused operation can be (R170). -/
theorem takeService_cases (startAnswers : Bool) (d : ServiceData) (s : State) :
    (∃ st, s.takeService startAnswers d = s.answer st) ∨ s.takeService startAnswers d = s.busy d.op ∨
      (d.op = 1 ∧ rangeFails d = false ∧ s.cfg.writing = none ∧ s.takeService startAnswers d = s.beginWrite d) ∨
      (d.op = 2 ∧ s.takeService startAnswers d = s.clearFaults) ∨
      s.takeService startAnswers d = s.restart startAnswers := by
  unfold State.takeService
  split
  next => exact .inl ⟨_, rfl⟩
  next =>
    split
    next => exact .inl ⟨_, rfl⟩
    next =>
      split
      next => exact .inr (.inl rfl)
      next hfree =>
        split
        next => exact .inl ⟨_, rfl⟩
        next hrange =>
          unfold State.acceptService
          split
          next h1 => exact .inr (.inr (.inl ⟨h1, by simpa [h1] using hrange, by simpa using hfree, rfl⟩))
          next h2 => exact .inr (.inr (.inr (.inl ⟨h2, rfl⟩)))
          next => exact .inr (.inr (.inr (.inr rfl)))

theorem writeDone_cases (st : ServiceStatus) (startAnswers : Bool) (s : State) :
    (s.cfg.restartPending = false ∧ s.writeDone st startAnswers = (s.onCfg fun c => { c with writing := none }).answer st) ∨
      (s.cfg.restartPending = true ∧
        s.writeDone st startAnswers = ((s.onCfg fun c => { c with writing := none }).answer st).beginStart startAnswers) := by
  unfold State.writeDone
  split
  next h => exact .inr ⟨by simpa using h, rfl⟩
  next h => exact .inl ⟨by simpa using h, rfl⟩

/-- What the end of a page write can be: the next page, or the end of the write (R171). -/
theorem pageDone_cases (answers : Bool) (wrong : List Host.Cell) (startAnswers : Bool) (w : Writing) (s : State) :
    (answers = true ∧ w.hasCrc = false ∧
        s.pageDone answers wrong startAnswers w =
          (s.onEeprom fun m => pageStored m w wrong).onCfg fun c =>
            { c with
              writing :=
                some (writingPage (pageStored s.eeprom w wrong) w.offset w.count w.data (nextPage w.offset w.count w.page)
                  (w.written ++ w.inFlight)) }) ∨
      ((answers = true → w.hasCrc = true) ∧
        s.pageDone answers wrong startAnswers w =
          (s.onEeprom fun m => pageStored m w wrong).writeDone
            (if answers = true ∧ verified (pageStored s.eeprom w wrong) (w.written ++ w.inFlight) = true then .done else .writeFailed)
            startAnswers) := by
  unfold State.pageDone
  cases answers <;> cases hcrc : w.hasCrc <;> simp
  rfl

/-! ### The image and the flash (R166 to R168) -/

theorem Opened.same_part {s a : State} (h : Opened s a) :
    a.flash = s.flash ∧ a.cfg = s.cfg ∧ a.eeprom = s.eeprom ∧ a.power = s.power ∧ a.spr = s.spr ∧ a.mrg = s.mrg ∧ a.chg = s.chg
      ∧ a.sup = s.sup := by
  cases h <;> simp

/-- A command leaves the image, or it starts with the image that its EEPROM holds. -/
theorem Effect.image {c : Instr} {s t : State} (h : Effect s c t) :
    t.cfg.image = s.cfg.image ∨ t.power = .starting ∧ ∃ answered, t.cfg.image = chosenImage t.eeprom answered := by
  cases h with
  | nothing | header | discarded | sensor => exact .inl (by simp)
  | closed running body =>
    rcases body.carries with ⟨a, ha, hc⟩ | ⟨answers, v, rfl, -⟩
    · refine .inl (((close_carries (codes := bodyCodes) _ s).image.trans hc.image).trans ?_)
      rw [ha.same_part.2.1]
    · exact .inr ⟨by simp [close_power, State.beginStart, State.startValues],
        answers, by rw [close_of_not_running (by simp [State.beginStart, State.startValues])]; rfl⟩
  | direct running effect => cases effect <;> exact .inl (by simp)
  | entry =>
    unfold State.entryTest
    split
    · split
      · exact .inl rfl
      · exact .inl ((completeStart_carries (codes := []) s).image)
    · exact .inl rfl
  | brownOut => exact .inl rfl
  | powerOn => exact .inr ⟨rfl, _, rfl⟩

theorem Effect.flash {c : Instr} {s t : State} (h : Effect s c t) : t.flash = s.flash := by
  cases h with
  | nothing | header | discarded | sensor => simp
  | closed running body =>
    refine (close_carries (codes := bodyCodes) _ s).flash.trans ?_
    rcases body.carries with ⟨a, ha, hc⟩ | ⟨answers, v, rfl, -, -, hf, -⟩
    · exact hc.flash.trans ha.same_part.1
    · exact hf
  | direct running effect => cases effect <;> simp
  | entry =>
    unfold State.entryTest
    split
    · split
      · rfl
      · exact (completeStart_carries (codes := []) s).flash
    · rfl
  | brownOut | powerOn => rfl

/-- Settles O15: only a start takes an image, and then the one its EEPROM holds. -/
theorem configurationChangesOnlyAtAStart : Obligations.ConfigurationChangesOnlyAtAStart := by
  intro c s t h
  have he := effect_of_exec h
  refine ⟨he.flash, fun hchanged => ?_⟩
  rcases he.image with hsame | hstart
  · exact absurd hsame hchanged
  · exact hstart

/-! ### The latches (12.4) -/

/-- Before an event's end a latch has left only by CLEAR_FAULTS or at a start. -/
theorem EventBody.latches {c : Instr} {s u : State} (h : EventBody s c u) :
    ((s.cfg.overcurrent = true → u.cfg.overcurrent = true) ∧ (s.cfg.overtemp = true → u.cfg.overtemp = true)) ∨
      u.power ≠ .running ∨ ∃ payload crc, c = .serviceClearFaults payload crc := by
  cases h with
  | service answers arrival air row =>
    unfold State.dispatchService
    split
    · rcases takeService_cases answers (serviceData _) ((s.accepted 5).hear _ .tool none) with
        ⟨st, h⟩ | h | ⟨-, -, -, h⟩ | ⟨hop, h⟩ | h <;> rw [h]
      · exact .inl (by simp)
      · exact .inl (by simp)
      · exact .inl (by simp)
      · exact .inr (.inr ⟨_, _, row hop⟩)
      · exact .inr (.inl (by simp [State.restart, State.beginStart, State.startValues]))
    · exact .inl (by simp)
  | page =>
    rcases pageDone_cases _ _ _ _ s with ⟨-, -, h⟩ | ⟨-, h⟩ <;> rw [h]
    · exact .inl (by simp)
    · rcases writeDone_cases _ _ (s.onEeprom fun m => pageStored m _ _) with ⟨-, h⟩ | ⟨-, h⟩ <;> rw [h]
      · exact .inl (by simp)
      · exact .inr (.inl (by simp [State.beginStart, State.startValues]))
  | thermostat | phase => exact .inl (by simp +contextual)
  | _ => exact .inl (by simp)

/-- Settles O16: at a part that keeps running every other command leaves the latches, or sets one. -/
theorem latchedFaultsAreClearedOnlyByService : Obligations.LatchedFaultsAreClearedOnlyByService := by
  intro c s t h hrunning hcleared
  have hlatched : ¬((s.cfg.overcurrent = true → t.cfg.overcurrent = true) ∧ (s.cfg.overtemp = true → t.cfg.overtemp = true)) := by
    rintro ⟨ho, ht⟩
    rcases hcleared with ⟨hs, hn⟩ | ⟨hs, hn⟩
    · simp [ho hs] at hn
    · simp [ht hs] at hn
  cases effect_of_exec h with
  | nothing | header | discarded => exact absurd (by simp) hlatched
  | closed running body =>
    have hcfg : ∀ u : State, (u.close s).cfg = u.cfg := fun u => by unfold State.close; split <;> simp
    rw [hcfg] at hlatched
    rcases body.latches with hkept | hstopped | hservice
    · exact absurd hkept hlatched
    · exact .inl (by simpa using hstopped)
    · exact .inr hservice
  | direct running effect => cases effect <;> exact absurd (by simp) hlatched
  | sensor stands => exact absurd hrunning stands
  | entry starting => simp [starting] at hrunning
  | brownOut => exact .inl (by simp [State.brownOut, State.startValues])
  | powerOn off => simp [off] at hrunning

/-! ### The EEPROM and the write in flight (R166, R171) -/

theorem mem_cellsFrom {at_ : Nat} {bs : List Byte} {c : Host.Cell} (h : c ∈ cellsFrom at_ bs) : at_ ≤ c.1 ∧ c.1 < at_ + bs.length := by
  induction bs generalizing at_ with
  | nil => simp [cellsFrom] at h
  | cons b bs ih =>
    simp only [cellsFrom, List.mem_cons] at h
    rcases h with rfl | h
    · simp
    · have := ih h
      simp only [List.length_cons]
      omega

/-- The cells of a page write lie in its page (R171). -/
theorem pageCells_page {mem : List Host.Cell} {offset : Nat} {data : List Byte} {page : Nat} {c : Host.Cell}
    (h : c ∈ pageCells mem offset data page) : c.1 / 16 = page := by
  have hdata : ∀ c ∈ pageData offset data page, c.1 / 16 = page := fun c hc => by
    simpa using (List.mem_filter.1 hc).2
  unfold pageCells at h
  split at h
  next hcrc =>
    rcases List.mem_append.1 h with h | h
    · exact hdata c h
    · have := mem_cellsFrom h
      simp only [bytes16, List.length_cons, List.length_nil] at this
      simp only [hcrc, crcPage]
      omega
  next => exact hdata c h

/-- The law of a write in flight (R166, R171). -/
def WritingLaw (w : Writing) : Prop :=
  w.page ≤ crcPage ∧ w.offset + w.count ≤ 510 ∧ w.hasCrc = (w.page == crcPage) ∧ ∀ c ∈ w.inFlight, c.1 / 16 = w.page

theorem writingLaw_writingPage {mem written : List Host.Cell} {offset count page : Nat} {data : List Byte} (hp : page ≤ crcPage)
    (hr : offset + count ≤ 510) : WritingLaw (writingPage mem offset count data page written) :=
  ⟨hp, hr, rfl, fun _ hc => pageCells_page hc⟩

theorem nextPage_le {offset count page : Nat} (h : offset + count ≤ 510) : nextPage offset count page ≤ crcPage := by
  unfold nextPage crcPage
  split <;> omega

/-- A page's cells leave the EEPROM canonical (R166, R171). -/
theorem memWf_pageStored {m : List Host.Cell} {w : Writing} {wrong : List Host.Cell} (hm : memWf m = true) (hw : WritingLaw w) :
    memWf (pageStored m w wrong) = true := by
  obtain ⟨hpage, -, -, hcells⟩ := hw
  have hbelow : ∀ a : Nat, a / 16 = w.page → a < 512 := fun a ha => by
    simp only [crcPage] at hpage
    omega
  refine memWf_memWriteAll (memWf_memWriteAll hm fun c hc => hbelow _ (hcells c hc)) fun c hc => hbelow _ ?_
  simpa using (List.mem_filter.1 hc).2

theorem memoryLaw_of_no_writing {s : State} (hm : memWf s.eeprom = true) (hw : s.cfg.writing = none) : MemoryLaw s :=
  ⟨hm, by simp [hw]⟩

theorem memoryLaw_congr {s t : State} (hm : t.eeprom = s.eeprom) (hw : t.cfg.writing = s.cfg.writing) (h : MemoryLaw s) :
    MemoryLaw t := by
  rwa [MemoryLaw, hm, hw]

theorem EventBody.memoryLaw {c : Instr} {s u : State} (hs : MemoryLaw s) (h : EventBody s c u) : MemoryLaw u := by
  cases h with
  | service answers arrival air row =>
    unfold State.dispatchService
    split
    · rcases takeService_cases answers (serviceData _) ((s.accepted 5).hear _ .tool none) with
        ⟨st, h⟩ | h | ⟨hop, hrange, -, h⟩ | ⟨-, h⟩ | h <;> rw [h]
      · exact memoryLaw_congr (by simp) (by simp) hs
      · exact memoryLaw_congr (by simp) (by simp) hs
      · refine ⟨by simpa using hs.1, ?_⟩
        rintro w hw
        simp only [beginWrite_cfg, Option.some.injEq] at hw
        simp only [rangeFails, Bool.or_eq_false_iff, beq_eq_false_iff_ne, decide_eq_false_iff_not, not_lt] at hrange
        subst hw
        exact writingLaw_writingPage (by simp only [crcPage]; omega) hrange.2
      · exact memoryLaw_congr (by simp) (by simp) hs
      · exact memoryLaw_of_no_writing (by simpa [State.restart, State.beginStart, State.startValues] using hs.1) rfl
    · exact memoryLaw_congr (by simp) (by simp) hs
  | page flight =>
    have hw := hs.2 _ flight
    have hstored := memWf_pageStored (wrong := ‹_›) hs.1 hw
    rcases pageDone_cases _ _ _ _ s with ⟨-, -, h⟩ | ⟨-, h⟩ <;> rw [h]
    · refine ⟨by simpa using hstored, ?_⟩
      rintro w' hw'
      simp only [onCfg_cfg, Option.some.injEq] at hw'
      subst hw'
      exact writingLaw_writingPage (nextPage_le hw.2.1) hw.2.1
    · rcases writeDone_cases _ _ (s.onEeprom fun m => pageStored m _ _) with ⟨-, h⟩ | ⟨-, h⟩ <;> rw [h]
      · exact memoryLaw_of_no_writing (by simpa using hstored) (by simp)
      · exact memoryLaw_of_no_writing (by simpa [State.beginStart, State.startValues] using hstored) rfl
  | _ => exact memoryLaw_congr (by simp) (by simp) hs

theorem Effect.memoryLaw {c : Instr} {s t : State} (hs : MemoryLaw s) (h : Effect s c t) : MemoryLaw t := by
  cases h with
  | nothing => exact hs
  | header | discarded | sensor => exact memoryLaw_congr (by simp) (by simp) hs
  | closed running body =>
    have hclosed : ∀ u : State, (u.close s).eeprom = u.eeprom ∧ (u.close s).cfg = u.cfg := fun u => by
      unfold State.close; split <;> simp
    exact memoryLaw_congr (hclosed _).1 (by rw [(hclosed _).2]) (body.memoryLaw hs)
  | direct running effect => cases effect <;> exact memoryLaw_congr (by simp) (by simp) hs
  | entry =>
    unfold State.entryTest
    split
    · split
      · exact hs
      · refine memoryLaw_of_no_writing ?_ ?_
        · simpa [State.completeStart, State.startupSound, State.startValues] using hs.1
        · simp [State.completeStart, State.startupSound, State.startValues]
    · exact hs
  | brownOut =>
    refine memoryLaw_of_no_writing ?_ rfl
    simp only [State.brownOut, onEeprom_eeprom]
    split
    next w hw =>
      obtain ⟨hpage, -, -, hcells⟩ := hs.2 w hw
      refine memWf_memWriteAll hs.1 fun c hc => ?_
      have hc' := hcells c (List.mem_filter.1 hc).1
      simp only [crcPage] at hpage
      omega
    next => exact hs.1
  | powerOn => exact memoryLaw_of_no_writing hs.1 rfl

/-- Settles O6: a page write's bytes lie in its page, within the EEPROM, and each write of cells keeps the canonical form. -/
theorem everyStepKeepsTheMemoryLaw : Obligations.EveryStepKeepsTheMemoryLaw :=
  keptByEveryStep_of_effect (fun _ _ h => h) (fun _ _ h => h) fun _ _ _ hs h => h.memoryLaw hs

end Sys2Proof.Machine
end

section
/-! What the events do to SPR's reference and to the motor (chapters 6 and 7): one equation for each operation. -/

namespace Sys2Proof.Machine

/-! ### STOPPED judged, and the stops outside the ramp (R96 to R98, R107, R108) -/

@[simp] theorem judgeStopped_spr (h0 : Level) (s : State) : (s.judgeStopped h0).spr = { s.spr with stopped := s.standing } := by
  unfold State.judgeStopped
  simp only []
  split
  · simp
  · split <;> simp

@[simp] theorem judgeAfterStop_spr (h0 : Level) (ref : Nat) (s : State) :
    (s.judgeAfterStop h0 ref).spr = if ref = 0 then s.spr else { s.spr with stopped := s.standing } := by
  unfold State.judgeAfterStop
  split <;> simp

@[simp] theorem refStop_spr (s : State) : s.refStop.spr = { s.spr with ref := 0, braking := s.spr.braking || decide (0 < s.spr.ref) } :=
  rfl

/-- The emergency stop takes the bridge: a drive phase runs, and no latch, COOL or DEPLETED governs (R107). -/
def State.emergencyGoverns (s : State) : Bool :=
  s.mrg.inDrive && !s.cfg.overcurrent && s.mrg.cool == 0 && s.sup.state != .depleted

/-- The motor that an emergency stop leaves (R107). -/
def State.emergencyMotor (s : State) : Mrg :=
  { s.mrg with
    integral := 0
    brakeHold := true
    duty := if s.emergencyGoverns then 0 else s.mrg.duty
    bridge := if s.emergencyGoverns then .brake else s.mrg.bridge
    active := s.mrg.active || s.emergencyGoverns }

@[simp] theorem emergencyStop_mrg (h0 : Level) (s : State) : (s.emergencyStop h0).mrg = s.emergencyMotor := by
  simp [State.emergencyStop, State.emergencyMotor, State.emergencyGoverns]

theorem emergencyStop_ref (h0 : Level) (s : State) : (s.emergencyStop h0).spr.ref = 0 := by simp [State.emergencyStop]

theorem emergencyStop_running (h0 : Level) (s : State) : (s.emergencyStop h0).spr.running = s.spr.running := by
  simp [State.emergencyStop]

theorem emergencyStop_shunting (h0 : Level) (s : State) : (s.emergencyStop h0).spr.shunting = s.spr.shunting := by
  simp [State.emergencyStop]

theorem emergencyMotor_congr {s t : State} (hm : t.mrg = s.mrg) (hc : t.cfg = s.cfg) (hu : t.sup = s.sup) :
    t.emergencyMotor = s.emergencyMotor := by
  have hgoverns : t.emergencyGoverns = s.emergencyGoverns := by simp only [State.emergencyGoverns, hm, hc, hu]
  simp only [State.emergencyMotor, hgoverns, hm]

@[simp] theorem depletedStop_mrg (h0 : Level) (s : State) :
    (s.depletedStop h0).mrg =
      { s.mrg with integral := 0, duty := 0, bridge := if bridgeActive s.mrg.bridge then .off else s.mrg.bridge } := by
  simp [State.depletedStop]

theorem depletedStop_ref (h0 : Level) (s : State) : (s.depletedStop h0).spr.ref = 0 := by
  simp only [State.depletedStop, judgeAfterStop_spr]
  split <;> rfl

theorem depletedStop_shunting (h0 : Level) (s : State) : (s.depletedStop h0).spr.shunting = s.spr.shunting := by
  simp only [State.depletedStop, judgeAfterStop_spr]
  split <;> rfl

theorem depletedStop_running (h0 : Level) (s : State) : (s.depletedStop h0).spr.running = s.spr.running := by
  simp only [State.depletedStop, judgeAfterStop_spr]
  split <;> rfl

/-! ### A throttle frame leaves the motor, or stops it (R65) -/

/-- SPR and MRG stand as they did, or as an emergency stop leaves them. -/
def ThrottleMotion (s t : State) : Prop :=
  t.spr = s.spr ∧ t.mrg = s.mrg
    ∨ t.spr.ref = 0 ∧ t.spr.running = s.spr.running ∧ t.spr.shunting = s.spr.shunting ∧ t.mrg = s.emergencyMotor

theorem ThrottleMotion.of_eq {s t : State} (hr : t.spr = s.spr) (hm : t.mrg = s.mrg) : ThrottleMotion s t := .inl ⟨hr, hm⟩

theorem ThrottleMotion.then_same {s t u : State} (h : ThrottleMotion s t) (hr : u.spr = t.spr) (hm : u.mrg = t.mrg) :
    ThrottleMotion s u := by
  rwa [ThrottleMotion, hr, hm]

theorem ThrottleMotion.after_same {s t u : State} (h : ThrottleMotion t u) (hr : t.spr = s.spr) (hm : t.mrg = s.mrg)
    (hc : t.cfg = s.cfg) (hu : t.sup = s.sup) : ThrottleMotion s u := by
  rwa [ThrottleMotion, hr, hm, emergencyMotor_congr hm hc hu] at h

theorem emergency_motion (h0 : Level) (s : State) : ThrottleMotion s (s.emergency h0) := by
  simp only [State.emergency]
  split
  · exact .inr ⟨emergencyStop_ref .., emergencyStop_running .., emergencyStop_shunting .., by
      rw [emergencyStop_mrg]; exact emergencyMotor_congr (by simp) (by simp) (by simp)⟩
  · exact .inl ⟨by simp, by simp⟩

theorem bindDriver_motion (h0 : Level) (info : FrameInfo) (d : ThrottleData) (s : State) : ThrottleMotion s (s.bindDriver h0 info d) := by
  simp only [State.bindDriver]
  split
  · exact (emergency_motion ..).after_same (by simp) (by simp) (by simp) (by simp)
  · exact .of_eq (by simp) (by simp)

theorem rebindDriver_motion (h0 : Level) (info : FrameInfo) (d : ThrottleData) (s : State) :
    ThrottleMotion s (s.rebindDriver h0 info d) := by
  simp only [State.rebindDriver]
  split
  · exact (emergency_motion ..).after_same (by simp) (by simp) (by simp) (by simp)
  · exact .of_eq (by simp) (by simp)

theorem releaseDriver_motion (h0 : Level) (d : ThrottleData) (s : State) : ThrottleMotion s (s.releaseDriver h0 d) := by
  have hstop : ThrottleMotion s (if d.emergency && h0 == .driver then s.emergency h0 else s) := by
    split
    · exact emergency_motion ..
    · exact .of_eq rfl rfl
  exact hstop.then_same (by simp [State.releaseDriver]) (by simp [State.releaseDriver])

theorem boundFrame_motion (h0 : Level) (d : ThrottleData) (s : State) : ThrottleMotion s (s.boundFrame h0 d) := by
  unfold State.boundFrame
  split
  · exact releaseDriver_motion ..
  · simp only []
    split
    · exact (emergency_motion ..).after_same (by simp) (by simp) (by simp) (by simp)
    · split <;> exact .of_eq (by simp) (by simp)

theorem driverFrame_motion (h0 : Level) (info : FrameInfo) (d : ThrottleData) (s : State) :
    ThrottleMotion s (s.driverFrame h0 info d) := by
  unfold State.driverFrame
  split
  · split
    · exact boundFrame_motion ..
    · split
      · split
        · exact .of_eq rfl rfl
        · exact rebindDriver_motion ..
      · exact .of_eq (by simp) (by simp)
  · split
    · exact .of_eq rfl rfl
    · exact bindDriver_motion ..

theorem takeThrottle_motion (h0 : Level) (info : FrameInfo) (d : ThrottleData) (s : State) :
    ThrottleMotion s (s.takeThrottle h0 info d) := by
  simp only [State.takeThrottle]
  split
  · exact .of_eq (by simp) (by simp)
  · exact (driverFrame_motion ..).after_same (by simp) (by simp) (by simp) (by simp)

theorem dispatchThrottle_motion (payload : List Byte) (info : FrameInfo) (s : State) :
    ThrottleMotion s (State.dispatchThrottle payload info s) := by
  unfold State.dispatchThrottle
  split
  · exact (takeThrottle_motion ..).after_same (by simp) (by simp) (by simp) (by simp)
  · exact .of_eq (by simp) (by simp)

/-! ### The control period (R93 to R106, R115) -/

@[simp] theorem sprCompute_spr (s : State) :
    s.sprCompute.spr =
      { s.spr with
        ref := s.nextRef
        running := s.nextRunning
        braking := if s.nextRef < s.spr.ref then true else if s.spr.ref < s.nextRef then false else s.spr.braking } :=
  rfl

/-- The bridge of a period's computation (R102). -/
def State.periodBridge (s : State) : Bridge := s.sprCompute.mrgLaw.chosenBridge s.sprCompute.standing

@[simp] theorem periodCompute_spr (s : State) : s.periodCompute.spr = s.sprCompute.spr := by simp [State.periodCompute]

theorem mrgLaw_mrg (s : State) :
    s.mrgLaw.mrg =
      { s.mrg with
        integral := s.lawResult.integral
        duty := s.lawResult.duty
        brakeHold := s.mrg.brakeHold && !(s.standing || decide (0 < s.spr.ref)) } := rfl

theorem mrgBridge_mrg (s : State) :
    s.mrgBridge.mrg =
      { s.mrg with bridge := s.chosenBridge s.standing, inDrive := true, active := bridgeActive (s.chosenBridge s.standing) } := rfl

theorem stallCount_mrg (s : State) :
    s.stallCount.mrg =
      { s.mrg with stallRun := if bridgeDrives s.mrg.bridge && s.stallMeets then s.mrg.stallRun + 1 else 0 } := rfl

@[simp] theorem mrgLaw_standing (s : State) : s.mrgLaw.standing = s.standing := rfl

theorem periodCompute_mrg (s : State) :
    s.periodCompute.mrg =
      { s.mrg with
        integral := s.sprCompute.lawResult.integral
        duty := s.sprCompute.lawResult.duty
        brakeHold := s.mrg.brakeHold && !(s.sprCompute.standing || decide (0 < s.nextRef))
        bridge := s.periodBridge
        inDrive := true
        active := bridgeActive s.periodBridge
        stallRun := if bridgeDrives s.periodBridge && s.sprCompute.mrgLaw.mrgBridge.stallMeets then s.mrg.stallRun + 1 else 0 } := by
  simp only [State.periodCompute, stallCount_mrg, mrgBridge_mrg, mrgLaw_mrg, mrgLaw_standing, sprCompute_frame, sprCompute_spr,
    State.periodBridge]
  rfl

/-- The bridge afresh at a stall stop (R115). -/
def State.stallBridge (s : State) : Bridge :=
  State.chosenBridge (((s.addCause .stall).refStop).onMrg fun m => { m with integral := 0, duty := 0, stallRun := 0 })
    (State.standing (((s.addCause .stall).refStop).onMrg fun m => { m with integral := 0, duty := 0, stallRun := 0 }))

theorem stallStop_mrg (h0 : Level) (s : State) :
    (s.stallStop h0).mrg =
      { s.mrg with
        integral := 0
        duty := 0
        stallRun := 0
        bridge := s.stallBridge
        inDrive := true
        active := bridgeActive s.stallBridge } := by
  simp only [State.stallStop, judgeAfterStop_frame]
  simp [State.mrgBridge, State.stallBridge]

theorem stallStop_ref (h0 : Level) (s : State) : (s.stallStop h0).spr.ref = 0 := by
  simp only [State.stallStop, judgeAfterStop_spr]
  split <;> simp

theorem stallStop_shunting (h0 : Level) (s : State) : (s.stallStop h0).spr.shunting = s.spr.shunting := by
  simp only [State.stallStop, judgeAfterStop_spr]
  split <;> simp

theorem stallStop_running (h0 : Level) (s : State) : (s.stallStop h0).spr.running = s.spr.running := by
  simp only [State.stallStop, judgeAfterStop_spr]
  split <;> simp

theorem controlPeriod_of_stall {s : State} (h : s.periodCompute.stallFound = true) :
    s.controlPeriod = s.periodCompute.stallStop s.head := by
  simp only [State.controlPeriod, h, if_true]

theorem controlPeriod_of_no_stall {s : State} (h : s.periodCompute.stallFound = false) : s.controlPeriod = s.periodCompute := by
  simp [State.controlPeriod, h]

/-! ### The ramp and its inhibits (R93 to R95) -/

theorem rampStep_le (ref goal : Nat) (up : Option Nat) (down : Nat) : rampStep ref goal up down ≤ max ref goal := by
  unfold rampStep
  split
  · split <;> omega
  · split <;> omega

/-- The ramp rises only toward its end point. -/
theorem rampStep_le_goal {ref goal : Nat} {up : Option Nat} {down : Nat} (h : ref < rampStep ref goal up down) :
    rampStep ref goal up down ≤ goal := by
  unfold rampStep at h ⊢
  split at h
  · split at h
    · simp_all
    · omega
  · split at h <;> simp_all
    omega

theorem effectiveLimit_le (s : State) : s.effectiveLimit ≤ s.image.traction.vMax := by
  have hlimit : ∀ (limit : Option Nat) (v : Nat), withLimit s.image.traction.knots limit v ≤ v := fun limit v => by
    cases limit <;> simp [withLimit]
  unfold State.effectiveLimit
  split
  · exact le_rfl
  · exact (hlimit ..).trans (hlimit ..)

theorem nextRef_le (s : State) : s.nextRef ≤ max s.spr.ref (16 * s.effectiveLimit) := by
  have hcandidate : s.candidate ≤ max s.spr.ref (16 * s.effectiveLimit) :=
    (rampStep_le ..).trans (max_le_max le_rfl (Nat.mul_le_mul_left _ (min_le_right ..)))
  unfold State.nextRef
  split
  · exact le_max_left ..
  · exact hcandidate

/-- Stage 4 takes a rise only under no inhibit, and the ramp's rise ends at the limit (R92 to R94). -/
theorem nextRef_rises {s : State} (h : s.spr.ref < s.nextRef) : s.riseInhibited = false ∧ s.nextRef ≤ 16 * s.effectiveLimit := by
  unfold State.nextRef at h ⊢
  split at h
  next => omega
  next hfree =>
    have hrises : s.riseInhibited = false := by simpa [h] using hfree
    rw [if_neg hfree]
    exact ⟨hrises, (rampStep_le_goal h).trans (Nat.mul_le_mul_left _ (min_le_right ..))⟩

theorem riseInhibited_false {s : State} (h : s.riseInhibited = false) :
    s.sup.state = .normal ∧ s.head ≠ .failsafe ∧ s.mrg.cool = 0 ∧ s.aut.driverLive.zeroLock = false := by
  simp only [State.riseInhibited, Bool.or_eq_false_iff, bne_eq_false_iff_eq, beq_eq_false_iff_ne, decide_eq_false_iff_not] at h
  obtain ⟨⟨⟨hsup, hhead⟩, hcool⟩, hlock⟩ := h
  exact ⟨hsup, hhead, by omega, hlock⟩

/-! ### What an event does to the reference and the direction -/

/-- A control period takes `ref` and the direction from the five stages, or stops at a stall; every other event keeps them, stops, or
begins afresh. -/
theorem EventBody.motion {c : Instr} {s u : State} (h : EventBody s c u) :
    (u.spr.ref = s.spr.ref ∨ u.spr.ref = 0) ∧ u.spr.running = s.spr.running
      ∨ (c = .controlPeriod ∨ c = .stallDetected) ∧ u.spr.running = s.nextRunning ∧ (u.spr.ref = s.nextRef ∨ u.spr.ref = 0)
      ∨ u.power ≠ .running ∧ u.spr.ref = 0 ∧ u.spr.running = .forward := by
  cases h with
  | throttle arrival =>
    rcases dispatchThrottle_motion _ _ (s.accepted 1) with ⟨hr, -⟩ | ⟨hr, hd, -⟩
    · exact .inl ⟨.inl (by rw [hr]; simp), by rw [hr]; simp⟩
    · exact .inl ⟨.inr hr, by rw [hd]; simp⟩
  | period row =>
    refine .inr (.inl ⟨row, ?_⟩)
    cases hstall : s.periodCompute.stallFound
    · rw [controlPeriod_of_no_stall hstall]
      simp
    · rw [controlPeriod_of_stall hstall]
      exact ⟨by rw [stallStop_running]; simp, .inr (stallStop_ref ..)⟩
  | supply track store =>
    unfold State.supplyMoved
    split
    · exact .inl (by simp)
    · exact .inl (by simp [State.enterNormal])
    · exact .inl (by simp [State.enterBridging])
    · exact .inl ⟨.inr (depletedStop_ref ..), by rw [State.enterDepleted, depletedStop_running]; simp⟩
  | service answers =>
    unfold State.dispatchService
    split
    · rcases takeService_cases answers (serviceData _) ((s.accepted 5).hear _ .tool none) with
        ⟨st, h⟩ | h | ⟨-, -, -, h⟩ | ⟨-, h⟩ | h <;> rw [h]
      · exact .inl (by simp)
      · exact .inl (by simp)
      · exact .inl (by simp)
      · exact .inl (by simp)
      · exact .inr (.inr (by simp [State.restart, State.beginStart, State.startValues]))
    · exact .inl (by simp)
  | page =>
    rcases pageDone_cases _ _ _ _ s with ⟨-, -, h⟩ | ⟨-, h⟩ <;> rw [h]
    · exact .inl (by simp)
    · rcases writeDone_cases _ _ (s.onEeprom fun m => pageStored m _ _) with ⟨-, h⟩ | ⟨-, h⟩ <;> rw [h]
      · exact .inl (by simp)
      · exact .inr (.inr (by simp [State.beginStart, State.startValues]))
  | bemf => exact .inl (by simp [State.bemf])
  | _ => exact .inl (by simp)

/-- An event's end leaves SPR but for the shunting flag. -/
theorem close_motion (s0 u : State) : (u.close s0).spr.ref = u.spr.ref ∧ (u.close s0).spr.running = u.spr.running := by
  unfold State.close
  split
  · obtain ⟨href, hrunning, -, -⟩ := motionKept_settle (u := s0) (motionKept_of_spr_eq (s := u) rfl)
    exact ⟨href, hrunning⟩
  · exact ⟨rfl, rfl⟩
  · exact ⟨rfl, rfl⟩

/-- What a command does to the reference and the direction. -/
theorem Effect.motion {c : Instr} {s t : State} (h : Effect s c t) :
    (t.spr.ref = s.spr.ref ∨ t.spr.ref = 0) ∧ t.spr.running = s.spr.running
      ∨ (c = .controlPeriod ∨ c = .stallDetected) ∧ t.spr.running = s.nextRunning ∧ (t.spr.ref = s.nextRef ∨ t.spr.ref = 0)
      ∨ (t.power ≠ .running ∨ s.power = .starting) ∧ t.spr.ref = 0 ∧ t.spr.running = .forward := by
  cases h with
  | nothing | header | discarded | sensor => exact .inl (by simp)
  | closed running body =>
    rw [(close_motion s _).1, (close_motion s _).2, close_power]
    rcases body.motion with h | h | ⟨hp, h⟩
    · exact .inl h
    · exact .inr (.inl h)
    · exact .inr (.inr ⟨.inl hp, h⟩)
  | direct running effect => cases effect <;> exact .inl (by simp)
  | entry starting =>
    unfold State.entryTest
    split
    · split
      · exact .inl (by simp)
      · exact .inr (.inr ⟨.inr starting, by simp [State.completeStart, State.startupSound, State.startValues],
          by simp [State.completeStart, State.startupSound, State.startValues]⟩)
    · exact .inl (by simp)
  | brownOut => exact .inr (.inr (by simp [State.brownOut, State.startValues]))
  | powerOn => exact .inr (.inr (by simp [State.beginStart, State.startValues]))

/-- Settles O13: only a control period's stages raise `ref`, and they rise under no inhibit and no further than the limit. -/
theorem referenceRisesOnlyUnderItsLaws : Obligations.ReferenceRisesOnlyUnderItsLaws := by
  intro c s t h hrise
  rcases (effect_of_exec h).motion with ⟨href | href, -⟩ | ⟨hc, -, href | href⟩ | ⟨-, href, -⟩
  · omega
  · omega
  · rw [href] at hrise
    obtain ⟨hfree, hlimit⟩ := nextRef_rises hrise
    exact ⟨hc, by rw [href]; exact hlimit, riseInhibited_false hfree⟩
  · omega
  · omega

/-- Settles O14: Stage 5 turns the direction only where it leaves `ref` at 0, and a stall stop in the same period leaves it there. -/
theorem directionTurnsOnlyAtReferenceZero : Obligations.DirectionTurnsOnlyAtReferenceZero := by
  intro c s t h hturned
  rcases (effect_of_exec h).motion with ⟨-, hrunning⟩ | ⟨hc, hrunning, href⟩ | ⟨hp, href, hrunning⟩
  · exact absurd hrunning hturned
  · have hzero : s.nextRef = 0 := by
      by_contra hne
      exact hturned (by rw [hrunning, State.nextRunning, if_neg hne])
    refine ⟨by rcases href with h | h <;> simp [h, hzero], .inl ⟨hc, ?_⟩⟩
    rw [hrunning, State.nextRunning, if_pos hzero]
  · exact ⟨href, .inr (hp.imp (fun h => ⟨h, hrunning⟩) fun h => ⟨h, hrunning⟩)⟩

end Sys2Proof.Machine
end

section
/-! The bridge and its duty, and the motor's quantities in their ranges (chapter 7). -/

namespace Sys2Proof.Machine

/-! ### The end of a drive phase at MRG (R109 to R113) -/

@[simp] theorem overcurrentLatch_mrg (s : State) : s.overcurrentLatch.mrg = { s.mrg with tripDecay := none, bridge := .off } := by
  simp [State.overcurrentLatch]

theorem trip_mrg_of_latch {s : State} (h : 4 ≤ s.mrg.tripCount + 1) :
    s.trip.mrg =
      { s.mrg with
        overRun := 0, tripCount := s.mrg.tripCount + 1, tripDecay := none, integral := 0, duty := 0, stallRun := 0, bridge := .off } := by
  have hlatch : 4 ≤ ((s.onMrg fun m =>
      { m with overRun := 0, tripCount := m.tripCount + 1, tripDecay := some 10000, integral := 0, duty := 0, stallRun := 0 }).signal
        .motorTrip).mrg.tripCount := by simpa using h
  rw [State.trip, if_pos hlatch]
  simp

theorem trip_mrg_of_cool {s : State} (h : ¬4 ≤ s.mrg.tripCount + 1) :
    s.trip.mrg =
      { s.mrg with
        overRun := 0, tripCount := s.mrg.tripCount + 1, tripDecay := some 10000, integral := 0, duty := 0, stallRun := 0
        cool := 25, bridge := .cool } := by
  have hlatch : ¬4 ≤ ((s.onMrg fun m =>
      { m with overRun := 0, tripCount := m.tripCount + 1, tripDecay := some 10000, integral := 0, duty := 0, stallRun := 0 }).signal
        .motorTrip).mrg.tripCount := by simpa using h
  rw [State.trip, if_neg hlatch]
  simp

theorem coolCount_mrg (s : State) :
    s.coolCount.mrg =
      if s.mrg.bridge = .cool then { s.mrg with cool := s.mrg.cool - 1, bridge := if s.mrg.cool ≤ 1 then .off else .cool } else s.mrg := by
  unfold State.coolCount
  split <;> rfl

/-- A phase whose current counts high at the overcurrent test (R110). -/
def State.phaseHigh (current : Nat) (s : State) : Bool := s.overcurrentTested && s.image.traction.iTrip < min current 4000

theorem tripTest_eq (current : Nat) (s : State) : s.tripTest current = (s.phaseHigh current && decide (2 ≤ s.mrg.overRun)) := rfl

theorem phaseEnd_mrg_of_trip {current : Nat} {s : State} (h : s.tripTest current = true) :
    (s.phaseEnd current).mrg =
      { (s.currentTaken current).trip.mrg with inDrive := false, active := false } := by
  rw [State.phaseEnd, if_pos h]
  rfl

theorem phaseEnd_mrg_of_no_trip {current : Nat} {s : State} (h : s.tripTest current = false) :
    (s.phaseEnd current).mrg =
      { s.mrg with
        window := s.mrg.window.tail ++ [min current 4000]
        overRun := if s.phaseHigh current then s.mrg.overRun + 1 else 0
        cool := if s.mrg.bridge = .cool then s.mrg.cool - 1 else s.mrg.cool
        bridge := if s.mrg.bridge = .cool then (if s.mrg.cool ≤ 1 then .off else .cool) else s.mrg.bridge
        inDrive := false
        active := false } := by
  have htested : (s.currentTaken current).phaseHigh current = s.phaseHigh current := by
    simp [State.phaseHigh, State.overcurrentTested, State.image]
  have hrun : (State.overRunCount current (s.currentTaken current)).mrg =
      { s.mrg with
        window := s.mrg.window.tail ++ [min current 4000]
        overRun := if s.phaseHigh current then s.mrg.overRun + 1 else 0 } := by
    rw [← htested]
    simp [State.overRunCount, State.phaseHigh]
  rw [State.phaseEnd, h]
  simp only [onMrg_mrg, coolCount_mrg, hrun, Bool.false_eq_true, if_false]
  split <;> rfl

/-! ### The law's results in range (R103 to R105) -/

theorem piLaw_duty_le (t : TractionConfig) (dMax ref y : Nat) (integral : Int) : (piLaw t dMax ref y integral).duty ≤ dMax := by
  have h := piLaw_duty t dMax ref y integral
  omega

theorem piLaw_integral_range {t : TractionConfig} {dMax ref y : Nat} {integral : Int} (h : -64000 ≤ integral ∧ integral ≤ 64000) :
    -64000 ≤ (piLaw t dMax ref y integral).integral ∧ (piLaw t dMax ref y integral).integral ≤ 64000 := by
  by_cases hw : windsUp dMax (lawSum t ref (lawError ref y) (nextIntegral t ref y integral)) (lawError ref y)
  · rwa [piLaw_integral_of_windsUp t dMax ref y integral hw]
  · rw [piLaw_integral_of_not_windsUp t dMax ref y integral hw, nextIntegral]
    omega

theorem lawResult_duty_le (s : State) : s.lawResult.duty ≤ s.dMaxEff := by
  unfold State.lawResult
  split
  · exact piLaw_duty_le ..
  · exact Nat.zero_le _

theorem lawResult_integral_range {s : State} (h : -64000 ≤ s.mrg.integral ∧ s.mrg.integral ≤ 64000) :
    -64000 ≤ s.lawResult.integral ∧ s.lawResult.integral ≤ 64000 := by
  unfold State.lawResult
  split
  · exact piLaw_integral_range h
  · simp

/-- The bridge table drives in its last line alone, below the latch, COOL and DEPLETED (R102). -/
theorem bridgeFor_drives {latched depleted hold stop brakeAtStop : Bool} {cool duty : Nat} {d : Direction}
    (h : bridgeDrives (bridgeFor latched cool depleted hold stop brakeAtStop duty d) = true) :
    1 ≤ duty ∧ depleted = false ∧ cool = 0 ∧ latched = false := by
  unfold bridgeFor at h
  split at h
  · simp [bridgeDrives] at h
  · split at h
    · simp [bridgeDrives] at h
    · split at h
      · simp [bridgeDrives] at h
      · split at h
        · simp [bridgeDrives] at h
        · split at h
          · split at h <;> simp [bridgeDrives] at h
          · split at h
            · simp_all
            · simp [bridgeDrives] at h

theorem chosenBridge_drives {s : State} {stop : Bool} (h : bridgeDrives (s.chosenBridge stop) = true) :
    1 ≤ s.mrg.duty ∧ s.sup.state ≠ .depleted ∧ s.mrg.cool = 0 ∧ s.cfg.overcurrent = false := by
  simpa using bridgeFor_drives h

/-- With the duty at 0 the table does not drive (R102). -/
theorem chosenBridge_of_no_duty {s : State} {stop : Bool} (h : s.mrg.duty = 0) : bridgeDrives (s.chosenBridge stop) = false := by
  by_contra hd
  have := (chosenBridge_drives (by simpa using hd)).1
  omega

theorem periodBridge_drives {s : State} (h : bridgeDrives s.periodBridge = true) :
    1 ≤ s.periodCompute.mrg.duty ∧ s.sup.state ≠ .depleted ∧ s.mrg.cool = 0 ∧ s.cfg.overcurrent = false := by
  have h' := chosenBridge_drives h
  simp only [mrgLaw_frame, mrgLaw_mrg, sprCompute_frame] at h'
  rw [periodCompute_mrg]
  exact h'

theorem stallBridge_not_drives (s : State) : bridgeDrives s.stallBridge = false := chosenBridge_of_no_duty rfl

theorem periodCompute_duty_le (s : State) : s.periodCompute.mrg.duty ≤ s.dMaxEff := by
  rw [periodCompute_mrg]
  have h := lawResult_duty_le s.sprCompute
  simpa [State.dMaxEff, State.image] using h

/-! ### The bridge law (R100, R102, R108, R110, R113) -/

/-- The bridge and the duty meet their laws. -/
def MotorLaw (s : State) : Prop := BridgeLaw s ∧ DutyLaw s

/-- What the laws of the motor are read off stands as it did. -/
def SameMotor (s t : State) : Prop :=
  (t.mrg.bridge = s.mrg.bridge ∧ t.mrg.duty = s.mrg.duty ∧ t.mrg.cool = s.mrg.cool) ∧ t.sup.state = s.sup.state
    ∧ t.cfg.overcurrent = s.cfg.overcurrent ∧ t.cfg.image = s.cfg.image

theorem MotorLaw.congr {s t : State} (h : SameMotor s t) (hs : MotorLaw s) : MotorLaw t := by
  obtain ⟨⟨hb, hd, hc⟩, hu, ho, hi⟩ := h
  simpa only [MotorLaw, BridgeLaw, DutyLaw, State.dMaxEff, State.image, hb, hd, hc, hu, ho, hi] using hs

/-- A motor at rest meets the laws, whatever the image and the supply. -/
theorem MotorLaw.of_rest {s : State} (hb : bridgeDrives s.mrg.bridge = false) (hd : s.mrg.duty = 0) : MotorLaw s :=
  ⟨fun h => absurd h (by simp [hb]), by simp [DutyLaw, hd]⟩

theorem dMaxEff_congr {s t : State} (hu : t.sup.state = s.sup.state) (hi : t.cfg.image = s.cfg.image) : t.dMaxEff = s.dMaxEff := by
  simp only [State.dMaxEff, State.image, hu, hi]

/-- An emergency stop brakes with the duty at 0, or leaves a bridge that the laws already govern (R107). -/
theorem MotorLaw.of_emergency {s t : State} (hs : MotorLaw s) (hm : t.mrg = s.emergencyMotor) (hu : t.sup.state = s.sup.state)
    (ho : t.cfg.overcurrent = s.cfg.overcurrent) (hi : t.cfg.image = s.cfg.image) : MotorLaw t := by
  obtain ⟨hbridge, hduty⟩ := hs
  cases hg : s.emergencyGoverns with
  | true => exact .of_rest (by simp [hm, State.emergencyMotor, hg, bridgeDrives]) (by simp [hm, State.emergencyMotor, hg])
  | false =>
    refine ⟨?_, ?_⟩
    · simpa [BridgeLaw, hm, hu, ho, State.emergencyMotor, hg] using hbridge
    · simpa [DutyLaw, hm, dMaxEff_congr hu hi, State.emergencyMotor, hg] using hduty

theorem controlPeriod_motorLaw (s : State) : MotorLaw s.controlPeriod := by
  cases hstall : s.periodCompute.stallFound
  · rw [controlPeriod_of_no_stall hstall]
    refine ⟨fun h => ?_, ?_⟩
    · simp only [periodCompute_frame]
      have hcool : s.periodCompute.mrg.cool = s.mrg.cool := by rw [periodCompute_mrg]
      rw [hcool]
      exact periodBridge_drives (by rwa [periodCompute_mrg] at h)
    · rw [DutyLaw, dMaxEff_congr (s := s) (by simp) (by simp)]
      exact periodCompute_duty_le s
  · rw [controlPeriod_of_stall hstall]
    exact .of_rest (by simp [stallStop_mrg, stallBridge_not_drives]) (by simp [stallStop_mrg])

theorem phaseEnd_motorLaw (current : Nat) {s : State} (hs : MotorLaw s) : MotorLaw (s.phaseEnd current) := by
  cases htrip : s.tripTest current with
  | true =>
    have hm := phaseEnd_mrg_of_trip htrip
    by_cases hlatch : 4 ≤ (s.currentTaken current).mrg.tripCount + 1
    · rw [trip_mrg_of_latch hlatch] at hm
      exact .of_rest (by simp [hm, bridgeDrives]) (by simp [hm])
    · rw [trip_mrg_of_cool hlatch] at hm
      exact .of_rest (by simp [hm, bridgeDrives]) (by simp [hm])
  | false =>
    obtain ⟨hbridge, hduty⟩ := hs
    have hm := phaseEnd_mrg_of_no_trip htrip
    have hi : (s.phaseEnd current).cfg.image = s.cfg.image := by simp
    refine ⟨fun h => ?_, by simpa [DutyLaw, hm, dMaxEff_congr (s := s) (by simp) hi] using hduty⟩
    rw [hm] at h ⊢
    by_cases hcool : s.mrg.bridge = .cool
    · have : bridgeDrives (if s.mrg.cool ≤ 1 then .off else .cool) = false := by split <;> rfl
      simp [hcool, this] at h
    · simp only [hcool, if_false] at h ⊢
      simpa [htrip] using hbridge h

theorem supplyMoved_motorLaw (m : SupplyMove) {s : State} (hs : MotorLaw s) : MotorLaw (s.supplyMoved s.head m) := by
  obtain ⟨hbridge, hduty⟩ := hs
  have hother : ∀ t : State, t.mrg = s.mrg → t.cfg = s.cfg → t.sup.state ≠ .depleted → MotorLaw t := fun t hm hc hu => by
    refine ⟨fun h => ?_, ?_⟩
    · rw [hm, hc]
      obtain ⟨hd, -, hcool, hlatch⟩ := hbridge (by rwa [hm] at h)
      exact ⟨hd, hu, hcool, hlatch⟩
    · simp only [DutyLaw, State.dMaxEff, State.image, hm, hc, hu, if_false] at hduty ⊢
      split at hduty <;> omega
  unfold State.supplyMoved
  split
  · exact MotorLaw.congr ⟨⟨rfl, rfl, rfl⟩, rfl, rfl, rfl⟩ ⟨hbridge, hduty⟩
  · exact hother _ (by simp [State.enterNormal]) (by simp [State.enterNormal]) (by simp [State.enterNormal])
  · exact hother _ (by simp [State.enterBridging]) (by simp [State.enterBridging]) (by simp [State.enterBridging])
  · refine .of_rest ?_ (by simp [State.enterDepleted])
    simp only [State.enterDepleted, depletedStop_mrg]
    split
    · rfl
    next h =>
      simp only [bridgeActive, Bool.or_eq_true, not_or] at h
      simpa using h.1

/-- CLEAR_FAULTS leaves the bridge and the duty (R114). -/
theorem clearFaults_motorLaw {s : State} (hs : MotorLaw s) : MotorLaw s.clearFaults := by
  obtain ⟨hbridge, hduty⟩ := hs
  have hmotor : s.clearFaults.mrg.bridge = s.mrg.bridge ∧ s.clearFaults.mrg.duty = s.mrg.duty
      ∧ s.clearFaults.mrg.cool = s.mrg.cool := by
    unfold State.clearFaults
    split <;> simp [State.tripClear]
  obtain ⟨hb, hd, hcool⟩ := hmotor
  refine ⟨fun h => ?_, ?_⟩
  · rw [hb] at h
    obtain ⟨h1, h2, h3, -⟩ := hbridge h
    exact ⟨by rwa [hd], by simpa using h2, by rwa [hcool], by simp⟩
  · rwa [DutyLaw, hd, dMaxEff_congr (s := s) (by simp) (by simp)]

theorem EventBody.motorLaw {c : Instr} {s u : State} (hs : MotorLaw s) (h : EventBody s c u) : MotorLaw u := by
  cases h with
  | @throttle payload _ col arrival =>
    rcases dispatchThrottle_motion payload (frameInfo col) (s.accepted 1) with ⟨-, hm⟩ | ⟨-, -, -, hm⟩
    · exact hs.congr ⟨by simp [hm], by simp, by simp, by simp⟩
    · exact hs.of_emergency (by rw [hm]; exact emergencyMotor_congr (by simp) (by simp) (by simp)) (by simp) (by simp) (by simp)
  | period => exact controlPeriod_motorLaw s
  | phase => exact phaseEnd_motorLaw _ hs
  | supply => exact supplyMoved_motorLaw _ hs
  | service answers =>
    unfold State.dispatchService
    split
    · rcases takeService_cases answers (serviceData _) ((s.accepted 5).hear _ .tool none) with
        ⟨st, h⟩ | h | ⟨-, -, -, h⟩ | ⟨-, h⟩ | h <;> rw [h]
      · exact hs.congr (by simp [SameMotor])
      · exact hs.congr (by simp [SameMotor])
      · exact hs.congr (by simp [SameMotor])
      · exact clearFaults_motorLaw (hs.congr (by simp [SameMotor]))
      · exact .of_rest rfl rfl
    · exact hs.congr (by simp [SameMotor])
  | page =>
    rcases pageDone_cases _ _ _ _ s with ⟨-, -, h⟩ | ⟨-, h⟩ <;> rw [h]
    · exact hs.congr (by simp [SameMotor])
    · rcases writeDone_cases _ _ (s.onEeprom fun m => pageStored m _ _) with ⟨-, h⟩ | ⟨-, h⟩ <;> rw [h]
      · exact hs.congr (by simp [SameMotor])
      · exact .of_rest rfl rfl
  | bemf => exact hs.congr (by simp [SameMotor, State.bemf, State.measure])
  | bridging => exact hs.congr (by simp [SameMotor, State.bridgingDone])
  | normalHold => exact hs.congr (by simp [SameMotor, State.normalHoldDone])
  | _ => exact hs.congr (by simp [SameMotor])

theorem close_sameMotor (s0 u : State) : SameMotor u (u.close s0) := by
  unfold State.close
  split <;> simp [SameMotor]

theorem Effect.motorLaw {c : Instr} {s t : State} (hs : MotorLaw s) (h : Effect s c t) : MotorLaw t := by
  cases h with
  | nothing => exact hs
  | header | discarded | sensor => exact hs.congr (by simp [SameMotor])
  | closed running body => exact (body.motorLaw hs).congr (close_sameMotor s _)
  | direct running effect => cases effect <;> exact hs.congr (by simp [SameMotor, State.tripDecayDone])
  | entry =>
    unfold State.entryTest
    split
    · split
      · exact hs.congr (by simp [SameMotor])
      · exact .of_rest (by simp [State.completeStart, State.startupSound, State.startValues, bridgeDrives])
          (by simp [State.completeStart, State.startupSound, State.startValues])
    · exact hs.congr (by simp [SameMotor])
  | brownOut | powerOn => exact .of_rest rfl rfl

/-- Settles O9: a computation chooses the bridge by its table, every stop takes the duty or the drive, and COOL, DEPLETED and the latch
begin with the bridge at rest. -/
theorem everyStepKeepsTheBridgeLaw : Obligations.EveryStepKeepsTheBridgeLaw :=
  keptByEveryStep_of_effect (fun _ _ h => h) (fun _ _ h => h) fun _ _ _ hs h => h.motorLaw hs

end Sys2Proof.Machine
end

section
/-! The image in use clamped and repaired (R168), and the quantities of SPR, MRG and CHG in their ranges. -/

namespace Sys2Proof.Machine

/-! ### Clamping an image again changes nothing (R168) -/

@[simp] theorem clampNat_clampNat {x lo hi : Nat} (h : lo ≤ hi) : clampNat (clampNat x lo hi) lo hi = clampNat x lo hi := by
  rw [clampNat_eq _ _ _ h, clampNat_eq _ _ _ h]
  omega

theorem clampNat_le {x lo hi : Nat} (h : lo ≤ hi) : clampNat x lo hi ≤ hi := by
  rw [clampNat_eq _ _ _ h]
  omega

theorem clampNat_of_range {x hi : Nat} (h : x ≤ hi) : clampNat x 0 hi = x := by
  rw [clampNat_eq _ _ _ (Nat.zero_le _)]
  omega

theorem risingKnots_risingKnots (lo : Nat) (vs : List Nat) : risingKnots lo (risingKnots lo vs) = risingKnots lo vs := by
  induction vs generalizing lo with
  | nil => rfl
  | cons v vs ih => simp only [risingKnots, max_eq_right (le_max_left lo v), ih]

theorem risingKnots_le {lo hi : Nat} {vs : List Nat} (hlo : lo ≤ hi) (h : ∀ v ∈ vs, v ≤ hi) : ∀ v ∈ risingKnots lo vs, v ≤ hi := by
  induction vs generalizing lo with
  | nil => simp [risingKnots]
  | cons v vs ih =>
    have hmax : max lo v ≤ hi := max_le hlo (h v (by simp))
    simp only [risingKnots, List.mem_cons, forall_eq_or_imp]
    exact ⟨hmax, ih hmax fun w hw => h w (by simp [hw])⟩

theorem map_clampNat_risingKnots (hi : Nat) (vs : List Nat) :
    ((risingKnots 0 (vs.map fun v => clampNat v 0 hi)).map fun v => clampNat v 0 hi) =
      risingKnots 0 (vs.map fun v => clampNat v 0 hi) := by
  have hle : ∀ v ∈ risingKnots 0 (vs.map fun v => clampNat v 0 hi), v ≤ hi := by
    refine risingKnots_le (Nat.zero_le _) fun v hv => ?_
    obtain ⟨w, -, rfl⟩ := List.mem_map.1 hv
    exact clampNat_le (Nat.zero_le _)
  exact (List.map_congr_left fun v hv => clampNat_of_range (hle v hv)).trans (List.map_id' _)

theorem clampTraction_clampTraction (t : TractionConfig) : clampTraction (clampTraction t) = clampTraction t := by
  simp [clampTraction, map_clampNat_risingKnots, risingKnots_risingKnots]

theorem clampContext_clampContext (c : ContextConfig) : clampContext (clampContext c) = clampContext c := by
  have haction : ∀ k : EntryAction, clampAction (clampAction k) = clampAction k := fun k => by
    cases k <;> simp [clampAction]
  simp [clampContext, Function.comp_def, haction]

theorem repairedRb_range {rA rB : Nat} (hA : rA ≤ 1023) (hB : rB ≤ 1023) : repairedRb rA rB ≤ 1023 ∧ repairedRb rA rB ≠ rA := by
  unfold repairedRb
  split
  · split <;> omega
  · omega

theorem clampSmoke_clampSmoke (k : SmokeConfig) : clampSmoke (clampSmoke k) = clampSmoke k := by
  obtain ⟨hle, hne⟩ := repairedRb_range (clampNat_le (x := k.rA) (Nat.zero_le 1023)) (clampNat_le (x := k.rB) (Nat.zero_le 1023))
  have hfixed : ∀ rA rB : Nat, rB ≠ rA → repairedRb rA rB = rB := fun rA rB h => if_neg (Ne.symm h)
  simp [clampSmoke, clampNat_of_range hle, hfixed _ _ hne]

theorem clampChuff_clampChuff (c : ChuffConfig) : clampChuff (clampChuff c) = clampChuff c := by
  have hclamp : ∀ x : Nat, clampNat x 0 1023 = min x 1023 := fun x => by rw [clampNat_eq _ _ _ (Nat.zero_le _)]; omega
  simp only [clampChuff, clampNat_clampNat (Nat.zero_le _), hclamp, ChuffConfig.mk.injEq, true_and]
  omega

theorem clampCounter_clampCounter (c : CounterConfig) : clampCounter (clampCounter c) = clampCounter c := by
  by_cases h : 14 < c.event <;> simp [clampCounter, h]

/-- Clamping is idempotent, the repairs of the curve, of the smoke calibration and of the bands included. -/
theorem clampImage_clampImage (im : Image) : clampImage (clampImage im) = clampImage im := by
  have hmap : ∀ e : MapEntry, clampMapEntry (clampMapEntry e) = clampMapEntry e := fun e => by simp [clampMapEntry]
  have hlamp : ∀ l : LampConfig, clampLamp (clampLamp l) = clampLamp l := fun l => by simp [clampLamp]
  simp [clampImage, clampIdentity, clampWindows, clampSound, clampSupply, clampTraction_clampTraction, clampContext_clampContext,
    clampSmoke_clampSmoke, clampChuff_clampChuff, clampCounter_clampCounter, Function.comp_def, hmap, hlamp]

/-- The image that a start takes is clamped, whatever the EEPROM holds (R167). -/
theorem imageLaw_of_chosenImage {s : State} {mem : List Host.Cell} {answered : Bool} (h : s.cfg.image = chosenImage mem answered) :
    ImageLaw s := by
  rw [ImageLaw, h]
  exact clampImage_clampImage _

theorem vMax_le {s : State} (h : ImageLaw s) : s.image.traction.vMax ≤ 1023 := by
  rw [State.image, ← h]
  exact clampNat_le (Nat.zero_le _)

theorem Effect.imageLaw {c : Instr} {s t : State} (hs : ImageLaw s) (h : Effect s c t) : ImageLaw t := by
  rcases h.image with himage | ⟨-, answered, himage⟩
  · rwa [ImageLaw, himage]
  · exact imageLaw_of_chosenImage himage

/-! ### The ranges (R88, R100, R103, R104, R109, R110, R113, R115) -/

/-- The ranges of MRG, with the trips that the latch allows. -/
def MotorRanges (latched : Bool) (m : Mrg) : Prop :=
  m.w ≤ 4092 ∧ m.y = m.w / 4 ∧ (-64000 ≤ m.integral ∧ m.integral ≤ 64000) ∧ (m.window.length = 25 ∧ ∀ n ∈ m.window, n ≤ 4000)
    ∧ m.overRun ≤ 2 ∧ m.cool ≤ 25 ∧ (m.tripCount ≤ 4 ∧ (latched = false → m.tripCount ≤ 3)) ∧ m.stallRun ≤ 499

/-- The ranges of CHG. -/
def ChuffRanges (c : Chg) : Prop := c.phase < 65536 ∧ c.count < 65536

theorem rangeLaw_iff {s : State} :
    RangeLaw s ↔ s.spr.ref ≤ 16368 ∧ MotorRanges s.cfg.overcurrent s.mrg ∧ ChuffRanges s.chg := by
  simp only [RangeLaw, MotorRanges, ChuffRanges]
  tauto

theorem motorRanges_start (latched : Bool) : MotorRanges latched ({} : Mrg) := by
  simp [MotorRanges]

theorem emergencyMotor_ranges {s : State} (h : MotorRanges s.cfg.overcurrent s.mrg) :
    MotorRanges s.cfg.overcurrent s.emergencyMotor := by
  obtain ⟨hw, hy, -, hwin, hover, hcool, htrip, hstall⟩ := h
  exact ⟨hw, hy, by simp [State.emergencyMotor], hwin, hover, hcool, htrip, hstall⟩

theorem controlPeriod_ranges {s : State} (h : MotorRanges s.cfg.overcurrent s.mrg) :
    MotorRanges s.cfg.overcurrent s.controlPeriod.mrg := by
  obtain ⟨hw, hy, hint, hwin, hover, hcool, htrip, -⟩ := h
  have hcompute : MotorRanges s.cfg.overcurrent { s.periodCompute.mrg with stallRun := 0 } := by
    rw [periodCompute_mrg]
    exact ⟨hw, hy, lawResult_integral_range (s := s.sprCompute) (by simpa using hint), hwin, hover, hcool, htrip, Nat.zero_le _⟩
  obtain ⟨hw, hy, hint, hwin, hover, hcool, htrip, -⟩ := hcompute
  cases hstall : s.periodCompute.stallFound
  · rw [controlPeriod_of_no_stall hstall]
    refine ⟨hw, hy, hint, hwin, hover, hcool, htrip, ?_⟩
    simp only [State.stallFound, decide_eq_false_iff_not] at hstall
    omega
  · rw [controlPeriod_of_stall hstall, stallStop_mrg]
    exact ⟨hw, hy, by simp, hwin, hover, hcool, htrip, Nat.zero_le _⟩

/-- The window keeps its length and its bound when a phase's current enters (R109). -/
theorem window_ranges {window : List Nat} (h : window.length = 25 ∧ ∀ n ∈ window, n ≤ 4000) (current : Nat) :
    (window.tail ++ [min current 4000]).length = 25 ∧ ∀ n ∈ window.tail ++ [min current 4000], n ≤ 4000 := by
  refine ⟨by simp [h.1], fun n hn => ?_⟩
  rcases List.mem_append.1 hn with hn | hn
  · exact h.2 n (List.mem_of_mem_tail hn)
  · rw [List.mem_singleton.1 hn]
    exact min_le_right ..

/-- A trip finds fewer than four trips, for the test is made without the latch alone; the fourth one latches (R110, R113). -/
theorem phaseEnd_ranges (current : Nat) {s : State} (h : MotorRanges s.cfg.overcurrent s.mrg) :
    MotorRanges (s.phaseEnd current).cfg.overcurrent (s.phaseEnd current).mrg := by
  obtain ⟨hw, hy, hint, hwin, hover, hcool, ⟨htrip, hfree⟩, hstall⟩ := h
  have hwindow := window_ranges hwin current
  cases htest : s.tripTest current with
  | true =>
    have hlatched : s.cfg.overcurrent = false := by
      simp only [State.tripTest, State.overcurrentTested, Bool.and_eq_true, Bool.not_eq_true'] at htest
      exact htest.1.1.2
    have hthree := hfree hlatched
    rw [phaseEnd_mrg_of_trip htest]
    by_cases hlatch : 4 ≤ (s.currentTaken current).mrg.tripCount + 1
    · rw [trip_mrg_of_latch hlatch]
      simp only [currentTaken_mrg] at hlatch ⊢
      refine ⟨hw, hy, by simp, hwindow, Nat.zero_le _, hcool, ⟨Nat.succ_le_succ hthree, fun h => ?_⟩, Nat.zero_le _⟩
      simp [htest, Nat.le_of_succ_le_succ hlatch] at h
    · rw [trip_mrg_of_cool hlatch]
      simp only [currentTaken_mrg] at hlatch ⊢
      have hfew : s.mrg.tripCount + 1 ≤ 3 := by omega
      exact ⟨hw, hy, by simp, hwindow, Nat.zero_le _, le_rfl, ⟨hfew.trans (by decide), fun _ => hfew⟩, Nat.zero_le _⟩
  | false =>
    rw [phaseEnd_mrg_of_no_trip htest, phaseEnd_cfg, htest]
    refine ⟨hw, hy, hint, hwindow, ?_, ?_, ⟨htrip, by simpa using hfree⟩, hstall⟩
    · rw [tripTest_eq] at htest
      simp only []
      split
      next hhigh =>
        simp only [hhigh, Bool.true_and, decide_eq_false_iff_not] at htest
        omega
      next => exact Nat.zero_le _
    · simp only []
      split <;> omega

theorem bemf_mrg (raw : Nat) (s : State) : (s.bemf raw).mrg = (s.measure raw).mrg := by simp [State.bemf]

theorem bemf_ranges (raw : Nat) {s : State} (h : MotorRanges s.cfg.overcurrent s.mrg) :
    MotorRanges s.cfg.overcurrent (s.bemf raw).mrg := by
  obtain ⟨hw, -, hint, hwin, hover, hcool, htrip, hstall⟩ := h
  have hz : bemfReading s.image.traction.bemfCal raw ≤ 1023 := min_le_left ..
  rw [bemf_mrg]
  refine ⟨?_, rfl, hint, hwin, hover, hcool, htrip, hstall⟩
  simp only [State.measure, onMrg_mrg]
  omega

theorem supplyMoved_ranges (m : SupplyMove) {s : State} (h : MotorRanges s.cfg.overcurrent s.mrg) :
    MotorRanges s.cfg.overcurrent (s.supplyMoved s.head m).mrg := by
  unfold State.supplyMoved
  split
  · exact h
  · simpa [State.enterNormal] using h
  · simpa [State.enterBridging] using h
  · obtain ⟨hw, hy, -, hwin, hover, hcool, htrip, hstall⟩ := h
    simp only [State.enterDepleted, depletedStop_mrg, smokeSupply_frame, addCause_frame, onSup_mrg]
    exact ⟨hw, hy, by simp, hwin, hover, hcool, htrip, hstall⟩

/-- CLEAR_FAULTS takes the trips where it takes the latch (R114). -/
theorem clearFaults_ranges {s : State} (h : MotorRanges s.cfg.overcurrent s.mrg) :
    MotorRanges s.clearFaults.cfg.overcurrent s.clearFaults.mrg := by
  obtain ⟨hw, hy, hint, hwin, hover, hcool, ⟨htrip, hfree⟩, hstall⟩ := h
  rw [clearFaults_cfg]
  cases hlatch : s.cfg.overcurrent with
  | true =>
    simp only [State.clearFaults, hlatch, if_true, answer_frame, removeCause_frame, onCfg_mrg]
    exact ⟨hw, hy, hint, hwin, Nat.zero_le _, hcool, ⟨Nat.zero_le _, fun _ => Nat.zero_le _⟩, hstall⟩
  | false =>
    simp only [State.clearFaults, hlatch, Bool.false_eq_true, if_false, answer_frame, removeCause_frame, onCfg_mrg]
    exact ⟨hw, hy, hint, hwin, hover, hcool, ⟨htrip, fun _ => hfree hlatch⟩, hstall⟩

theorem EventBody.motorRanges {c : Instr} {s u : State} (hs : MotorRanges s.cfg.overcurrent s.mrg) (h : EventBody s c u) :
    MotorRanges u.cfg.overcurrent u.mrg := by
  cases h with
  | @throttle payload _ col arrival =>
    rcases dispatchThrottle_motion payload (frameInfo col) (s.accepted 1) with ⟨-, hm⟩ | ⟨-, -, -, hm⟩
    · rw [hm]
      simpa using hs
    · rw [hm]
      simpa using emergencyMotor_ranges (s := s.accepted 1) (by simpa using hs)
  | period => simpa using controlPeriod_ranges hs
  | phase => exact phaseEnd_ranges _ hs
  | bemf => simpa using bemf_ranges _ hs
  | supply => simpa using supplyMoved_ranges _ hs
  | service answers =>
    unfold State.dispatchService
    split
    · rcases takeService_cases answers (serviceData _) ((s.accepted 5).hear _ .tool none) with
        ⟨st, h⟩ | h | ⟨-, -, -, h⟩ | ⟨-, h⟩ | h <;> rw [h]
      · simpa using hs
      · simpa using hs
      · simpa using hs
      · exact clearFaults_ranges (by simpa using hs)
      · exact motorRanges_start _
    · simpa using hs
  | page =>
    rcases pageDone_cases _ _ _ _ s with ⟨-, -, h⟩ | ⟨-, h⟩ <;> rw [h]
    · simpa using hs
    · rcases writeDone_cases _ _ (s.onEeprom fun m => pageStored m _ _) with ⟨-, h⟩ | ⟨-, h⟩ <;> rw [h]
      · simpa using hs
      · exact motorRanges_start _
  | bridging => simpa [State.bridgingDone] using hs
  | normalHold => simpa [State.normalHoldDone] using hs
  | _ => simpa using hs

/-! ### CHG's accumulator and count (R124, R126) -/

theorem chuffEvent_chg (s : State) : s.chuffEvent.chg = { s.chg with count := (s.chg.count + 1) % 65536 } := by
  simp [State.chuffEvent]

theorem chuffRanges_of_phase {c : Chg} {phase : Nat} (hp : phase < 65536) (h : ChuffRanges c) : ChuffRanges { c with phase := phase } :=
  ⟨hp, h.2⟩

theorem chuffEvent_ranges {s : State} (h : ChuffRanges s.chg) : ChuffRanges s.chuffEvent.chg := by
  rw [chuffEvent_chg]
  exact ⟨h.1, Nat.mod_lt _ (by decide)⟩

theorem syntheticChuff_ranges {s : State} (h : ChuffRanges s.chg) : ChuffRanges s.syntheticChuff.chg := by
  unfold State.syntheticChuff
  split
  · split
    next hsum => exact chuffRanges_of_phase hsum h
    next => exact chuffEvent_ranges (chuffRanges_of_phase (Nat.mod_lt _ (by decide)) h)
  · exact h

theorem camEdge_ranges {s : State} (h : ChuffRanges s.chg) : ChuffRanges s.camEdge.chg := by
  have htake : ChuffRanges s.camTake.chg := by
    simp only [State.camTake]
    split
    · exact chuffEvent_ranges h
    · exact h
  unfold State.camEdge
  split
  · exact htake
  · exact h

theorem chuffRanges_start (sensor : Bool) : ChuffRanges { cam := sensor, sensor := sensor } := by simp [ChuffRanges]

theorem EventBody.chuffRanges {c : Instr} {s u : State} (hs : ChuffRanges s.chg) (h : EventBody s c u) : ChuffRanges u.chg := by
  cases h with
  | bemf =>
    simp only [State.bemf, squealTest_frame]
    exact syntheticChuff_ranges (by simpa using hs)
  | supply =>
    unfold State.supplyMoved
    split
    · exact hs
    · simpa [State.enterNormal] using hs
    · simpa [State.enterBridging] using hs
    · simpa [State.enterDepleted] using hs
  | service answers =>
    unfold State.dispatchService
    split
    · rcases takeService_cases answers (serviceData _) ((s.accepted 5).hear _ .tool none) with
        ⟨st, h⟩ | h | ⟨-, -, -, h⟩ | ⟨-, h⟩ | h <;> rw [h]
      · simpa using hs
      · simpa using hs
      · simpa using hs
      · simpa using hs
      · exact chuffRanges_start _
    · simpa using hs
  | page =>
    rcases pageDone_cases _ _ _ _ s with ⟨-, -, h⟩ | ⟨-, h⟩ <;> rw [h]
    · simpa using hs
    · rcases writeDone_cases _ _ (s.onEeprom fun m => pageStored m _ _) with ⟨-, h⟩ | ⟨-, h⟩ <;> rw [h]
      · simpa using hs
      · exact chuffRanges_start _
  | _ => simpa using hs

/-! ### Every command keeps the ranges -/

/-- `ref` rises no further than the clamped V_max allows (R88, R92). -/
theorem Effect.ref_le {c : Instr} {s t : State} (hi : ImageLaw s) (hs : s.spr.ref ≤ 16368) (h : Effect s c t) : t.spr.ref ≤ 16368 := by
  have hnext : s.nextRef ≤ 16368 := by
    have h1 := nextRef_le s
    have h2 := effectiveLimit_le s
    have h3 := vMax_le hi
    omega
  rcases h.motion with ⟨href | href, -⟩ | ⟨-, -, href | href⟩ | ⟨-, href, -⟩ <;> omega

theorem close_chg (s0 u : State) : (u.close s0).chg = u.chg := by
  unfold State.close
  split <;> simp

theorem Effect.motorRanges {c : Instr} {s t : State} (hs : MotorRanges s.cfg.overcurrent s.mrg) (h : Effect s c t) :
    MotorRanges t.cfg.overcurrent t.mrg := by
  cases h with
  | nothing => exact hs
  | header | discarded | sensor => simpa using hs
  | @closed _ u running body =>
    have hclosed : (u.close s).mrg = u.mrg ∧ (u.close s).cfg = u.cfg := by unfold State.close; split <;> simp
    rw [hclosed.1, hclosed.2]
    exact body.motorRanges hs
  | direct running effect =>
    cases effect with
    | tripDecay =>
      obtain ⟨hw, hy, hint, hwin, hover, hcool, -, hstall⟩ := hs
      exact ⟨hw, hy, hint, hwin, hover, hcool, ⟨Nat.zero_le _, fun _ => Nat.zero_le _⟩, hstall⟩
    | _ => simpa using hs
  | entry =>
    unfold State.entryTest
    split
    · split
      · simpa using hs
      · simpa [State.completeStart, State.startupSound, State.startValues] using motorRanges_start _
    · simpa using hs
  | brownOut | powerOn => exact motorRanges_start _

theorem Effect.chuffRanges {c : Instr} {s t : State} (hs : ChuffRanges s.chg) (h : Effect s c t) : ChuffRanges t.chg := by
  cases h with
  | nothing => exact hs
  | header | discarded => simpa using hs
  | sensor => exact hs
  | closed running body =>
    rw [close_chg]
    exact body.chuffRanges hs
  | direct running effect =>
    cases effect with
    | edge => exact camEdge_ranges hs
    | camWindow => exact camEdge_ranges hs
    | _ => simpa using hs
  | entry =>
    unfold State.entryTest
    split
    · split
      · simpa using hs
      · simpa [State.completeStart, State.startupSound, State.startValues] using chuffRanges_start s.chg.sensor
    · simpa using hs
  | brownOut | powerOn => exact chuffRanges_start _

/-- Settles O10: the clamps are idempotent, and with them the reference, the motor and the chuff generator keep their ranges. -/
theorem everyStepKeepsTheImageAndMotorRanges : Obligations.EveryStepKeepsTheImageAndMotorRanges := by
  refine keptByEveryStep_of_effect (fun _ _ h => h) (fun _ _ h => h) fun c s t hs h => ?effect
  case effect =>
    obtain ⟨himage, hrange⟩ := hs
    obtain ⟨href, hmotor, hchuff⟩ := rangeLaw_iff.1 hrange
    exact ⟨h.imageLaw himage, rangeLaw_iff.2 ⟨h.ref_le himage href, h.motorRanges hmotor, h.chuffRanges hchuff⟩⟩

end Sys2Proof.Machine
end

section
/-! The peer table (section 3.1): a frame's entry, the eviction, the ageing step, and the table's law over every command. -/

namespace Sys2Proof.Machine

/-! ### The stations of a table -/

/-- The stations that have an entry, in the table's order. -/
def stations (es : List (Option Peer)) : List Nat := es.filterMap fun e => e.map Peer.station

@[simp] theorem stations_nil : stations [] = [] := rfl
@[simp] theorem stations_none (es : List (Option Peer)) : stations (none :: es) = stations es := rfl
@[simp] theorem stations_some (p : Peer) (es : List (Option Peer)) : stations (some p :: es) = p.station :: stations es := rfl

theorem tableLaw_iff {s : State} : TableLaw s ↔ s.ptb.entries.length = 16 ∧ (stations s.ptb.entries).Nodup := Iff.rfl

theorem mem_stations {id : Nat} {es : List (Option Peer)} : id ∈ stations es ↔ ∃ p : Peer, some p ∈ es ∧ p.station = id := by
  simp [stations]

theorem entryOf_isSome_iff_mem {id : Nat} {es : List (Option Peer)} : (entryOf id es).isSome = true ↔ id ∈ stations es := by
  induction es with
  | nil => simp [entryOf]
  | cons e es ih =>
    cases e with
    | none => simpa [entryOf] using ih
    | some p =>
      by_cases h : p.station = id
      · simp [entryOf, h]
      · simpa [entryOf, h, Ne.symm h] using ih

theorem entryOf_none_iff {id : Nat} {es : List (Option Peer)} : entryOf id es = none ↔ id ∉ stations es := by
  rw [← entryOf_isSome_iff_mem, Bool.not_eq_true, Option.isSome_eq_false_iff, Option.isNone_iff_eq_none]

theorem entryOf_spec {id i : Nat} {es : List (Option Peer)} (h : entryOf id es = some i) :
    ∃ p, es[i]? = some (some p) ∧ p.station = id := by
  induction es generalizing i with
  | nil => simp [entryOf] at h
  | cons e es ih =>
    cases e with
    | none =>
      obtain ⟨j, hj, rfl⟩ := Option.map_eq_some_iff.1 h
      simpa using ih hj
    | some p =>
      by_cases hp : p.station = id
      · simp only [entryOf, hp, if_true, Option.some.injEq] at h
        subst h
        exact ⟨p, by simp, hp⟩
      · simp only [entryOf, hp, if_false] at h
        obtain ⟨j, hj, rfl⟩ := Option.map_eq_some_iff.1 h
        simpa using ih hj

theorem firstEmpty_spec {i : Nat} {es : List (Option Peer)} (h : firstEmpty es = some i) : es[i]? = some none := by
  induction es generalizing i with
  | nil => simp [firstEmpty] at h
  | cons e es ih =>
    cases e with
    | none =>
      simp only [firstEmpty, Option.some.injEq] at h
      subst h
      simp
    | some p =>
      obtain ⟨j, hj, rfl⟩ := Option.map_eq_some_iff.1 h
      simpa using ih hj

/-- The table has no room exactly where it has no EMPTY entry. -/
theorem firstEmpty_none_iff {es : List (Option Peer)} : firstEmpty es = none ↔ none ∉ es := by
  induction es with
  | nil => simp [firstEmpty]
  | cons e es ih => cases e <;> simp [firstEmpty, ih]

/-! ### The eviction (R37) -/

/-- An entry that may be evicted with the wanted staleness. -/
def evictable (pinned : Nat → Bool) (stale : Bool) (p : Peer) : Prop := p.stale = stale ∧ pinned p.station = false

theorem oldest_none_iff {pinned : Nat → Bool} {stale : Bool} {es : List (Option Peer)} :
    oldest pinned stale es = none ↔ ∀ p, some p ∈ es → ¬evictable pinned stale p := by
  induction es with
  | nil => simp [oldest]
  | cons e es ih =>
    cases e with
    | none => simp [oldest, ih]
    | some p =>
      by_cases hp : evictable pinned stale p
      · have hsome : oldest pinned stale (some p :: es) ≠ none := by
          simp only [oldest, hp.1, hp.2, beq_self_eq_true, Bool.not_false, Bool.and_true, if_true]
          split <;> simp
          split <;> simp
        simp [hsome, hp]
      · have htest : (p.stale == stale && !pinned p.station) = false := by
          simpa [evictable, ← Bool.not_eq_true] using hp
        simp [oldest, htest, ih, hp]

/-- An entry that is to be evicted: none that may be is older, nor as old at a lower index. -/
def Oldest (pinned : Nat → Bool) (stale : Bool) (es : List (Option Peer)) (i age : Nat) : Prop :=
  (∃ p, es[i]? = some (some p) ∧ evictable pinned stale p ∧ p.age = age)
    ∧ ∀ j q, es[j]? = some (some q) → evictable pinned stale q → q.age ≤ age ∧ (q.age = age → i ≤ j)

theorem Oldest.cons {pinned : Nat → Bool} {stale : Bool} {e : Option Peer} {es : List (Option Peer)} {i age : Nat}
    (he : ∀ p, e = some p → evictable pinned stale p → p.age < age) (h : Oldest pinned stale es i age) :
    Oldest pinned stale (e :: es) (i + 1) age := by
  obtain ⟨⟨p, hp⟩, hall⟩ := h
  refine ⟨⟨p, by simpa using hp⟩, fun j q hj hq => ?_⟩
  cases j with
  | zero =>
    have := he q (by simpa using hj) hq
    omega
  | succ j =>
    have := hall j q (by simpa using hj) hq
    omega

theorem Oldest.head {pinned : Nat → Bool} {stale : Bool} {p : Peer} {es : List (Option Peer)} (hp : evictable pinned stale p)
    (h : ∀ q, some q ∈ es → evictable pinned stale q → q.age ≤ p.age) : Oldest pinned stale (some p :: es) 0 p.age := by
  refine ⟨⟨p, rfl, hp, rfl⟩, fun j q hj hq => ⟨?_, fun _ => Nat.zero_le _⟩⟩
  cases j with
  | zero =>
    obtain rfl : p = q := by simpa using hj
    exact le_rfl
  | succ j => exact h q (List.mem_of_getElem? (by simpa using hj)) hq

theorem oldest_spec {pinned : Nat → Bool} {stale : Bool} {es : List (Option Peer)} {i age : Nat}
    (h : oldest pinned stale es = some (i, age)) : Oldest pinned stale es i age := by
  induction es generalizing i age with
  | nil => simp [oldest] at h
  | cons e es ih =>
    have hrest : ∀ {i age : Nat}, ((oldest pinned stale es).map fun x => (x.1 + 1, x.2)) = some (i, age) →
        ∃ j, i = j + 1 ∧ oldest pinned stale es = some (j, age) := fun h => by
      obtain ⟨⟨j, b⟩, hj, hx⟩ := Option.map_eq_some_iff.1 h
      simp only [Prod.mk.injEq] at hx
      exact ⟨j, hx.1.symm, by rw [hj, hx.2]⟩
    cases e with
    | none =>
      obtain ⟨j, rfl, hj⟩ := hrest h
      exact (ih hj).cons (by simp)
    | some p =>
      simp only [oldest] at h
      split at h
      next htest =>
        have hp : evictable pinned stale p := by simpa [evictable] using htest
        cases ho : oldest pinned stale es with
        | none =>
          simp only [ho, Option.map_none, Option.some.injEq, Prod.mk.injEq] at h
          obtain ⟨rfl, rfl⟩ := h
          exact .head hp fun q hq hev => absurd hev (oldest_none_iff.1 ho q hq)
        | some x =>
          obtain ⟨j, b⟩ := x
          simp only [ho, Option.map_some] at h
          split at h
          next hlt =>
            simp only [Option.some.injEq, Prod.mk.injEq] at h
            obtain ⟨rfl, rfl⟩ := h
            exact (ih ho).cons fun q hq _ => by cases hq; exact hlt
          next hle =>
            simp only [Option.some.injEq, Prod.mk.injEq] at h
            obtain ⟨rfl, rfl⟩ := h
            refine .head hp fun q hq hev => ?_
            obtain ⟨k, hk⟩ := List.mem_iff_getElem?.1 hq
            have := ((ih ho).2 k q hk hev).1
            omega
      next htest =>
        obtain ⟨j, rfl, hj⟩ := hrest h
        exact (ih hj).cons fun q hq hev => by
          cases hq
          simp [evictable] at hev
          simp [hev] at htest

/-- The entry that gives way has a station, and it is not pinned (R37, R38). -/
theorem evictIndex_spec {pinned : Nat → Bool} {es : List (Option Peer)} {i : Nat} (h : evictIndex pinned es = some i) :
    ∃ p, es[i]? = some (some p) ∧ pinned p.station = false := by
  unfold evictIndex at h
  split at h
  next x hx =>
    simp only [Option.some.injEq] at h
    subst h
    obtain ⟨⟨p, hp, hev, -⟩, -⟩ := oldest_spec hx
    exact ⟨p, hp, hev.2⟩
  next =>
    obtain ⟨x, hx, rfl⟩ := Option.map_eq_some_iff.1 h
    obtain ⟨⟨p, hp, hev, -⟩, -⟩ := oldest_spec hx
    exact ⟨p, hp, hev.2⟩

/-! ### A frame's entry (R36, R37) -/

/-- The index at which a frame of a station enters the table: its entry, an EMPTY one, or the evicted one. -/
def slotFor (pinned : Nat → Bool) (id : Nat) (es : List (Option Peer)) : Option Nat :=
  ((entryOf id es).or (firstEmpty es)).or (evictIndex pinned es)

/-- The table after a frame. -/
def takenEntries (pinned : Nat → Bool) (p : Peer) (es : List (Option Peer)) : List (Option Peer) :=
  match slotFor pinned p.station es with
  | some i => es.set i (some p)
  | none => es

theorem takePeer_entries (info : FrameInfo) (role : PeerRole) (rec : Option LocoRecord) (s : State) :
    (s.takePeer info role rec).ptb.entries = takenEntries s.pinned (freshPeer info role rec) s.ptb.entries := by
  simp only [State.takePeer, takenEntries, slotFor, freshPeer]
  cases entryOf info.source s.ptb.entries with
  | some i => simp
  | none =>
    cases firstEmpty s.ptb.entries with
    | some i => simp
    | none =>
      cases evictIndex s.pinned s.ptb.entries with
      | some i =>
        simp only [Option.none_or, onPtb_ptb]
        split <;> simp
      | none => simp

theorem hear_entries (info : FrameInfo) (role : PeerRole) (rec : Option LocoRecord) (s : State) :
    (s.hear info role rec).ptb.entries = takenEntries s.pinned (freshPeer info role rec) s.ptb.entries := by
  unfold State.hear
  split <;> simp [takePeer_entries]

theorem pinned_congr {s t : State} (ha : t.aut.driver = s.aut.driver) (hc : t.csu.record = s.csu.record)
    (ht : t.tkm.record = s.tkm.record) (hi : t.cfg.image = s.cfg.image) : t.pinned = s.pinned := by
  funext id
  simp only [State.pinned, State.ownId, ha, hc, ht, hi]

@[simp] theorem accepted_pinned (kind : Nat) (s : State) : (s.accepted kind).pinned = s.pinned :=
  pinned_congr (by simp) (by simp) (by simp) (by simp)

/-- An entry set where its own station stood leaves the stations; one set elsewhere puts its station in the place of the entry's. -/
theorem stations_set_same {es : List (Option Peer)} {i : Nat} {p q : Peer} (h : es[i]? = some (some q)) (hid : q.station = p.station) :
    stations (es.set i (some p)) = stations es := by
  induction es generalizing i with
  | nil => rfl
  | cons e es ih =>
    cases i with
    | zero =>
      obtain rfl : e = some q := by simpa using h
      simp [hid]
    | succ i =>
      have := ih (i := i) (by simpa using h)
      cases e <;> simp [this]

theorem mem_stations_set {es : List (Option Peer)} {i id : Nat} {p : Peer} (h : id ∈ stations (es.set i (some p))) :
    id = p.station ∨ id ∈ stations es := by
  obtain ⟨q, hq, rfl⟩ := mem_stations.1 h
  rcases List.mem_or_eq_of_mem_set hq with hq | hq
  · exact .inr (mem_stations.2 ⟨q, hq, rfl⟩)
  · cases hq
    exact .inl rfl

theorem stations_set_nodup {es : List (Option Peer)} {i : Nat} {p : Peer} (hp : p.station ∉ stations es) (h : (stations es).Nodup) :
    (stations (es.set i (some p))).Nodup := by
  induction es generalizing i with
  | nil => exact h
  | cons e es ih =>
    have hp' : p.station ∉ stations es := fun hm => hp (by cases e <;> simp [hm])
    cases i with
    | zero =>
      simp only [List.set_cons_zero, stations_some, List.nodup_cons]
      exact ⟨hp', by cases e <;> simp_all⟩
    | succ i =>
      cases e with
      | none => exact ih hp' h
      | some q =>
        simp only [stations_some, List.nodup_cons] at h
        simp only [List.set_cons_succ, stations_some, List.nodup_cons]
        refine ⟨fun hm => ?_, ih hp' h.2⟩
        rcases mem_stations_set hm with hm | hm
        · exact hp (by simp [hm])
        · exact h.1 hm

theorem takenEntries_length (pinned : Nat → Bool) (p : Peer) (es : List (Option Peer)) :
    (takenEntries pinned p es).length = es.length := by
  unfold takenEntries
  split <;> simp

theorem takenEntries_nodup {pinned : Nat → Bool} {p : Peer} {es : List (Option Peer)} (h : (stations es).Nodup) :
    (stations (takenEntries pinned p es)).Nodup := by
  unfold takenEntries slotFor
  cases he : entryOf p.station es with
  | some i =>
    obtain ⟨q, hq, hid⟩ := entryOf_spec he
    simp only [Option.some_or]
    rwa [stations_set_same hq hid]
  | none =>
    simp only [Option.none_or]
    split
    · exact stations_set_nodup (entryOf_none_iff.1 he) h
    · exact h

/-- A pinned station keeps its entry: only an EMPTY one, its own, or an unpinned one's is taken (R37, R38). -/
theorem mem_stations_takenEntries {pinned : Nat → Bool} {p : Peer} {es : List (Option Peer)} {id : Nat} (hpin : pinned id = true)
    (h : id ∈ stations es) : id ∈ stations (takenEntries pinned p es) := by
  obtain ⟨q, hq, rfl⟩ := mem_stations.1 h
  obtain ⟨j, hj⟩ := List.mem_iff_getElem?.1 hq
  have helsewhere : ∀ i, i ≠ j → q.station ∈ stations (es.set i (some p)) := fun i hij =>
    mem_stations.2 ⟨q, List.mem_of_getElem? (by rw [List.getElem?_set_ne hij]; exact hj), rfl⟩
  unfold takenEntries slotFor
  cases he : entryOf p.station es with
  | some i =>
    obtain ⟨r, hr, hid⟩ := entryOf_spec he
    simp only [Option.some_or]
    rwa [stations_set_same hr hid]
  | none =>
    cases hf : firstEmpty es with
    | some i =>
      refine helsewhere i fun hij => ?_
      rw [← hij, firstEmpty_spec hf] at hj
      simp at hj
    | none =>
      cases hev : evictIndex pinned es with
      | some i =>
        refine helsewhere i fun hij => ?_
        obtain ⟨r, hr, hfree⟩ := evictIndex_spec hev
        rw [← hij, hr] at hj
        cases hj
        simp [hpin] at hfree
      | none => exact h

/-! ### The ageing step (R39) -/

theorem agedEntry_none (pinned : Nat → Bool) : agedEntry pinned none = none := rfl

theorem agedEntry_of_pinned {pinned : Nat → Bool} {p : Peer} (h : pinned p.station = true) :
    agedEntry pinned (some p) = some (agedPeer p) := by
  simp [agedEntry, h]

theorem agedEntry_cases (pinned : Nat → Bool) (p : Peer) :
    agedEntry pinned (some p) = none ∨ agedEntry pinned (some p) = some (agedPeer p) := ite_eq_or_eq ..

theorem stations_aged_sublist (pinned : Nat → Bool) (es : List (Option Peer)) :
    (stations (es.map (agedEntry pinned))).Sublist (stations es) := by
  induction es with
  | nil => exact .slnil
  | cons e es ih =>
    cases e with
    | none => exact ih
    | some p =>
      rcases agedEntry_cases pinned p with h | h <;> simp only [List.map_cons, h, stations_none, stations_some]
      · exact ih.cons _
      · exact ih.cons_cons _

theorem mem_stations_aged {pinned : Nat → Bool} {es : List (Option Peer)} {id : Nat} (hpin : pinned id = true) (h : id ∈ stations es) :
    id ∈ stations (es.map (agedEntry pinned)) := by
  obtain ⟨p, hp, rfl⟩ := mem_stations.1 h
  exact mem_stations.2 ⟨agedPeer p, List.mem_map.2 ⟨some p, hp, agedEntry_of_pinned hpin⟩, rfl⟩

/-! ### The table over every command -/

/-- What an event does to the table: nothing, a frame's entry, an ageing step, or a start's empty table. -/
inductive TableMove (pinned : Nat → Bool) (es : List (Option Peer)) : List (Option Peer) → Prop
  | same : TableMove pinned es es
  | taken (p : Peer) : TableMove pinned es (takenEntries pinned p es)
  | aged : TableMove pinned es (es.map (agedEntry pinned))

theorem TableMove.law {pinned : Nat → Bool} {es es' : List (Option Peer)} (h : TableMove pinned es es')
    (hs : es.length = 16 ∧ (stations es).Nodup) : es'.length = 16 ∧ (stations es').Nodup := by
  cases h with
  | same => exact hs
  | taken p => exact ⟨by rw [takenEntries_length, hs.1], takenEntries_nodup hs.2⟩
  | aged => exact ⟨by rw [List.length_map, hs.1], (stations_aged_sublist ..).nodup hs.2⟩

theorem TableMove.keeps_pinned {pinned : Nat → Bool} {es es' : List (Option Peer)} (h : TableMove pinned es es') {id : Nat}
    (hpin : pinned id = true) (hs : id ∈ stations es) : id ∈ stations es' := by
  cases h with
  | same => exact hs
  | taken p => exact mem_stations_takenEntries hpin hs
  | aged => exact mem_stations_aged hpin hs

theorem TableMove.of_same {s t : State} (h : t.ptb.entries = s.ptb.entries) : TableMove s.pinned s.ptb.entries t.ptb.entries := by
  rw [h]
  exact .same

theorem TableMove.of_heard {s t : State} {kind : Nat} {info : FrameInfo} {role : PeerRole} {rec : Option LocoRecord}
    (h : t.ptb.entries = ((s.accepted kind).hear info role rec).ptb.entries) : TableMove s.pinned s.ptb.entries t.ptb.entries := by
  rw [h, hear_entries]
  simpa using TableMove.taken (pinned := s.pinned) (es := s.ptb.entries) (freshPeer info role rec)

/-- A table of a start has no entry. -/
theorem startTable_law : ({} : Ptb).entries.length = 16 ∧ (stations ({} : Ptb).entries).Nodup := by decide

theorem EventBody.table {c : Instr} {s u : State} (h : EventBody s c u) :
    TableMove s.pinned s.ptb.entries u.ptb.entries ∨ u.power ≠ .running ∧ u.ptb = {} := by
  cases h with
  | throttle =>
    unfold State.dispatchThrottle
    split
    · exact .inl (.of_heard (by simp; rfl))
    · exact .inl (.of_same (by simp))
  | beacon => exact .inl (.of_heard (by simp [State.dispatchBeacon]; rfl))
  | loco => exact .inl (.of_heard (by simp [State.dispatchLoco]; rfl))
  | service answers =>
    unfold State.dispatchService
    split
    · rcases takeService_cases answers (serviceData _) ((s.accepted 5).hear _ .tool none) with
        ⟨st, h⟩ | h | ⟨-, -, -, h⟩ | ⟨-, h⟩ | h <;> rw [h]
      · exact .inl (.of_heard (by simp; rfl))
      · exact .inl (.of_heard (by simp; rfl))
      · exact .inl (.of_heard (by simp; rfl))
      · exact .inl (.of_heard (by simp; rfl))
      · exact .inr (by simp [State.restart, State.beginStart, State.startValues])
    · exact .inl (.of_same (by simp))
  | ageing =>
    rw [ageStep_entries]
    exact .inl .aged
  | page =>
    rcases pageDone_cases _ _ _ _ s with ⟨-, -, h⟩ | ⟨-, h⟩ <;> rw [h]
    · exact .inl (.of_same (by simp))
    · rcases writeDone_cases _ _ (s.onEeprom fun m => pageStored m _ _) with ⟨-, h⟩ | ⟨-, h⟩ <;> rw [h]
      · exact .inl (.of_same (by simp))
      · exact .inr (by simp [State.beginStart, State.startValues])
  | supply =>
    unfold State.supplyMoved
    split <;> exact .inl (.of_same (by simp [State.enterNormal, State.enterBridging, State.enterDepleted]))
  | _ => exact .inl (.of_same (by simp))

theorem Effect.table {c : Instr} {s t : State} (h : Effect s c t) :
    TableMove s.pinned s.ptb.entries t.ptb.entries ∨ (t.power ≠ .running ∨ s.power ≠ .running) ∧ t.ptb = {} := by
  cases h with
  | nothing => exact .inl .same
  | header | discarded | sensor => exact .inl (.of_same (by simp))
  | @closed _ u running body =>
    have hclosed : (u.close s).ptb = u.ptb := by unfold State.close; split <;> simp
    rw [hclosed, close_power]
    exact body.table.imp id fun ⟨hp, h⟩ => ⟨.inl hp, h⟩
  | direct running effect => cases effect <;> exact .inl (.of_same (by simp))
  | entry starting =>
    unfold State.entryTest
    split
    · split
      · exact .inl .same
      · exact .inr ⟨.inr (by simp [starting]), by simp [State.completeStart, State.startupSound, State.startValues]⟩
    · exact .inl .same
  | brownOut => exact .inr ⟨.inl (by simp [State.brownOut, State.startValues]), rfl⟩
  | powerOn => exact .inr ⟨.inl (by simp [State.beginStart, State.startValues]), rfl⟩

/-- Settles O7: a frame takes its station's entry, an EMPTY one or an unpinned one, and ageing empties unpinned ones alone. -/
theorem everyStepKeepsThePeerTableLaw : Obligations.EveryStepKeepsThePeerTableLaw := by
  refine ⟨keptByEveryStep_of_effect (fun _ _ h => h) (fun _ _ h => h) fun c s t hs h => ?law, ?pinned⟩
  case law =>
    rcases h.table with hmove | ⟨-, hstart⟩
    · exact hmove.law hs
    · rw [tableLaw_iff, hstart]
      exact startTable_law
  case pinned =>
    intro c s t id h ht hs hpin hentry
    rw [entryOf_isSome_iff_mem] at hentry ⊢
    rcases (effect_of_exec h).table with hmove | ⟨hstopped, -⟩
    · exact hmove.keeps_pinned hpin hentry
    · exact absurd hstopped (by simp [ht, hs])

end Sys2Proof.Machine
end

section
/-! The laws of authority (sections 4.1, 4.2, 4.4 to 4.6) over every command: FAILSAFE and its hold, the links and their causes, and the claims
that go with the role. -/

namespace Sys2Proof.Machine

/-! ### What the laws are read off -/

/-- The claims, the cause set, whether the hold runs, the links and the role stand as they did. -/
structure SameControl (s t : State) : Prop where
  failsafe : t.aut.failsafe.claimed = s.aut.failsafe.claimed
  signal : t.aut.signal.claimed = s.aut.signal.claimed
  consist : t.aut.consist.claimed = s.aut.consist.claimed
  driver : t.aut.driver.claimed = s.aut.driver.claimed
  parked : t.aut.parked.claimed = s.aut.parked.claimed
  causes : t.aut.causes = s.aut.causes
  hold : t.aut.hold = none ↔ s.aut.hold = none
  driverState : t.rxc.driverLink.state = s.rxc.driverLink.state
  driverSource : t.rxc.driverLink.source = s.rxc.driverLink.source
  leadState : t.rxc.leadLink.state = s.rxc.leadLink.state
  role : t.role = s.role

theorem SameControl.trans {s t u : State} (h : SameControl s t) (h' : SameControl t u) : SameControl s u where
  failsafe := h'.failsafe.trans h.failsafe
  signal := h'.signal.trans h.signal
  consist := h'.consist.trans h.consist
  driver := h'.driver.trans h.driver
  parked := h'.parked.trans h.parked
  causes := h'.causes.trans h.causes
  hold := h'.hold.trans h.hold
  driverState := h'.driverState.trans h.driverState
  driverSource := h'.driverSource.trans h.driverSource
  leadState := h'.leadState.trans h.leadState
  role := h'.role.trans h.role

/-- The role is read off the consist record and the own ID. -/
theorem role_congr {s t : State} (hc : t.csu.record = s.csu.record) (hi : t.cfg.image = s.cfg.image) : t.role = s.role := by
  simp only [State.role, State.position, State.ownId, hc, hi]

theorem SameControl.of_blocks {s t : State} (ha : t.aut = s.aut) (hx : t.rxc.driverLink = s.rxc.driverLink ∧ t.rxc.leadLink = s.rxc.leadLink)
    (hr : t.role = s.role) : SameControl s t := by
  constructor <;> simp [ha, hx, hr]

theorem FailsafeLaw.congr {s t : State} (h : SameControl s t) (hs : FailsafeLaw s.aut) : FailsafeLaw t.aut := by
  have hhold : t.aut.hold ≠ none ↔ s.aut.hold ≠ none := h.hold.not
  simpa only [FailsafeLaw, h.failsafe, h.causes, hhold] using hs

theorem LinkLaw.congr {s t : State} (h : SameControl s t) (hs : LinkLaw s) : LinkLaw t := by
  simpa only [LinkLaw, h.causes, h.driver, h.driverState, h.driverSource, h.leadState] using hs

theorem ClaimLaw.congr {s t : State} (h : SameControl s t) (hs : ClaimLaw s) : ClaimLaw t := by
  simpa only [ClaimLaw, h.parked, h.consist, h.signal, h.role] using hs

theorem AuthorityLaw.congr {s t : State} (hs : AuthorityLaw s) (h : SameControl s t) : AuthorityLaw t :=
  ⟨hs.1.congr h, hs.2.1.congr h, hs.2.2.congr h⟩

/-! ### Causes (R67, R68) -/

theorem causePut_of_causeIn {c : Cause} {v : Bool} {k : CauseSet} (h : causeIn c k = v) : causePut c v k = k := by
  subst h
  cases c <;> rfl

theorem addCause_causes (c : Cause) (s : State) : (s.addCause c).aut.causes = causePut c true s.aut.causes := by
  rcases addCause_cases c s with ⟨hin, h⟩ | ⟨-, h⟩ <;> rw [h]
  · exact (causePut_of_causeIn hin).symm
  · simp only [onAut_aut]
    split <;> simp

theorem removeCause_causes (c : Cause) (s : State) : (s.removeCause c).aut.causes = causePut c false s.aut.causes := by
  unfold State.removeCause
  split
  · rfl
  next h => exact (causePut_of_causeIn (by simpa using h)).symm

theorem causesEmpty_causePut_true (c : Cause) (k : CauseSet) : causesEmpty (causePut c true k) = false := by
  rw [← Bool.not_eq_true, causesEmpty_iff]
  intro h
  have := h c
  simp [causeIn_causePut] at this

theorem addCause_hold (c : Cause) (s : State) :
    (s.addCause c).aut.hold = if causeIn c s.aut.causes then s.aut.hold else none := by
  rcases addCause_cases c s with ⟨hin, h⟩ | ⟨hin, h⟩ <;> rw [h] <;> simp [hin]

theorem addCause_failsafe (c : Cause) (s : State) :
    (s.addCause c).aut.failsafe.claimed = (s.aut.failsafe.claimed || !causeIn c s.aut.causes) := by
  rcases addCause_cases c s with ⟨hin, h⟩ | ⟨hin, h⟩ <;> rw [h]
  · simp [hin]
  · simp only [onAut_aut, hin]
    split
    next hf => simp [hf]
    next => simp [State.claim, autSetCtx]

theorem causesEmpty_false_of_causeIn {c : Cause} {k : CauseSet} (h : causeIn c k = true) : causesEmpty k = false := by
  rw [← Bool.not_eq_true, causesEmpty_iff]
  intro hall
  simp [hall c] at h

/-- A cause in the set claims FAILSAFE and stops the hold (R67). -/
theorem addCause_failsafeLaw (c : Cause) {s : State} (hs : FailsafeLaw s.aut) : FailsafeLaw (s.addCause c).aut := by
  obtain ⟨hclaimed, hholds⟩ := hs
  refine ⟨?_, ?_⟩
  · rw [addCause_causes, causesEmpty_causePut_true, addCause_failsafe]
    cases hin : causeIn c s.aut.causes with
    | true => simp [hclaimed.2 (.inl (causesEmpty_false_of_causeIn hin))]
    | false => simp
  · rw [addCause_hold]
    split
    next hin => exact fun hh => absurd (hholds hh) (by simp [causesEmpty_false_of_causeIn hin])
    next => simp

/-- The last cause to leave starts the hold (R68). -/
theorem removeCause_failsafeLaw (c : Cause) {s : State} (hs : FailsafeLaw s.aut) : FailsafeLaw (s.removeCause c).aut := by
  unfold State.removeCause
  split
  next hin =>
    obtain ⟨hclaimed, hholds⟩ := hs
    have hstands := causesEmpty_false_of_causeIn hin
    have hnone : s.aut.hold = none := by
      by_contra hh
      simp [hstands] at hholds
      exact hh hholds
    have hf := hclaimed.2 (.inl hstands)
    simp only [onAut_aut, FailsafeLaw, hf, hnone, true_iff]
    cases causesEmpty (causePut c false s.aut.causes) <;> simp
  next => exact hs

/-- A cause that is no link's. -/
def otherCause (c : Cause) : Prop := c ≠ .linkLost ∧ c ≠ .leadLost

theorem causePut_links {c : Cause} (h : otherCause c) (v : Bool) (k : CauseSet) :
    (causePut c v k).linkLost = k.linkLost ∧ (causePut c v k).leadLost = k.leadLost := by
  cases c <;> simp_all [otherCause, causePut]

theorem addCause_authority {c : Cause} (hc : otherCause c) {s : State} (hs : AuthorityLaw s) : AuthorityLaw (s.addCause c) := by
  obtain ⟨hf, hl, hcl⟩ := hs
  have hlinks := causePut_links hc true s.aut.causes
  refine ⟨addCause_failsafeLaw c hf, ?_, ?_⟩
  · simpa only [LinkLaw, addCause_causes, hlinks, addCause_fields, addCause_frame] using hl
  · simpa only [ClaimLaw, addCause_fields, role_congr (s := s) (t := s.addCause c) (by simp) (by simp)] using hcl

theorem removeCause_authority {c : Cause} (hc : otherCause c) {s : State} (hs : AuthorityLaw s) : AuthorityLaw (s.removeCause c) := by
  obtain ⟨hf, hl, hcl⟩ := hs
  have hlinks := causePut_links hc false s.aut.causes
  refine ⟨removeCause_failsafeLaw c hf, ?_, ?_⟩
  · simpa only [LinkLaw, removeCause_causes, hlinks, removeCause_fields, removeCause_frame] using hl
  · simpa only [ClaimLaw, removeCause_fields, role_congr (s := s) (t := s.removeCause c) (by simp) (by simp)] using hcl

/-! ### Links (R15 to R20) -/

@[simp] theorem setLink_driver (src : Option Nat) (st : LinkState) (s : State) :
    (s.setLink .driver src st).rxc.driverLink = { source := src, state := st, age := 0 } ∧
    (s.setLink .driver src st).rxc.leadLink = s.rxc.leadLink := ⟨rfl, rfl⟩

@[simp] theorem setLink_lead (src : Option Nat) (st : LinkState) (s : State) :
    (s.setLink .lead src st).rxc.leadLink = { source := src, state := st, age := 0 } ∧
    (s.setLink .lead src st).rxc.driverLink = s.rxc.driverLink := ⟨rfl, rfl⟩

/-- The LINK_LOST and LEAD_LOST flags of the cause set after a cause has come or gone. -/
@[simp] theorem causePut_linkLost (v : Bool) (k : CauseSet) :
    (causePut .linkLost v k).linkLost = v ∧ (causePut .linkLost v k).leadLost = k.leadLost := ⟨rfl, rfl⟩

@[simp] theorem causePut_leadLost (v : Bool) (k : CauseSet) :
    (causePut .leadLost v k).leadLost = v ∧ (causePut .leadLost v k).linkLost = k.linkLost := ⟨rfl, rfl⟩

theorem setLink_claimLaw {l : Link} {src : Option Nat} {st : LinkState} {s : State} (h : ClaimLaw s) : ClaimLaw (s.setLink l src st) := by
  simpa only [ClaimLaw, setLink_frame, role_congr (s := s) (t := s.setLink l src st) (by simp) (by simp)] using h

theorem removeCause_claimLaw {c : Cause} {s : State} (h : ClaimLaw s) : ClaimLaw (s.removeCause c) := by
  simpa only [ClaimLaw, removeCause_fields, role_congr (s := s) (t := s.removeCause c) (by simp) (by simp)] using h

theorem addCause_claimLaw {c : Cause} {s : State} (h : ClaimLaw s) : ClaimLaw (s.addCause c) := by
  simpa only [ClaimLaw, addCause_fields, role_congr (s := s) (t := s.addCause c) (by simp) (by simp)] using h

theorem setLink_failsafeLaw {l : Link} {src : Option Nat} {st : LinkState} {s : State} (h : FailsafeLaw s.aut) :
    FailsafeLaw (s.setLink l src st).aut := by simpa using h

/-- A valid frame moves a link toward UP, and takes its cause with it there (R17, R18). -/
theorem validFrame_authority (l : Link) {s : State} (hs : AuthorityLaw s) : AuthorityLaw (s.validFrame l) := by
  obtain ⟨hf, ⟨hlost, hfree, hlead, hleads⟩, hc⟩ := hs
  cases l with
  | driver =>
    unfold State.validFrame
    simp only [linkRecord]
    split
    next hst => exact ⟨setLink_failsafeLaw hf, ⟨by simpa [hst] using hlost, by simpa [hst] using hfree, by simpa using hlead, by simpa using hleads⟩, setLink_claimLaw hc⟩
    next hst => exact ⟨setLink_failsafeLaw hf, ⟨by simpa [hst] using hlost, by simpa [hst] using hfree, by simpa using hlead, by simpa using hleads⟩, setLink_claimLaw hc⟩
    next hst =>
      refine ⟨removeCause_failsafeLaw _ (setLink_failsafeLaw hf), ⟨?_, ?_, ?_, ?_⟩, removeCause_claimLaw (setLink_claimLaw hc)⟩
      · simp [removeCause_causes, linkCause]
      · exact fun hd => absurd (hfree (by simpa using hd)).1 (by simp [hst])
      · simpa [removeCause_causes, linkCause] using hlead
      · simpa [removeCause_causes, linkCause] using hleads
  | lead =>
    unfold State.validFrame
    simp only [linkRecord]
    split
    next hst => exact ⟨setLink_failsafeLaw hf, ⟨by simpa using hlost, by simpa using hfree, by simp, by simpa [hst] using hleads⟩, setLink_claimLaw hc⟩
    next hst => exact ⟨setLink_failsafeLaw hf, ⟨by simpa using hlost, by simpa using hfree, by simp, by simp⟩, setLink_claimLaw hc⟩
    next hst =>
      refine ⟨removeCause_failsafeLaw _ (setLink_failsafeLaw hf), ⟨?_, ?_, ?_, ?_⟩, removeCause_claimLaw (setLink_claimLaw hc)⟩
      · simpa [removeCause_causes, linkCause] using hlost
      · simpa using hfree
      · simp
      · simp [removeCause_causes, linkCause]

/-- A window expires at a link that has a source, and so at a claimed DRIVER (R17, R18). -/
theorem linkLost_authority (l : Link) {s : State} (hsource : (linkRecord l s.rxc).source.isSome = true) (hs : AuthorityLaw s) :
    AuthorityLaw (s.linkLost l) := by
  obtain ⟨hf, ⟨hlost, hfree, hlead, hleads⟩, hc⟩ := hs
  have hf' : FailsafeLaw (s.onRxc (setLinkRecord l { linkRecord l s.rxc with state := .lost, age := s.linkWindow l })).aut := hf
  have hc' : ClaimLaw (s.onRxc (setLinkRecord l { linkRecord l s.rxc with state := .lost, age := s.linkWindow l })) := hc
  refine ⟨addCause_failsafeLaw _ hf', ?_, addCause_claimLaw hc'⟩
  unfold State.linkLost
  cases l with
  | driver =>
    refine ⟨?_, fun hd => ?_, ?_, ?_⟩
    · simp [addCause_causes, linkCause, setLinkRecord]
    · have hclaimed : s.aut.driver.claimed = false := by simpa using hd
      simp [linkRecord, (hfree hclaimed).2] at hsource
    · simpa [addCause_causes, linkCause, setLinkRecord] using hlead
    · simpa [addCause_causes, linkCause, setLinkRecord] using hleads
  | lead =>
    refine ⟨?_, ?_, ?_, ?_⟩
    · simpa [addCause_causes, linkCause, setLinkRecord] using hlost
    · simpa [setLinkRecord] using hfree
    · simp [addCause_causes, linkCause, setLinkRecord]
    · simp [setLinkRecord]

/-! ### Claims and releases (R49, R52, R55) -/

@[simp] theorem claim_driver_claims (src : Option Nat) (s : State) :
    (s.claim .driver src).aut.failsafe = s.aut.failsafe ∧ (s.claim .driver src).aut.signal = s.aut.signal ∧
    (s.claim .driver src).aut.consist = s.aut.consist ∧ (s.claim .driver src).aut.parked = s.aut.parked ∧
    (s.claim .driver src).aut.driver = { claimed := true, source := src, started := false, saved := s.aut.driver.saved } := by
  simp [State.claim, autSetCtx, autCtx]

@[simp] theorem claim_consist_claims (src : Option Nat) (s : State) :
    (s.claim .consist src).aut.failsafe = s.aut.failsafe ∧ (s.claim .consist src).aut.signal = s.aut.signal ∧
    (s.claim .consist src).aut.driver = s.aut.driver ∧ (s.claim .consist src).aut.parked = s.aut.parked ∧
    (s.claim .consist src).aut.consist = { claimed := true, source := src, started := false, saved := s.aut.consist.saved } := by
  simp [State.claim, autSetCtx, autCtx]

@[simp] theorem claim_signal_claims (src : Option Nat) (s : State) :
    (s.claim .signal src).aut.failsafe = s.aut.failsafe ∧ (s.claim .signal src).aut.consist = s.aut.consist ∧
    (s.claim .signal src).aut.driver = s.aut.driver ∧ (s.claim .signal src).aut.parked = s.aut.parked ∧
    (s.claim .signal src).aut.signal = { claimed := true, source := src, started := false, saved := s.aut.signal.saved } := by
  simp [State.claim, autSetCtx, autCtx]

@[simp] theorem release_signal_claims (s : State) :
    (s.release .signal).aut.failsafe = s.aut.failsafe ∧ (s.release .signal).aut.consist = s.aut.consist ∧
    (s.release .signal).aut.driver = s.aut.driver ∧ (s.release .signal).aut.signal.claimed = false ∧
    (s.release .signal).aut.causes = s.aut.causes ∧ (s.release .signal).aut.hold = s.aut.hold := by
  unfold State.release
  split
  next h => simpa [autCtx] using h
  next => simp [clearLive, autSetCtx]

@[simp] theorem release_consist_claims (s : State) :
    (s.release .consist).aut.failsafe = s.aut.failsafe ∧ (s.release .consist).aut.signal = s.aut.signal ∧
    (s.release .consist).aut.driver = s.aut.driver ∧ (s.release .consist).aut.consist.claimed = false ∧
    (s.release .consist).aut.causes = s.aut.causes ∧ (s.release .consist).aut.hold = s.aut.hold := by
  unfold State.release
  split
  next h => simpa [autCtx] using h
  next => simp [clearLive, autSetCtx]

@[simp] theorem release_driver_claims (s : State) :
    (s.release .driver).aut.failsafe = s.aut.failsafe ∧ (s.release .driver).aut.signal = s.aut.signal ∧
    (s.release .driver).aut.consist = s.aut.consist ∧ (s.release .driver).aut.driver.claimed = false ∧
    (s.release .driver).aut.causes = s.aut.causes ∧ (s.release .driver).aut.hold = s.aut.hold := by
  unfold State.release
  split
  next h => simpa [autCtx] using h
  next => simp [clearLive, autSetCtx]

theorem failsafeLaw_congr {a b : Aut} (hf : b.failsafe.claimed = a.failsafe.claimed) (hc : b.causes = a.causes)
    (hh : b.hold = a.hold) (h : FailsafeLaw a) : FailsafeLaw b := by
  simpa only [FailsafeLaw, hf, hc, hh] using h

/-- SIGNAL may be released at any time. -/
theorem release_signal_authority {s : State} (hs : AuthorityLaw s) : AuthorityLaw (s.release .signal) := by
  obtain ⟨hf, hl, hparked, hconsist, -⟩ := hs
  have hrole := role_congr (s := s) (t := s.release .signal) (by simp) (by simp)
  refine ⟨failsafeLaw_congr (by simp) (by simp) (by simp) hf, by simpa [LinkLaw] using hl, by simpa using hparked, ?_, by simp⟩
  simpa [hrole] using hconsist

/-- SIGNAL is claimed by a locomotive that follows nobody (R48, R66). -/
theorem claim_signal_authority {src : Option Nat} {s : State} (hrole : s.role ≠ .follower) (hs : AuthorityLaw s) :
    AuthorityLaw (s.claim .signal src) := by
  obtain ⟨hf, hl, hparked, hconsist, -⟩ := hs
  have hrole' := role_congr (s := s) (t := s.claim .signal src) (by simp) (by simp)
  refine ⟨failsafeLaw_congr (by simp) (by simp) (by simp) hf, by simpa [LinkLaw] using hl, by simpa using hparked, ?_, ?_⟩
  · simpa [hrole'] using hconsist
  · simpa [hrole'] using hrole

/-! ### Consists (R77 to R83) -/

theorem memberTest_authority {s : State} (hs : AuthorityLaw s) : AuthorityLaw s.memberTest := by
  have hmember : otherCause .member := by simp [otherCause]
  unfold State.memberTest
  split
  · split
    · exact addCause_authority hmember hs
    · split
      · exact removeCause_authority hmember hs
      · exact hs
  · exact hs

/-- An update of CSU that leaves the record leaves the laws. -/
theorem onCsu_sameControl {f : Csu → Csu} (hf : ∀ c, (f c).record = c.record) (s : State) : SameControl s (s.onCsu f) :=
  .of_blocks rfl ⟨rfl, rfl⟩ (role_congr (by simp [hf]) rfl)

theorem watchMembers_authority (always : Bool) {s : State} (hs : AuthorityLaw s) : AuthorityLaw (s.watchMembers always) := by
  simp only [State.watchMembers]
  split
  · exact memberTest_authority (hs.congr (onCsu_sameControl (by simp) s))
  · exact hs.congr (onCsu_sameControl (by simp) s)

/-- AUT's data may change where no claim, cause or hold does. -/
theorem onAut_sameControl {f : Aut → Aut} {s : State}
    (h : (f s.aut).failsafe.claimed = s.aut.failsafe.claimed ∧ (f s.aut).signal.claimed = s.aut.signal.claimed ∧
      (f s.aut).consist.claimed = s.aut.consist.claimed ∧ (f s.aut).driver.claimed = s.aut.driver.claimed ∧
      (f s.aut).parked.claimed = s.aut.parked.claimed ∧ (f s.aut).causes = s.aut.causes ∧ (f s.aut).hold = s.aut.hold) :
    SameControl s (s.onAut f) := by
  obtain ⟨hf, hs, hc, hd, hp, hk, hh⟩ := h
  exact ⟨hf, hs, hc, hd, hp, hk, by simp [hh], rfl, rfl, rfl, role_congr rfl rfl⟩

theorem putFollow_sameControl (h0 : Level) (speed : Nat) (dir : Direction) (s : State) : SameControl s (s.putFollow h0 speed dir) :=
  onAut_sameControl (by split <;> simp)

theorem followReport_authority (h0 : Level) (d : LocoData) {s : State} (hs : AuthorityLaw s) : AuthorityLaw (s.followReport h0 d) :=
  hs.congr ((onCsu_sameControl (by simp) s).trans (putFollow_sameControl ..))

/-- The laws while a new record is applied: the claims still are those of the old role. -/
def AppliedLaw (old : ConsistRole) (s : State) : Prop :=
  FailsafeLaw s.aut ∧ LinkLaw s ∧ s.aut.parked.claimed = true ∧ (s.aut.consist.claimed = true ↔ old = .follower)
    ∧ (s.aut.signal.claimed = true → old ≠ .follower)

theorem AppliedLaw.authority {s : State} {old : ConsistRole} (h : AppliedLaw old s) (hr : old = .follower ↔ s.role = .follower) :
    AuthorityLaw s := by
  obtain ⟨hf, hl, hp, hc, hg⟩ := h
  exact ⟨hf, hl, hp, hc.trans hr, fun hs => fun hrole => hg hs (hr.2 hrole)⟩

theorem leaveFollower_authority {s : State} (hr : s.role ≠ .follower) (h : AppliedLaw .follower s) : AuthorityLaw s.leaveFollower := by
  obtain ⟨hf, ⟨hlost, hfree, -, -⟩, hp, -, hg⟩ := h
  have hrole := role_congr (s := s) (t := s.leaveFollower) (by simp [State.leaveFollower]) (by simp)
  have hsignal : s.aut.signal.claimed ≠ true := fun h => hg h rfl
  refine ⟨?_, ⟨?_, ?_, ?_, ?_⟩, ?_, ?_, ?_⟩
  · exact removeCause_failsafeLaw _ (removeCause_failsafeLaw _
      (setLink_failsafeLaw (failsafeLaw_congr (by simp) (by simp) (by simp) hf)))
  · simpa [State.leaveFollower, removeCause_causes, causePut] using hlost
  · simpa [State.leaveFollower] using hfree
  · simp [State.leaveFollower]
  · simp [State.leaveFollower, removeCause_causes, causePut]
  · simpa [State.leaveFollower] using hp
  · rw [hrole]
    simp [State.leaveFollower, hr]
  · simp [State.leaveFollower, hsignal]

theorem leaveLead_role (s : State) : s.leaveLead.role = s.role := role_congr (by simp [State.leaveLead]) (by simp)

theorem leaveLead_applied {old new : ConsistRole} {s : State} (hn : old = .follower ↔ new = .follower) (h : AppliedLaw old s) :
    AppliedLaw new s.leaveLead := by
  obtain ⟨hf, ⟨hlost, hfree, hlead, hleads⟩, hp, hc, hg⟩ := h
  refine ⟨removeCause_failsafeLaw _ hf, ⟨?_, ?_, ?_, ?_⟩, ?_, ?_, ?_⟩
  · simpa [State.leaveLead, removeCause_causes, causePut] using hlost
  · simpa [State.leaveLead] using hfree
  · simpa [State.leaveLead, removeCause_causes, causePut] using hlead
  · simpa [State.leaveLead, removeCause_causes, causePut] using hleads
  · simpa [State.leaveLead] using hp
  · simpa [State.leaveLead, ← hn] using hc
  · simpa [State.leaveLead, ← hn] using hg

theorem joinFollower_authority {old : ConsistRole} {s : State} (hr : s.role = .follower) (h : AppliedLaw old s) :
    AuthorityLaw s.joinFollower := by
  obtain ⟨hf, ⟨hlost, hfree, -, -⟩, hp, -, -⟩ := h
  have hrole := role_congr (s := s) (t := s.joinFollower) (by simp [State.joinFollower]) (by simp)
  refine ⟨?_, ⟨?_, ?_, ?_, ?_⟩, ?_, ?_, ?_⟩
  · exact failsafeLaw_congr (by simp [State.joinFollower]) (by simp [State.joinFollower]) (by simp [State.joinFollower]) hf
  · simpa [State.joinFollower] using hlost
  · simpa [State.joinFollower] using hfree
  · simp [State.joinFollower]
  · simp [State.joinFollower]
  · simpa [State.joinFollower] using hp
  · rw [hrole]
    simp [State.joinFollower, hr]
  · simp [State.joinFollower]

theorem stayFollower_authority (h0 : Level) (before : Option Membership) {s : State} (hs : AuthorityLaw s) :
    AuthorityLaw (s.stayFollower h0 before) := by
  unfold State.stayFollower
  split
  · split
    · exact hs
    · split
      · exact hs.congr (putFollow_sameControl ..)
      · exact hs
  · obtain ⟨hf, ⟨hlost, hfree, -, -⟩, hp, hc, hg⟩ := hs
    refine ⟨hf, ⟨by simpa using hlost, by simpa using hfree, by simp, by simp⟩, hp, hc, hg⟩

/-- The effects of a change of role leave the claims of the new role (R77 to R80). -/
theorem roleEffects_authority (h0 : Level) (before : Option Membership) {old new : ConsistRole} {s : State} (hr : s.role = new)
    (h : AppliedLaw old s) : AuthorityLaw (s.roleEffects h0 before old new) := by
  unfold State.roleEffects
  split
  · exact joinFollower_authority hr h
  · exact watchMembers_authority _ (h.authority (by simp [hr]))
  · exact leaveFollower_authority (by simp [hr]) h
  · exact AppliedLaw.authority (leaveLead_applied (new := .none) (by simp) h) (by simp [hr, leaveLead_role])
  · exact watchMembers_authority _ (leaveFollower_authority (by simp [hr]) h)
  · exact joinFollower_authority (old := .lead) (by simp [hr, leaveLead_role]) (leaveLead_applied Iff.rfl h)
  · exact stayFollower_authority _ _ (h.authority (by simp [hr]))
  · exact watchMembers_authority _ (h.authority (by simp [hr]))
  · exact h.authority (by simp [hr])

theorem occupancyTest_sameControl (s : State) : SameControl s s.occupancyTest :=
  .of_blocks (by simp) (by simp) (role_congr (by simp) (by simp))

theorem applyMembership_authority (h0 : Level) (m : Option Membership) {s : State} (hs : AuthorityLaw s) :
    AuthorityLaw (s.applyMembership h0 m) := by
  obtain ⟨hf, hl, hp, hc, hg⟩ := hs
  have happlied : AuthorityLaw ((s.onCsu fun c => { c with record := m }).roleEffects h0 s.csu.record s.role
      (s.onCsu fun c => { c with record := m }).role) := roleEffects_authority h0 _ rfl ⟨hf, hl, hp, hc, hg⟩
  simp only [State.applyMembership]
  split
  · exact happlied
  · exact happlied.congr (occupancyTest_sameControl _)

theorem takeMembership_authority (h0 : Level) (m : Option Membership) {s : State} (hs : AuthorityLaw s) :
    AuthorityLaw (s.takeMembership h0 m) := by
  unfold State.takeMembership
  split
  · exact hs.congr (onCsu_sameControl (by simp) s)
  · split
    · exact applyMembership_authority _ _ (hs.congr (onCsu_sameControl (by simp) s))
    · exact hs.congr (onCsu_sameControl (by simp) s)

theorem applySlot_authority (h0 : Level) {s : State} (hs : AuthorityLaw s) : AuthorityLaw (s.applySlot h0) := by
  unfold State.applySlot
  split
  · exact hs
  · exact applyMembership_authority _ _ (hs.congr (onCsu_sameControl (by simp) s))

theorem takeConsist_authority (h0 : Level) (d : ConsistData) {s : State} (hs : AuthorityLaw s) : AuthorityLaw (s.takeConsist h0 d) := by
  unfold State.takeConsist
  split
  · exact takeMembership_authority _ _ hs
  · exact hs

end Sys2Proof.Machine
end

section
/-! The laws of authority over every event and its end (sections 4.1 to 4.6). -/

namespace Sys2Proof.Machine

/-! ### Stops and periods -/

theorem judgeStopped_authority (h0 : Level) {s : State} (hs : AuthorityLaw s) : AuthorityLaw (s.judgeStopped h0) := by
  simp only [State.judgeStopped]
  split
  · exact applySlot_authority _ (hs.congr (.of_blocks (by simp) (by simp) (role_congr (by simp) (by simp))))
  · split
    · exact hs.congr (.of_blocks (by simp) (by simp) (role_congr (by simp) (by simp)))
    · exact hs.congr (.of_blocks (by simp) (by simp) (role_congr (by simp) (by simp)))

theorem judgeAfterStop_authority (h0 : Level) (ref : Nat) {s : State} (hs : AuthorityLaw s) : AuthorityLaw (s.judgeAfterStop h0 ref) := by
  unfold State.judgeAfterStop
  split
  · exact hs
  · exact judgeStopped_authority _ hs

theorem emergencyStop_authority (h0 : Level) {s : State} (hs : AuthorityLaw s) : AuthorityLaw (s.emergencyStop h0) :=
  judgeStopped_authority _ (hs.congr (.of_blocks (by simp) (by simp) (role_congr (by simp) (by simp))))

theorem depletedStop_authority (h0 : Level) {s : State} (hs : AuthorityLaw s) : AuthorityLaw (s.depletedStop h0) :=
  judgeAfterStop_authority _ _ (hs.congr (.of_blocks (by simp) (by simp) (role_congr (by simp) (by simp))))

theorem controlPeriod_authority {s : State} (hs : AuthorityLaw s) : AuthorityLaw s.controlPeriod := by
  have hstall : otherCause .stall := by simp [otherCause]
  have hcompute : AuthorityLaw s.periodCompute := hs.congr (.of_blocks (by simp) (by simp) (role_congr (by simp) (by simp)))
  simp only [State.controlPeriod]
  split
  · refine judgeAfterStop_authority _ _ ((addCause_authority hstall hcompute).congr ?_)
    exact .of_blocks (by simp) (by simp) (role_congr (by simp) (by simp))
  · exact hcompute

theorem trip_authority {s : State} (hs : AuthorityLaw s) : AuthorityLaw s.trip := by
  have hfault : otherCause .motorFault := by simp [otherCause]
  simp only [State.trip]
  split
  · exact addCause_authority hfault (hs.congr (.of_blocks (by simp) (by simp) (role_congr (by simp) (by simp))))
  · exact hs.congr (.of_blocks (by simp) (by simp) (role_congr (by simp) (by simp)))

theorem phaseEnd_authority (current : Nat) {s : State} (hs : AuthorityLaw s) : AuthorityLaw (s.phaseEnd current) := by
  have htaken : AuthorityLaw (s.currentTaken current) := hs.congr (.of_blocks (by simp) (by simp) (role_congr (by simp) (by simp)))
  unfold State.phaseEnd
  split
  · exact (trip_authority htaken).congr (.of_blocks (by simp) (by simp) (role_congr (by simp) (by simp)))
  · exact htaken.congr (.of_blocks (by simp) (by simp) (role_congr (by simp) (by simp)))

theorem bemf_authority (raw : Nat) {s : State} (hs : AuthorityLaw s) : AuthorityLaw (s.bemf raw) := by
  have hjudged : AuthorityLaw ((s.measure raw).judgeStopped s.head) :=
    judgeStopped_authority _ (hs.congr (.of_blocks (by simp) (by simp) (role_congr (by simp) (by simp))))
  exact hjudged.congr (.of_blocks (by simp [State.bemf]) (by simp [State.bemf]) (role_congr (by simp [State.bemf]) (by simp [State.bemf])))

theorem supplyMoved_authority (h0 : Level) (m : SupplyMove) {s : State} (hs : AuthorityLaw s) : AuthorityLaw (s.supplyMoved h0 m) := by
  have hsupply : otherCause .supply := by simp [otherCause]
  unfold State.supplyMoved
  split
  · exact hs.congr (.of_blocks rfl ⟨rfl, rfl⟩ (role_congr rfl rfl))
  · exact hs.congr (.of_blocks (by simp) (by simp) (role_congr (by simp) (by simp)))
  · exact hs.congr (.of_blocks (by simp) (by simp) (role_congr (by simp) (by simp)))
  · have hraised : ∀ f, AuthorityLaw ((s.onSup f).addCause .supply) := fun f =>
      addCause_authority hsupply (hs.congr (.of_blocks rfl ⟨rfl, rfl⟩ (role_congr rfl rfl)))
    refine depletedStop_authority _ (AuthorityLaw.congr (hraised fun u =>
      { u with state := .depleted, low := 0, high := 0, bridging := none, normalHold := none, raised := true }) ?_)
    exact .of_blocks (by simp) (by simp) (role_congr (by simp) (by simp))

/-! ### Throttles (R58 to R66) -/

theorem putZeroLock_sameControl (h0 : Level) (v : Bool) (s : State) : SameControl s (s.onAut (putZeroLock h0 v)) :=
  onAut_sameControl (by unfold putZeroLock; split <;> simp)

theorem putDriverData_sameControl (h0 : Level) (d : ThrottleData) (s : State) : SameControl s (s.onAut (putDriverData h0 d)) :=
  onAut_sameControl (by unfold putDriverData; simp only []; split <;> simp)

theorem setRssi_sameControl (n : Nat) (s : State) : SameControl s (s.setRssi n) :=
  .of_blocks rfl ⟨rfl, rfl⟩ (role_congr rfl rfl)

theorem emergency_authority (h0 : Level) {s : State} (hs : AuthorityLaw s) : AuthorityLaw (s.emergency h0) := by
  have hlocked := hs.congr (putZeroLock_sameControl h0 true s)
  simp only [State.emergency]
  split
  · exact emergencyStop_authority _ hlocked
  · exact hlocked

/-- DRIVER's claim, and the link that it sets up, keep the laws: without a claim its link was UP (R19, R59). -/
theorem bound_authority {src : Option Nat} {s : State} (hfree : s.aut.driver.claimed = false) (hs : AuthorityLaw s) :
    AuthorityLaw ((s.claim .driver src).setLink .driver src .up) := by
  obtain ⟨hf, ⟨hlost, hup, hlead, hleads⟩, hp, hc, hg⟩ := hs
  have hrole := role_congr (s := s) (t := (s.claim .driver src).setLink .driver src .up) (by simp) (by simp)
  refine ⟨failsafeLaw_congr (by simp) (by simp) (by simp) hf, ⟨?_, ?_, ?_, ?_⟩, by simpa using hp, ?_, ?_⟩
  · simpa [(hup hfree).1] using hlost
  · simp
  · simpa using hlead
  · simpa using hleads
  · simpa [hrole] using hc
  · simpa [hrole] using hg

theorem bindDriver_authority (h0 : Level) (info : FrameInfo) (d : ThrottleData) {s : State} (hfree : s.aut.driver.claimed = false)
    (hs : AuthorityLaw s) : AuthorityLaw (s.bindDriver h0 info d) := by
  have hbound := bound_authority (src := some info.source) hfree hs
  have hset : AuthorityLaw (State.setRssi info.rssi (State.setLink .driver (some info.source) .up
      (((s.claim .driver (some info.source)).onAut (putDriverData h0 d)).onAut (putZeroLock h0 (d.step != 0))))) := by
    refine hbound.congr ?_
    have hdata := (putDriverData_sameControl h0 d (s.claim .driver (some info.source))).trans
      (putZeroLock_sameControl h0 (d.step != 0) _)
    exact ⟨hdata.failsafe, hdata.signal, hdata.consist, hdata.driver, hdata.parked, hdata.causes, hdata.hold, rfl, rfl, rfl, hdata.role⟩
  simp only [State.bindDriver]
  split
  · exact emergency_authority _ hset
  · exact hset

/-- A rebinding finds the link LOST and leaves it REGAINING, its cause standing (R19, R62). -/
theorem rebindDriver_authority (h0 : Level) (info : FrameInfo) (d : ThrottleData) {s : State} (hclaimed : s.aut.driver.claimed = true)
    (hstate : s.rxc.driverLink.state = .lost) (hs : AuthorityLaw s) : AuthorityLaw (s.rebindDriver h0 info d) := by
  have hdata : AuthorityLaw (((s.onAut fun a => { a with driver := { a.driver with source := some info.source } }).onAut
      (putDriverData h0 d)).onAut (putZeroLock h0 true)) :=
    hs.congr (((onAut_sameControl (by simp)).trans (putDriverData_sameControl ..)).trans (putZeroLock_sameControl ..))
  have hdriver : (((s.onAut fun a => { a with driver := { a.driver with source := some info.source } }).onAut
      (putDriverData h0 d)).onAut (putZeroLock h0 true)).aut.driver.claimed = true := by
    rw [(putZeroLock_sameControl ..).driver, (putDriverData_sameControl ..).driver]
    exact hclaimed
  obtain ⟨hf, ⟨hlost, -, hlead, hleads⟩, hc⟩ := hdata
  have hset : AuthorityLaw (State.setLink .driver (some info.source) .regaining
      (((s.onAut fun a => { a with driver := { a.driver with source := some info.source } }).onAut
        (putDriverData h0 d)).onAut (putZeroLock h0 true))) := by
    refine ⟨setLink_failsafeLaw hf, ⟨?_, ?_, hlead, hleads⟩, setLink_claimLaw hc⟩
    · simpa [hstate] using hlost
    · exact fun h => absurd hdriver (by simpa using h)
  simp only [State.rebindDriver]
  split
  · exact emergency_authority _ hset
  · exact hset

/-- RELEASE takes the claim, the link's source and LINK_LOST together (R19, R63). -/
theorem releaseDriver_authority (h0 : Level) (d : ThrottleData) {s : State} (hs : AuthorityLaw s) :
    AuthorityLaw (s.releaseDriver h0 d) := by
  have hstop : AuthorityLaw (if d.emergency && h0 == .driver then s.emergency h0 else s) := by
    split
    · exact emergency_authority _ hs
    · exact hs
  simp only [State.releaseDriver]
  generalize (if d.emergency && h0 == .driver then s.emergency h0 else s) = v at hstop ⊢
  obtain ⟨hf, ⟨-, -, hlead, hleads⟩, hp, hc, hg⟩ := hstop
  refine AuthorityLaw.congr ?_ (setRssi_sameControl ..)
  have hrole := role_congr (s := v) (t := ((v.release .driver).setLink .driver none .up).removeCause .linkLost) (by simp) (by simp)
  refine ⟨removeCause_failsafeLaw _ (setLink_failsafeLaw (failsafeLaw_congr (by simp) (by simp) (by simp) hf)), ⟨?_, ?_, ?_, ?_⟩, ?_, ?_, ?_⟩
  · simp [removeCause_causes]
  · simp
  · simpa [removeCause_causes] using hlead
  · simpa [removeCause_causes] using hleads
  · simpa using hp
  · simpa [hrole] using hc
  · simpa [hrole] using hg

theorem boundFrame_authority (h0 : Level) (d : ThrottleData) {s : State} (hs : AuthorityLaw s) : AuthorityLaw (s.boundFrame h0 d) := by
  have hdata := hs.congr (putDriverData_sameControl h0 d s)
  unfold State.boundFrame
  split
  · exact releaseDriver_authority _ _ hs
  · simp only []
    split
    · exact emergency_authority _ hdata
    · split
      · exact hdata.congr (putZeroLock_sameControl ..)
      · exact hdata

theorem driverFrame_authority (h0 : Level) (info : FrameInfo) (d : ThrottleData) {s : State} (hs : AuthorityLaw s) :
    AuthorityLaw (s.driverFrame h0 info d) := by
  unfold State.driverFrame
  split
  next hclaimed =>
    split
    · exact boundFrame_authority _ _ hs
    · split
      next hlost =>
        split
        · exact hs
        · exact rebindDriver_authority _ _ _ hclaimed hlost hs
      next => exact hs.congr (.of_blocks (by simp) (by simp) (role_congr (by simp) (by simp)))
  next hfree =>
    split
    · exact hs
    · exact bindDriver_authority _ _ _ (by simpa using hfree) hs

theorem takeThrottle_authority (h0 : Level) (info : FrameInfo) (d : ThrottleData) {s : State} (hs : AuthorityLaw s) :
    AuthorityLaw (s.takeThrottle h0 info d) := by
  have hheard : AuthorityLaw (s.driverHeard info) := by
    unfold State.driverHeard
    split
    · exact (validFrame_authority _ hs).congr (setRssi_sameControl ..)
    · exact hs
  simp only [State.takeThrottle]
  split
  · exact hheard.congr (onAut_sameControl (by simp))
  · exact driverFrame_authority _ _ _ hheard

/-! ### Beacons (R42, R43, R70) -/

theorem putStop_sameControl {f : Aut → Aut} {h0 : Level} {k : Aut → StopState} {s : State}
    (h : (f s.aut).failsafe.claimed = s.aut.failsafe.claimed ∧ (f s.aut).signal.claimed = s.aut.signal.claimed ∧
      (f s.aut).consist.claimed = s.aut.consist.claimed ∧ (f s.aut).driver.claimed = s.aut.driver.claimed ∧
      (f s.aut).parked.claimed = s.aut.parked.claimed ∧ (f s.aut).causes = s.aut.causes ∧ (f s.aut).hold = s.aut.hold) :
    SameControl s (s.onAut fun a => putStop h0 (k a) (f a)) :=
  onAut_sameControl (by unfold putStop; split <;> simpa using h)

theorem setRecord_setZone_sameControl (passing : Bool) (r : BeaconRecord) (f : ZoneFlags) (s : State) :
    SameControl s ((s.setRecord r).setZone passing f) :=
  .of_blocks (by simp) (by simp) (role_congr (by simp) (by simp))

theorem passingNotice_authority (h0 : Level) (r : BeaconRecord) {s : State} (hs : AuthorityLaw s) :
    AuthorityLaw (s.passingNotice h0 r) := by
  unfold State.passingNotice
  split
  next hneeded =>
    split
    · exact hs.congr (putStop_sameControl (k := fun _ => claimStop r) (by simp))
    · have hrole : s.role ≠ .follower := by
        simp only [State.claimNeeded, Bool.and_eq_true, bne_iff_ne] at hneeded
        exact hneeded.1
      exact (claim_signal_authority hrole hs).congr (onAut_sameControl (by simp [claimedStop]))
  next => exact release_signal_authority hs

theorem takeBeacon_authority (h0 : Level) (info : FrameInfo) (d : BeaconData) {s : State} (hs : AuthorityLaw s) :
    AuthorityLaw (s.takeBeacon h0 info d) := by
  have hpass : AuthorityLaw (s.passBeacon h0 info.source d) := passingNotice_authority _ _ (hs.congr (setRecord_setZone_sameControl ..))
  have hupdate : ∀ r, AuthorityLaw (s.updateBeacon h0 r d) := fun r => by
    have hset := hs.congr (setRecord_setZone_sameControl false (updatedRecord r d) d.flags s)
    unfold State.updateBeacon State.dwellRefresh
    split
    · exact hset.congr (putStop_sameControl (f := fun a => a) (by simp))
    · exact hset
  unfold State.takeBeacon
  split
  · split
    · exact hupdate _
    · split
      · exact hpass
      · exact hs
  · split
    · exact hpass
    · exact hs

/-! ### The end of an event (R55, R68, R69, R72) -/

theorem signalTest_authority (h0 : Level) {s : State} (hs : AuthorityLaw s) : AuthorityLaw (s.signalTest h0) := by
  unfold State.signalTest
  split
  · exact release_signal_authority hs
  · exact hs

theorem stallTest_authority (h0 : Level) {s : State} (hs : AuthorityLaw s) : AuthorityLaw (s.stallTest h0) := by
  unfold State.stallTest
  split
  · exact removeCause_authority (by simp [otherCause]) hs
  · exact hs

/-- The hold runs under an empty cause set alone, so its end takes no link's cause (R68). -/
theorem holdTest_authority {s : State} (hs : AuthorityLaw s) : AuthorityLaw s.holdTest := by
  by_cases h : s.aut.failsafe.claimed = true ∧ s.aut.hold = some 0
  · obtain ⟨⟨-, hempty⟩, hl, hc⟩ := hs
    have haut := holdTest_aut s
    rw [if_pos h] at haut
    have hnone : ∀ c, causeIn c s.aut.causes = false := (causesEmpty_iff _).1 (hempty (by simp [h.2]))
    have hlinks : s.aut.causes.linkLost = false ∧ s.aut.causes.leadLost = false := ⟨hnone .linkLost, hnone .leadLost⟩
    refine ⟨by simp [haut, FailsafeLaw, causesEmpty], ?_, ?_⟩
    · simpa [LinkLaw, haut, hlinks] using hl
    · simpa [ClaimLaw, haut, role_congr (s := s) (t := s.holdTest) (by simp) (by simp)] using hc
  · have hsame : s.holdTest = s := if_neg h
    rwa [hsame]

theorem stopReachedTest_authority (h0 : Level) {s : State} (hs : AuthorityLaw s) : AuthorityLaw (s.stopReachedTest h0) := by
  unfold State.stopReachedTest
  split
  · exact hs.congr (putStop_sameControl (f := fun a => a) (by simp))
  · exact hs

theorem settle_authority (s0 : State) {s : State} (hs : AuthorityLaw s) : AuthorityLaw (s.settle s0) := by
  have hclaims : AuthorityLaw (s.settleClaims s0.head) :=
    signalTest_authority _ (stopReachedTest_authority _ (holdTest_authority (stallTest_authority _ (signalTest_authority _ hs))))
  refine hclaims.congr ?_
  constructor <;> simp [State.settle]
  exact role_congr (by simp) (by simp)

theorem close_authority (s0 : State) {s : State} (hs : AuthorityLaw s) : AuthorityLaw (s.close s0) := by
  unfold State.close
  split
  · exact settle_authority s0 hs
  · exact hs
  · exact hs

/-! ### Every event and every command -/

/-- A start's claims, links and role meet the laws. -/
theorem authority_of_start {s : State} (ha : s.aut = startAut) (hd : s.rxc.driverLink = {}) (hl : s.rxc.leadLink = {})
    (hc : s.csu.record = none) : AuthorityLaw s := by
  have hrole : s.role = .none := by simp [State.role, State.position, positionIn, hc, roleOfPosition]
  exact ⟨by simp [ha, startAut, FailsafeLaw, causesEmpty], by simp [LinkLaw, ha, hd, hl, startAut],
    by simp [ha, startAut], by simp [ha, hrole, startAut], by simp [ha, startAut]⟩

theorem beginStart_authority (answered : Bool) (s : State) : AuthorityLaw (s.beginStart answered) := authority_of_start rfl rfl rfl rfl

theorem takeService_authority (startAnswers : Bool) (d : ServiceData) {s : State} (hs : AuthorityLaw s) :
    AuthorityLaw (s.takeService startAnswers d) := by
  have hsame : ∀ {t : State}, t.aut = s.aut → t.rxc = s.rxc → t.csu = s.csu → t.cfg.image = s.cfg.image → AuthorityLaw t :=
    fun ha hx hc hi => hs.congr (.of_blocks ha (by simp [hx]) (role_congr (by rw [hc]) hi))
  rcases takeService_cases startAnswers d s with ⟨st, h⟩ | h | ⟨-, -, -, h⟩ | ⟨-, h⟩ | h <;> rw [h]
  · exact hsame (by simp) (by simp) (by simp) (by simp)
  · exact hsame (by simp) (by simp) (by simp) (by simp)
  · exact hsame (by simp) (by simp) (by simp) (by simp)
  · have hcleared : ∀ v : State, AuthorityLaw v → AuthorityLaw ((v.removeCause .motorFault).answer .done) := fun v hv =>
      (removeCause_authority (c := .motorFault) (by simp [otherCause]) hv).congr (.of_blocks (by simp) (by simp) (role_congr (by simp) (by simp)))
    refine hcleared _ ?_
    split
    · exact hsame (by simp) (by simp) (by simp) (by simp)
    · exact hsame (by simp) (by simp) (by simp) (by simp)
  · exact beginStart_authority ..

theorem hear_sameControl (info : FrameInfo) (role : PeerRole) (rec : Option LocoRecord) (s : State) :
    SameControl s (s.hear info role rec) :=
  .of_blocks (by simp) (by simp) (role_congr (by simp) (by simp))

theorem accepted_sameControl (kind : Nat) (s : State) : SameControl s (s.accepted kind) :=
  .of_blocks (by simp) (by simp [State.accepted, State.acceptFrame]) (role_congr (by simp) (by simp))

theorem leadHeard_authority (info : FrameInfo) {s : State} (hs : AuthorityLaw s) : AuthorityLaw (s.leadHeard info) := by
  unfold State.leadHeard
  split
  · exact validFrame_authority _ hs
  · exact hs

theorem consistReport_authority (h0 : Level) (info : FrameInfo) (d : LocoData) {s : State} (hs : AuthorityLaw s) :
    AuthorityLaw (s.consistReport h0 info d) := by
  unfold State.consistReport
  split
  · split
    · exact followReport_authority _ _ hs
    · exact hs
  · split
    · exact memberTest_authority hs
    · exact hs
  · exact hs

theorem EventBody.authority {c : Instr} {s u : State} (hs : AuthorityLaw s) (h : EventBody s c u) : AuthorityLaw u := by
  have hheard : ∀ kind info role rec, AuthorityLaw ((s.accepted kind).hear info role rec) := fun kind info role rec =>
    hs.congr ((accepted_sameControl kind s).trans (hear_sameControl ..))
  have haccepted : ∀ kind, AuthorityLaw (s.accepted kind) := fun kind => hs.congr (accepted_sameControl kind s)
  cases h with
  | dropped r => exact hs.congr (.of_blocks (by simp) (by simp [State.dropFrame]) (role_congr (by simp) (by simp)))
  | throttle =>
    unfold State.dispatchThrottle
    split
    · exact takeThrottle_authority _ _ _ (hheard ..)
    · exact haccepted 1
  | consist => exact takeConsist_authority _ _ (haccepted 2)
  | beacon => exact takeBeacon_authority _ _ _ (hheard ..)
  | loco => exact consistReport_authority _ _ _ (leadHeard_authority _ ((hheard ..).congr (occupancyTest_sameControl _)))
  | service =>
    unfold State.dispatchService
    split
    · exact takeService_authority _ _ (hheard ..)
    · exact haccepted 5
  | linkWindow due => exact linkLost_authority _ (Option.isSome_iff_ne_none.2 ((linkExpires_iff ..).1 due).1) hs
  | ageing =>
    have haged : AuthorityLaw (s.onPtb fun t => { t with entries := s.ptb.entries.map (agedEntry s.pinned) }) :=
      hs.congr (.of_blocks rfl ⟨rfl, rfl⟩ (role_congr rfl rfl))
    have htested := haged.congr (occupancyTest_sameControl _)
    simp only [State.ageStep]
    split <;> split
    · exact memberTest_authority htested
    · exact memberTest_authority haged
    · exact htested
    · exact haged
  | dwell => exact hs.congr (onAut_sameControl (by simp))
  | hold due =>
    simp only [State.holdEnds, Bool.and_eq_true, lastMs_iff] at due
    obtain ⟨-, n, hn, -⟩ := due
    have hruns : s.aut.hold ≠ none := by simp [hn]
    refine hs.congr ⟨rfl, rfl, rfl, rfl, rfl, rfl, ?_, rfl, rfl, rfl, role_congr rfl rfl⟩
    simp [State.holdDone, hruns]
  | grace => exact memberTest_authority (hs.congr (onCsu_sameControl (by simp) s))
  | period => exact controlPeriod_authority hs
  | phase => exact phaseEnd_authority _ hs
  | bemf => exact bemf_authority _ hs
  | thermostat => exact hs.congr (.of_blocks (by simp) (by simp) (role_congr (by simp) (by simp)))
  | supply => exact supplyMoved_authority _ _ hs
  | bridging => exact addCause_authority (by simp [otherCause]) (hs.congr (.of_blocks rfl ⟨rfl, rfl⟩ (role_congr rfl rfl)))
  | normalHold => exact removeCause_authority (by simp [otherCause]) (hs.congr (.of_blocks rfl ⟨rfl, rfl⟩ (role_congr rfl rfl)))
  | page =>
    rcases pageDone_cases _ _ _ _ s with ⟨-, -, h⟩ | ⟨-, h⟩ <;> rw [h]
    · exact hs.congr (.of_blocks rfl ⟨rfl, rfl⟩ (role_congr rfl rfl))
    · rcases writeDone_cases _ _ (s.onEeprom fun m => pageStored m _ _) with ⟨-, h⟩ | ⟨-, h⟩ <;> rw [h]
      · exact hs.congr (.of_blocks (by simp) (by simp) (role_congr (by simp) (by simp)))
      · exact beginStart_authority ..

theorem completeStart_authority (s : State) : AuthorityLaw s.completeStart := by
  refine authority_of_start ?_ ?_ ?_ ?_ <;> simp [State.completeStart, State.startupSound, State.startValues]

theorem Effect.authority {c : Instr} {s t : State} (hs : AuthorityLaw s) (h : Effect s c t) : AuthorityLaw t := by
  cases h with
  | nothing => exact hs
  | header =>
    unfold State.takeHeader
    have hdropped : AuthorityLaw (s.dropFrame .header) :=
      hs.congr (.of_blocks (by simp) (by simp [State.dropFrame]) (role_congr (by simp) (by simp)))
    split
    · split
      · exact hdropped
      · exact hs
      · exact hs
    · exact hs.congr (.of_blocks rfl ⟨rfl, rfl⟩ (role_congr rfl rfl))
  | discarded => exact hs.congr (.of_blocks rfl ⟨rfl, rfl⟩ (role_congr rfl rfl))
  | sensor => exact hs.congr (.of_blocks rfl ⟨rfl, rfl⟩ (role_congr rfl rfl))
  | closed running body => exact close_authority _ (body.authority hs)
  | direct running effect =>
    cases effect with
    | seed => exact hs.congr (.of_blocks (by simp) (by simp [State.takeSeed]) (role_congr (by simp) (by simp)))
    | cca =>
      refine hs.congr (.of_blocks (by simp) ?_ (role_congr (by simp) (by simp)))
      unfold State.finishCheck
      split <;> simp [State.startReport]
    | sent => exact hs.congr (.of_blocks (by simp) (by simp [State.sendDone]) (role_congr (by simp) (by simp)))
    | _ => exact hs.congr (.of_blocks (by simp) (by simp) (role_congr (by simp) (by simp)))
  | entry =>
    unfold State.entryTest
    split
    · split
      · exact hs.congr (.of_blocks rfl ⟨rfl, rfl⟩ (role_congr rfl rfl))
      · exact completeStart_authority s
    · exact hs.congr (.of_blocks rfl ⟨rfl, rfl⟩ (role_congr rfl rfl))
  | brownOut => exact authority_of_start rfl rfl rfl rfl
  | powerOn => exact beginStart_authority ..

theorem agedLink_standing (window : Nat) (k : LinkRecord) : (agedLink window k).state = k.state ∧ (agedLink window k).source = k.source := by
  unfold agedLink
  split <;> simp

theorem countDown_none {c : Option Nat} : countDown c = none ↔ c = none := by cases c <;> simp [countDown]

theorem aged_authority {s : State} (hs : AuthorityLaw s) : AuthorityLaw { s.aged with pending := s.expiries } := by
  refine hs.congr ⟨rfl, rfl, rfl, rfl, rfl, rfl, countDown_none, ?_, ?_, ?_, role_congr rfl rfl⟩
  · exact (agedLink_standing ..).1
  · exact (agedLink_standing ..).2
  · exact (agedLink_standing ..).1

end Sys2Proof.Machine
end

section
/-! Functions and lamps (sections 8.1, 8.2, 10.2): what the end of an event hands on. -/

namespace Sys2Proof.Machine

/-! ### The function map evaluated (R118, R122) -/

theorem testBit_packBits (bs : List Bool) (n : Nat) : (packBits bs).testBit n = bs.getD n false := by
  induction bs generalizing n with
  | nil => simp [packBits]
  | cons b bs ih =>
    cases n with
    | zero => cases b <;> simp [packBits]
    | succ n =>
      have hhalf : ((if b then 1 else 0) + 2 * packBits bs) / 2 = packBits bs := by split <;> omega
      rw [packBits, Nat.testBit_succ, hhalf, ih]
      simp

theorem levelHeld_iff (e : MapEntry) (role : ConsistRole) (on : Bool) : levelHeld e role on = true ↔ actionHeld e role on := by
  unfold levelHeld actionHeld entryActive takenAsLevel
  cases e.action <;> simp <;> tauto

theorem heldFlags_bit (im : Image) (f : FuncSet) (role : ConsistRole) {n : Nat} (hn : n < 32) :
    (heldFlags im f role).getLsbD n = levelHeld (mapEntry im n) role (f.getLsbD n) := by
  rw [heldFlags, BitVec.getLsbD_ofNat, testBit_packBits]
  simp [hn]

theorem combinedState_iff (s : State) (a : MapAction) : combinedState s.image s.fEff s.role a = true ↔ stateHeld s a := by
  simp only [combinedState, stateHeld, List.any_eq_true, List.mem_range, Bool.and_eq_true, beq_iff_eq, levelHeld_iff]

/-- FNM and SPR stand as an evaluation of the set and role in force leaves them. -/
def HandedOn (s : State) : Prop := s.fnm = evaluatedFnm s.image s.fEff s.role ∧ s.spr.shunting = s.fnm.shunting

theorem fnm_eq_of_held {m : Fnm} {im : Image} {f : FuncSet} {role : ConsistRole} (hl : m.last = f) (hr : m.lastRole = role)
    (hh : ∀ n, n < 32 → m.held.getLsbD n = (heldFlags im f role).getLsbD n)
    (hs : m.smokeEnable = combinedState im f role .smokeEnable) (hsh : m.shunting = combinedState im f role .shunting)
    (hm : m.mute = combinedState im f role .mute) : m = evaluatedFnm im f role := by
  have hheld : m.held = heldFlags im f role := BitVec.eq_of_getLsbD_eq hh
  cases m
  simp_all [evaluatedFnm]

theorem functionLaw_iff (s : State) : FunctionLaw s ↔ (s.power = .running → HandedOn s) := by
  refine imp_congr_right fun _ => ⟨?_, ?_⟩
  · rintro ⟨hlast, hrole, hheld, hsmoke, hshunt, hmute, hspr⟩
    refine ⟨fnm_eq_of_held hlast hrole (fun n hn => ?_) ?_ ?_ ?_, hspr⟩
    · rw [Bool.eq_iff_iff, hheld n hn, heldFlags_bit _ _ _ hn, levelHeld_iff]
    · rw [Bool.eq_iff_iff, hsmoke, combinedState_iff]
    · rw [Bool.eq_iff_iff, hshunt, combinedState_iff]
    · rw [Bool.eq_iff_iff, hmute, combinedState_iff]
  · rintro ⟨hfnm, hspr⟩
    refine ⟨by rw [hfnm]; rfl, by rw [hfnm]; rfl, fun n hn => ?_, ?_, ?_, ?_, hspr⟩
    · rw [hfnm, ← levelHeld_iff, ← heldFlags_bit _ _ _ hn]
      rfl
    · rw [hfnm, ← combinedState_iff]; rfl
    · rw [hfnm, ← combinedState_iff]; rfl
    · rw [hfnm, ← combinedState_iff]; rfl

/-! ### The lamps relit (R155) -/

@[simp] theorem relitFrom_length (lit : Nat → Bool) (effect : Nat → LampEffect) (k : Nat) (ls : List LampState) :
    (relitFrom lit effect k ls).length = ls.length := by
  induction ls generalizing k with
  | nil => rfl
  | cons l ls ih => simp [relitFrom, ih]

theorem relitFrom_getD (lit : Nat → Bool) (effect : Nat → LampEffect) (k : Nat) {ls : List LampState} {n : Nat} (h : n < ls.length) :
    (relitFrom lit effect k ls).getD n {} = relit (lit (k + n)) (effect (k + n)) (ls.getD n {}) := by
  induction ls generalizing k n with
  | nil => simp at h
  | cons l ls ih =>
    cases n with
    | zero => rfl
    | succ n =>
      have := ih (k + 1) (n := n) (by simpa using h)
      simpa [relitFrom, Nat.add_assoc, Nat.add_comm 1] using this

theorem lampsRefresh_lamp (s : State) {n : Nat} (h : n < s.lmp.lamps.length) :
    s.lampsRefresh.lamp n = relit (s.lampLit n) (s.lampEffect n) (s.lamp n) := by
  simpa [State.lampsRefresh, State.lamp] using relitFrom_getD s.lampLit s.lampEffect 0 h

@[simp] theorem blinkFrom_length (mask : BitVec 8) (count k : Nat) (ls : List LampState) :
    (blinkFrom mask count k ls).length = ls.length := by
  induction ls generalizing k with
  | nil => rfl
  | cons l ls ih => simp [blinkFrom, ih]

theorem blinkFrom_lit (mask : BitVec 8) (count k n : Nat) (ls : List LampState) :
    ((blinkFrom mask count k ls).getD n {}).lit = (ls.getD n {}).lit := by
  induction ls generalizing k n with
  | nil => rfl
  | cons l ls ih =>
    cases n with
    | zero =>
      simp only [blinkFrom, List.getD_cons_zero]
      split <;> rfl
    | succ n => simpa [blinkFrom] using ih (k + 1) n

/-- The lamps' number and lit conditions stand as they did. -/
def SameLit (s t : State) : Prop := t.lmp.lamps.length = s.lmp.lamps.length ∧ ∀ n, (t.lamp n).lit = (s.lamp n).lit

theorem SameLit.of_lamps {s t : State} (h : t.lmp.lamps = s.lmp.lamps) : SameLit s t := by simp [SameLit, State.lamp, h]

theorem SameLit.trans {s t u : State} (h : SameLit s t) (h' : SameLit t u) : SameLit s u :=
  ⟨h'.1.trans h.1, fun n => (h'.2 n).trans (h.2 n)⟩

theorem blink_sameLit (mask : BitVec 8) (count : Nat) (s : State) : SameLit s (s.blink mask count) :=
  ⟨by simp [State.blink], fun n => by simpa [State.blink, State.lamp] using blinkFrom_lit mask count 0 n s.lmp.lamps⟩

theorem entryAction_sameLit (k : EntryAction) (s : State) : SameLit s (s.entryAction k) := by
  cases k with
  | lampBlink m c => exact blink_sameLit m c s
  | sound | fanBurst => exact .of_lamps (by simp [State.entryAction])

theorem runActions_sameLit (ks : List EntryAction) (s : State) : SameLit s (ks.foldl State.entryAction s) := by
  induction ks generalizing s with
  | nil => exact .of_lamps rfl
  | cons k ks ih => exact (entryAction_sameLit k s).trans (ih _)

theorem entryActions_sameLit (l : Level) (resume : Bool) (s : State) : SameLit s (s.entryActions l resume) := by
  unfold State.entryActions
  split
  · exact runActions_sameLit ..
  · exact .of_lamps rfl

/-- A change of one lamp that leaves its lit condition. -/
theorem onLamp_sameLit {i : Nat} {f : LampState → LampState} (hf : ∀ l, (f l).lit = l.lit) (s : State) : SameLit s (s.onLamp i f) := by
  refine ⟨by simp [State.onLamp], fun n => ?_⟩
  simp only [State.onLamp, State.lamp, onLmp_lmp, List.getD_eq_getElem?_getD, List.getElem?_set]
  split
  next h =>
    subst h
    split
    · simp [hf]
    · simp_all
  next => rfl

/-! ### What the handing on is read off -/

/-- The lamps are eight, each lit as its rules say on the set handed over. -/
def LampsLit (s : State) : Prop := s.lmp.lamps.length = 8 ∧ ∀ n, n < 8 → (s.lamp n).lit = s.lampLit n

/-- The claims, function sets, role, direction and configuration, off which functions and lamps are read, stand as they did. -/
structure SameInputs (s t : State) : Prop where
  head : t.head = s.head
  driver : t.aut.driver.claimed = s.aut.driver.claimed
  driverFuncs : t.aut.driverLive.funcs = s.aut.driverLive.funcs
  consistFuncs : t.aut.consistLive.funcs = s.aut.consistLive.funcs
  record : t.csu.record = s.csu.record
  image : t.cfg.image = s.cfg.image
  running : t.spr.running = s.spr.running

theorem SameInputs.trans {s t u : State} (h : SameInputs s t) (h' : SameInputs t u) : SameInputs s u where
  head := h'.head.trans h.head
  driver := h'.driver.trans h.driver
  driverFuncs := h'.driverFuncs.trans h.driverFuncs
  consistFuncs := h'.consistFuncs.trans h.consistFuncs
  record := h'.record.trans h.record
  image := h'.image.trans h.image
  running := h'.running.trans h.running

theorem SameInputs.of_blocks {s t : State} (ha : t.aut = s.aut) (hr : t.csu.record = s.csu.record) (hi : t.cfg.image = s.cfg.image)
    (hs : t.spr.running = s.spr.running) : SameInputs s t := by
  constructor <;> simp [State.head, ha, hr, hi, hs]

theorem SameInputs.role {s t : State} (h : SameInputs s t) : t.role = s.role := role_congr h.record h.image

theorem SameInputs.fEff {s t : State} (h : SameInputs s t) : t.fEff = s.fEff := by
  simp only [State.fEff, State.baseSet, State.image, h.head, h.driver, h.driverFuncs, h.consistFuncs, h.image, h.role]

theorem SameInputs.lampLit {s t : State} (h : SameInputs s t) (hf : t.fnm = s.fnm) (n : Nat) : t.lampLit n = s.lampLit n := by
  have hend : t.endFlag = s.endFlag := by simp only [State.endFlag, State.position, State.ownId, h.record, h.image]
  simp only [State.lampLit, State.lampForced, State.lampConfig, State.image, h.head, h.image, h.running, h.role, hend, hf]

theorem HandedOn.congr {s t : State} (hs : HandedOn s) (h : SameInputs s t) (hf : t.fnm = s.fnm) (hsh : t.spr.shunting = s.spr.shunting) :
    HandedOn t := by
  simpa only [HandedOn, State.image, hf, hsh, h.image, h.fEff, h.role] using hs

theorem LampsLit.congr {s t : State} (hs : LampsLit s) (h : SameInputs s t) (hf : t.fnm = s.fnm) (hl : SameLit s t) : LampsLit t :=
  ⟨hl.1.trans hs.1, fun n hn => by rw [hl.2, h.lampLit hf, hs.2 n hn]⟩

/-- While functions are handed on, the law of the lamps is that each is lit as its rules say. -/
theorem lampLaw_iff {s : State} (hf : s.power = .running → HandedOn s) : LampLaw s ↔ (s.power = .running → LampsLit s) := by
  refine imp_congr_right fun hp => and_congr_right fun _ => forall_congr' fun n => imp_congr_right fun _ => ?_
  have hlast : s.fnm.last = s.fEff := by rw [(hf hp).1]; rfl
  refine Iff.trans (iff_congr Iff.rfl ?_) Bool.eq_iff_iff.symm
  unfold State.lampLit State.lampForced
  rw [hlast]
  simp only [Bool.and_eq_true, Bool.or_eq_true, and_assoc]
  refine and_congr_right fun _ => ?_
  cases (s.lampConfig n).dirRule <;> cases (s.lampConfig n).consistRule <;> simp [directionHolds, consistHolds]

/-- Functions and lamps stand handed on at a running part. -/
def EventEnded (s : State) : Prop := s.power = .running → HandedOn s ∧ LampsLit s

theorem eventEnded_iff (s : State) : FunctionLaw s ∧ LampLaw s ↔ EventEnded s := by
  rw [functionLaw_iff]
  constructor
  · rintro ⟨hf, hl⟩ hp
    exact ⟨hf hp, (lampLaw_iff hf).1 hl hp⟩
  · intro h
    exact ⟨fun hp => (h hp).1, (lampLaw_iff fun hp => (h hp).1).2 fun hp => (h hp).2⟩

/-! ### The refresh (R57, R119, R122, R155) -/

/-- FNM as some evaluation left it, and SPR with its shunting state. -/
def Evaluated (s : State) : Prop :=
  s.fnm = evaluatedFnm s.image s.fnm.last s.fnm.lastRole ∧ s.spr.shunting = s.fnm.shunting ∧ s.lmp.lamps.length = 8

@[simp] theorem evaluate_fnm (s : State) : s.evaluate.fnm = evaluatedFnm s.image s.fEff s.role := by
  simp only [State.evaluate]
  split <;> simp

@[simp] theorem evaluate_spr (s : State) :
    s.evaluate.spr = { s.spr with shunting := (evaluatedFnm s.image s.fEff s.role).shunting } := by
  simp only [State.evaluate]
  split <;> simp

@[simp] theorem evaluate_lamps (s : State) : s.evaluate.lmp.lamps = s.lmp.lamps := by
  simp only [State.evaluate, State.ditchChange, onLmp_lmp]
  split <;> simp

theorem evaluate_sameInputs (s : State) : SameInputs s s.evaluate := .of_blocks (by simp) (by simp) (by simp) (by simp)

theorem lampsRefresh_sameInputs (s : State) : SameInputs s s.lampsRefresh := .of_blocks (by simp) (by simp) (by simp) (by simp)

theorem functionsRefresh_sameInputs (s : State) : SameInputs s s.functionsRefresh := by
  unfold State.functionsRefresh
  split
  · exact lampsRefresh_sameInputs s
  · exact (evaluate_sameInputs s).trans (lampsRefresh_sameInputs _)

theorem lampsRefresh_lit {s : State} (h : s.lmp.lamps.length = 8) : LampsLit s.lampsRefresh := by
  refine ⟨by simp [State.lampsRefresh, h], fun n hn => ?_⟩
  rw [lampsRefresh_lamp s (by omega), relit_lit, (lampsRefresh_sameInputs s).lampLit (by simp)]

theorem functionsRefresh_ended {s : State} (hs : Evaluated s) : HandedOn s.functionsRefresh ∧ LampsLit s.functionsRefresh := by
  obtain ⟨hfnm, hshunt, hlen⟩ := hs
  have hsame := functionsRefresh_sameInputs s
  unfold State.functionsRefresh at hsame ⊢
  split
  next h =>
    refine ⟨⟨?_, by simpa using hshunt⟩, lampsRefresh_lit hlen⟩
    rw [(lampsRefresh_sameInputs s).fEff, (lampsRefresh_sameInputs s).role, h.1, h.2]
    simpa [State.image] using hfnm
  next =>
    refine ⟨⟨?_, by simp⟩, lampsRefresh_lit (by simpa using hlen)⟩
    have hr := (evaluate_sameInputs s).trans (lampsRefresh_sameInputs _)
    rw [hr.fEff, hr.role]
    simp [State.image]

/-! ### The end of an event hands on (R53 to R57) -/

theorem entryAction_frames (k : EntryAction) (s : State) :
    (s.entryAction k).fnm = s.fnm ∧ (s.entryAction k).spr = s.spr ∧ SameInputs s (s.entryAction k) := by
  cases k <;> exact ⟨by simp [State.entryAction], by simp [State.entryAction],
    .of_blocks (by simp [State.entryAction]) (by simp [State.entryAction]) (by simp [State.entryAction]) (by simp [State.entryAction])⟩

/-- What follows the refresh in an activation leaves functions and lamps handed on. -/
theorem EventEnded.after {s t : State} (h : HandedOn s ∧ LampsLit s) (hin : SameInputs s t) (hf : t.fnm = s.fnm)
    (hsh : t.spr.shunting = s.spr.shunting) (hl : SameLit s t) : HandedOn t ∧ LampsLit t :=
  ⟨h.1.congr hin hf hsh, h.2.congr hin hf hl⟩

theorem activate_ended (h0 l : Level) {s : State} (hs : Evaluated s) : HandedOn (s.activate h0 l) ∧ LampsLit (s.activate h0 l) := by
  have hmarked : Evaluated (s.onAut fun a => markStarted l (loadSaved h0 l a)) := by simpa [Evaluated, State.image] using hs
  have hacted := EventEnded.after (functionsRefresh_ended hmarked)
    (t := ((s.onAut fun a => markStarted l (loadSaved h0 l a)).functionsRefresh).entryActions l (autCtx s.aut l).started)
    (.of_blocks (by simp) (by simp) (by simp) (by simp)) (by simp) (by simp) (entryActions_sameLit ..)
  simp only [State.activate]
  split
  · exact EventEnded.after hacted (.of_blocks (by simp) (by simp) (by simp) (by simp)) (by simp) (by simp) (.of_lamps (by simp))
  · exact hacted

theorem changeHead_ended (h0 : Level) {s : State} (hs : Evaluated s) : HandedOn (s.changeHead h0) ∧ LampsLit (s.changeHead h0) := by
  have hpreempted : Evaluated (s.onAut (preempt h0)) := by simpa [Evaluated, State.image] using hs
  have hstopped : Evaluated ((s.onAut (preempt h0)).stopOwner .system) := by simpa [Evaluated, State.image] using hpreempted
  simp only [State.changeHead]
  split
  · exact functionsRefresh_ended hs
  · split
    · exact activate_ended _ _ hstopped
    · exact activate_ended _ _ hpreempted

theorem settle_ended (s0 : State) {s : State} (hs : Evaluated s) : HandedOn (s.settle s0) ∧ LampsLit (s.settle s0) := by
  have hclaims : Evaluated (s.settleClaims s0.head) := by simpa [Evaluated, State.image] using hs
  refine EventEnded.after (changeHead_ended s0.head hclaims) ⟨?_, ?_, ?_, ?_, ?_, ?_, ?_⟩ (by simp [State.settle]) (by simp [State.settle])
    (.of_lamps (by simp [State.settle]))
  · simp [State.settle]
  all_goals simp [State.settle]

/-- An event's course leaves FNM, SPR's shunting state and the lamps as they were. -/
def SameHanded (s u : State) : Prop :=
  u.fnm = s.fnm ∧ u.spr.shunting = s.spr.shunting ∧ u.lmp.lamps = s.lmp.lamps ∧ u.cfg.image = s.cfg.image

theorem Evaluated.congr {s u : State} (hs : Evaluated s) (h : SameHanded s u) : Evaluated u := by
  obtain ⟨hf, hsh, hl, hi⟩ := h
  simpa only [Evaluated, State.image, hf, hsh, hl, hi] using hs

theorem EventEnded.evaluated {s : State} (hs : EventEnded s) (hp : s.power = .running) : Evaluated s := by
  obtain ⟨⟨hfnm, hshunt⟩, hlen, -⟩ := hs hp
  refine ⟨?_, hshunt, hlen⟩
  rw [hfnm]
  rfl

@[simp] theorem chuffEvent_lamps (s : State) : s.chuffEvent.lmp.lamps = s.lmp.lamps := by
  simp [State.chuffEvent, State.flare]

@[simp] theorem syntheticChuff_lamps (s : State) : s.syntheticChuff.lmp.lamps = s.lmp.lamps := by
  unfold State.syntheticChuff
  split
  · split <;> simp
  · rfl

theorem EventBody.handed {c : Instr} {s u : State} (h : EventBody s c u) : u.power ≠ .running ∨ SameHanded s u := by
  cases h with
  | @throttle payload _ col arrival =>
    refine .inr ⟨by simp, ?_, by simp, by simp⟩
    rcases dispatchThrottle_motion payload (frameInfo col) (s.accepted 1) with ⟨hr, -⟩ | ⟨-, -, hsh, -⟩
    · simp [hr]
    · simp [hsh]
  | period =>
    refine .inr ⟨by simp, ?_, by simp, by simp⟩
    cases hstall : s.periodCompute.stallFound
    · rw [controlPeriod_of_no_stall hstall]
      simp
    · rw [controlPeriod_of_stall hstall, stallStop_shunting]
      simp
  | bemf => exact .inr ⟨by simp, by simp [State.bemf], by simp [State.bemf], by simp⟩
  | supply =>
    refine .inr ?_
    unfold State.supplyMoved
    split
    · exact ⟨rfl, rfl, rfl, rfl⟩
    · simp [SameHanded, State.enterNormal]
    · simp [SameHanded, State.enterBridging]
    · exact ⟨by simp, by rw [State.enterDepleted, depletedStop_shunting]; simp, by simp, by simp⟩
  | service answers =>
    unfold State.dispatchService
    split
    · rcases takeService_cases answers (serviceData _) ((s.accepted 5).hear _ .tool none) with
        ⟨st, h⟩ | h | ⟨-, -, -, h⟩ | ⟨-, h⟩ | h <;> rw [h]
      · exact .inr (by simp [SameHanded])
      · exact .inr (by simp [SameHanded])
      · exact .inr (by simp [SameHanded])
      · exact .inr (by simp [SameHanded])
      · exact .inl (by simp [State.restart, State.beginStart, State.startValues])
    · exact .inr (by simp [SameHanded])
  | page =>
    rcases pageDone_cases _ _ _ _ s with ⟨-, -, h⟩ | ⟨-, h⟩ <;> rw [h]
    · exact .inr (by simp [SameHanded])
    · rcases writeDone_cases _ _ (s.onEeprom fun m => pageStored m _ _) with ⟨-, h⟩ | ⟨-, h⟩ <;> rw [h]
      · exact .inr (by simp [SameHanded])
      · exact .inl (by simp [State.beginStart, State.startValues])
  | _ => exact .inr (by simp [SameHanded])

/-! ### Every command -/

/-- With every function off nothing is held, so a start's FNM is an evaluation's (R167). -/
theorem startFnm_evaluated (im : Image) : ({} : Fnm) = evaluatedFnm im 0#32 .none := by
  have hoff : ∀ e role, levelHeld e role false = false := fun e role => by simp [levelHeld]
  refine fnm_eq_of_held rfl rfl (fun n hn => ?_) ?_ ?_ ?_
  · rw [heldFlags_bit _ _ _ hn]
    simp [hoff]
  all_goals simp [combinedState, hoff]

theorem completeStart_ended (s : State) : HandedOn s.completeStart ∧ LampsLit s.completeStart := by
  have hstart : ∀ v : State, v.fnm = {} → v.spr = {} → v.lmp = {} → Evaluated v := fun v hf hs hl => by
    refine ⟨?_, by simp [hf, hs], by simp [hl]⟩
    rw [hf]
    exact startFnm_evaluated _
  simp only [State.completeStart]
  refine EventEnded.after (functionsRefresh_ended (hstart _ ?_ ?_ ?_)) (.of_blocks (by simp) (by simp) (by simp) (by simp)) (by simp)
    (by simp) (entryActions_sameLit ..)
  all_goals simp [State.startupSound, State.startValues]

theorem EventEnded.congr {s t : State} (hs : EventEnded s) (hp : t.power = s.power) (hin : SameInputs s t) (hf : t.fnm = s.fnm)
    (hsh : t.spr.shunting = s.spr.shunting) (hl : SameLit s t) : EventEnded t :=
  fun ht => EventEnded.after (hs (hp ▸ ht)) hin hf hsh hl

theorem EventEnded.of_stopped {s : State} (h : s.power ≠ .running) : EventEnded s := fun hp => absurd hp h

theorem camEdge_lamps (s : State) : s.camEdge.lmp.lamps = s.lmp.lamps := by
  unfold State.camEdge State.camTake
  split
  · simp only []
    split <;> simp
  · rfl

theorem DirectEffect.ended {c : Instr} {s t : State} (hs : EventEnded s) (h : DirectEffect s c t) : EventEnded t := by
  have hlamps : ∀ {t : State}, t.power = s.power → t.aut = s.aut → t.csu = s.csu → t.cfg = s.cfg → t.spr = s.spr → t.fnm = s.fnm →
      SameLit s t → EventEnded t := fun hp ha hc hg hr hf hl =>
    hs.congr hp (.of_blocks ha (by rw [hc]) (by rw [hg]) (by rw [hr])) hf (by rw [hr]) hl
  cases h with
  | edge => exact hlamps (by simp) (by simp) (by simp) (by simp) (by simp) (by simp) (.of_lamps (camEdge_lamps _))
  | camWindow => exact hlamps (by simp) (by simp) (by simp) (by simp) (by simp) (by simp) (.of_lamps (camEdge_lamps _))
  | fade => exact hlamps rfl rfl rfl rfl rfl rfl (onLamp_sameLit (fun l => by unfold fadeUp; simp) s)
  | blink => exact hlamps rfl rfl rfl rfl rfl rfl (onLamp_sameLit (by simp) s)
  | strobe => exact hlamps rfl rfl rfl rfl rfl rfl (onLamp_sameLit (fun l => by unfold strobeOn; simp) s)
  | flare | flicker | ditch => exact hlamps rfl rfl rfl rfl rfl rfl (.of_lamps rfl)
  | _ => exact hlamps (by simp) (by simp) (by simp) (by simp) (by simp) (by simp) (.of_lamps (by simp))

theorem Effect.ended {c : Instr} {s t : State} (hs : EventEnded s) (h : Effect s c t) : EventEnded t := by
  have hsame : ∀ {t : State}, t.power = s.power → t.aut = s.aut → t.csu = s.csu → t.cfg = s.cfg → t.spr = s.spr → t.fnm = s.fnm →
      t.lmp = s.lmp → EventEnded t := fun hp ha hc hg hr hf hl =>
    hs.congr hp (.of_blocks ha (by rw [hc]) (by rw [hg]) (by rw [hr])) hf (by rw [hr]) (.of_lamps (by rw [hl]))
  cases h with
  | nothing => exact hs
  | header => exact hsame (by simp) (by simp) (by simp) (by simp) (by simp) (by simp) (by simp)
  | discarded => exact hsame rfl rfl rfl rfl rfl rfl rfl
  | sensor stands => exact .of_stopped stands
  | closed running body =>
    rcases body.handed with hstopped | hhanded
    · exact .of_stopped (by simpa using hstopped)
    · intro hp
      rw [close_power] at hp
      rw [close_of_running hp]
      exact settle_ended s ((hs.evaluated running).congr hhanded)
  | direct running effect => exact effect.ended hs
  | entry =>
    unfold State.entryTest
    split
    · split
      · exact hsame rfl rfl rfl rfl rfl rfl rfl
      · exact fun _ => completeStart_ended s
    · exact hsame rfl rfl rfl rfl rfl rfl rfl
  | brownOut => exact .of_stopped (by simp [State.brownOut, State.startValues])
  | powerOn => exact .of_stopped (by simp [State.beginStart, State.startValues])

theorem aged_ended {s : State} (hs : EventEnded s) : EventEnded { s.aged with pending := s.expiries } := by
  refine hs.congr rfl ⟨rfl, rfl, rfl, rfl, rfl, rfl, rfl⟩ rfl rfl ⟨?_, fun n => ?_⟩
  · simp [State.aged, agedLmp]
  · simp only [State.lamp, State.aged, agedLmp, List.getD_eq_getElem?_getD, List.getElem?_map]
    cases s.lmp.lamps[n]? <;> rfl

/-- Settles O8: the claims, causes and links change together, and every event ends by handing on the functions and relighting the
lamps. -/
theorem everyStepKeepsTheAuthorityLaw : Obligations.EveryStepKeepsTheAuthorityLaw := by
  have hlaw : (fun s : State => AuthorityLaw s ∧ FunctionLaw s ∧ LampLaw s) = fun s => AuthorityLaw s ∧ EventEnded s := by
    funext s
    rw [eventEnded_iff]
  unfold Obligations.EveryStepKeepsTheAuthorityLaw
  rw [hlaw]
  refine keptByEveryStep_of_effect (fun _ _ h => h) (fun s _ h => ?_) fun c s t hs h => ?_
  · exact ⟨aged_authority h.1, aged_ended h.2⟩
  · exact ⟨h.authority hs.1, h.ended hs.2⟩

end Sys2Proof.Machine
end

section
/-! The step, the reset and the stopped part; and how the reach of an event is read off its blocks. -/

namespace Sys2Proof.Machine

/-! ### Answers and reach -/

theorem answers_of_exec {c : Instr} {s t : State} {p : State → Prop} (h : exec c s = .next t) (hp : p t) : answers c s p := ⟨t, h, hp⟩

/-- The reach of an event, block by block. -/
theorem reachesOnly_iff {bs : List Block} {s t : State} :
    reachesOnly bs s t ↔
      (.pending ∈ bs ∨ t.pending = s.pending) ∧ (.power ∈ bs ∨ t.power = s.power) ∧ (.rxc ∈ bs ∨ t.rxc = s.rxc)
        ∧ (.rpt ∈ bs ∨ t.rpt = s.rpt) ∧ (.ptb ∈ bs ∨ t.ptb = s.ptb) ∧ (.tkm ∈ bs ∨ t.tkm = s.tkm) ∧ (.aut ∈ bs ∨ t.aut = s.aut)
        ∧ (.csu ∈ bs ∨ t.csu = s.csu) ∧ (.spr ∈ bs ∨ t.spr = s.spr) ∧ (.mrg ∈ bs ∨ t.mrg = s.mrg) ∧ (.fnm ∈ bs ∨ t.fnm = s.fnm)
        ∧ (.chg ∈ bs ∨ t.chg = s.chg) ∧ (.snd ∈ bs ∨ t.snd = s.snd) ∧ (.smk ∈ bs ∨ t.smk = s.smk) ∧ (.lmp ∈ bs ∨ t.lmp = s.lmp)
        ∧ (.sup ∈ bs ∨ t.sup = s.sup) ∧ (.cfg ∈ bs ∨ t.cfg = s.cfg) ∧ (.eeprom ∈ bs ∨ t.eeprom = s.eeprom)
        ∧ (.flash ∈ bs ∨ t.flash = s.flash) := by
  have hall : ∀ p : Block → Prop, (∀ b, p b) ↔
      p .pending ∧ p .power ∧ p .rxc ∧ p .rpt ∧ p .ptb ∧ p .tkm ∧ p .aut ∧ p .csu ∧ p .spr ∧ p .mrg ∧ p .fnm ∧ p .chg ∧ p .snd ∧ p .smk
        ∧ p .lmp ∧ p .sup ∧ p .cfg ∧ p .eeprom ∧ p .flash := fun p => by
    refine ⟨fun h => by simp [h], fun h b => ?_⟩
    cases b <;> simp_all
  simp only [reachesOnly, hall, blockKept, imp_iff_not_or, not_not]

/-! ### The step and the reset -/

/-- Settles O1: by the definition of a step. -/
theorem stepTakesTheFrontCommand : Obligations.StepTakesTheFrontCommand := fun _ _ _ => rfl

theorem step_idle {s : State} (h : s.pending = []) : step s = .next s.tick := by
  rw [step, h]

theorem tick_of_running {s : State} (h : s.power = .running) : s.tick = { s.aged with pending := s.expiries } := by
  rw [State.tick, h]

theorem tick_of_not_running {s : State} (h : s.power ≠ .running) : s.tick = s := by
  unfold State.tick
  split
  · exact absurd ‹_› h
  · rfl
  · rfl

/-- Settles O2: the tick, by whether the part runs. -/
theorem idleStepPassesOneMillisecond : Obligations.IdleStepPassesOneMillisecond := by
  intro s hidle
  refine ⟨fun hp => by rw [step_idle hidle, tick_of_not_running hp], fun hp => ⟨_, by rw [step_idle hidle, tick_of_running hp], ?_⟩⟩
  refine ⟨rfl, rfl, rfl, rfl, fun hsource hage => ?link, fun n hn hlt => ?hold, by simp [reachesOnly_iff, State.aged]⟩
  case link =>
    have hcounts : s.rxc.driverLink.source.isSome = true ∧ s.rxc.driverLink.age + 1 < s.linkWindow .driver :=
      ⟨Option.isSome_iff_ne_none.2 hsource, hage⟩
    simp [State.aged, agedRxc, agedLink, hcounts]
  case hold => simp [State.aged, agedAut, countDown, hn, show 1 ≤ n - 1 by omega]

/-- Settles O3: by evaluation of the reset state. -/
theorem resetHoldsTheStartValues : Obligations.ResetHoldsTheStartValues := by
  unfold Obligations.ResetHoldsTheStartValues
  decide

theorem reset_authority : AuthorityLaw State.reset := authority_of_start rfl rfl rfl rfl

theorem reset_ended : EventEnded State.reset := fun _ => by
  refine ⟨⟨?_, rfl⟩, rfl, ?_⟩
  · exact startFnm_evaluated _
  · decide

/-- Settles O4: the reset state is a start whose blocks hold their start values. -/
theorem resetMeetsEveryLaw : Obligations.ResetMeetsEveryLaw := by
  have hended : FunctionLaw State.reset ∧ LampLaw State.reset := (eventEnded_iff _).2 reset_ended
  have hcredit : CreditLaw State.reset := by
    unfold CreditLaw
    decide
  have hduplex : HalfDuplexLaw State.reset := fun h => absurd h (by decide)
  have hestimate : EstimateLaw State.reset := by
    refine ⟨rfl, fun e he => ?_⟩
    obtain rfl : clampLevel (Config.channelLevel 0) = e := Option.some.inj he
    exact clampLevel_le _
  have hmemory : MemoryLaw State.reset := memoryLaw_of_no_writing rfl rfl
  have himage : ImageLaw State.reset := clampImage_clampImage _
  have hmotor : MotorLaw State.reset := .of_rest rfl rfl
  have hrange : RangeLaw State.reset := rangeLaw_iff.2 ⟨by decide, motorRanges_start _, chuffRanges_start false⟩
  have hsound : SoundLaw State.reset := by
    unfold SoundLaw
    decide
  exact ⟨hcredit, hduplex, hestimate, hmemory, himage, startTable_law, reset_authority, hmotor.1, hmotor.2, hrange, hsound, hended.1,
    hended.2, heaterLaw_of_off rfl⟩

/-! ### A part that sends or stands still (R2, R165) -/

theorem receiverOn_of_sending {s : State} (hp : s.power = .running) (h : s.rpt.activity = .sending) : s.receiverOn = false := by
  simp [State.receiverOn, hp, h]

/-- With the receiver off no frame completes. -/
theorem takeFrame_of_receiver_off {kinds : Nat → Bool} {payload : List Byte} {crc : BitVec 16} {dispatch : FrameInfo → State → State}
    {s : State} (h : s.receiverOn = false) : s.takeFrame kinds payload crc dispatch = s := by
  simp [State.takeFrame, State.completed, h]

theorem exec_of_receiver_off {c : Instr} {s : State} (h : s.receiverOn = false) (hc : fromTheAir c = true) : exec c s = .next s := by
  cases c with
  | headerComplete channel bytes levels => simp [exec, execHeaderComplete, h]
  | throttleFrame | consistFrame | beaconFrame | locoFrame | serviceWrite | serviceClearFaults | serviceRestart | serviceOtherOp
  | undefinedKindFrame => exact congrArg Host.Outcome.next (takeFrame_of_receiver_off h)
  | _ => cases hc

/-- The outcome is a next state. -/
def HasNext (o : Host.Outcome State Fault Refusal) : Prop := ∃ t, o = .next t

theorem hasNext_next (t : State) : HasNext (.next t) := ⟨t, rfl⟩

theorem hasNext_whenRunning (s t : State) : HasNext (whenRunning s t) := by
  unfold whenRunning
  split <;> exact hasNext_next _

theorem hasNext_ite {b : Prop} [Decidable b] {s t : State} : HasNext (if b then whenRunning s t else .next s) := by
  split
  · exact hasNext_whenRunning s t
  · exact hasNext_next s

/-- Every command has a next state. -/
theorem exec_hasNext (c : Instr) (s : State) : HasNext (exec c s) := by
  cases c with
  | headerComplete | throttleFrame | consistFrame | beaconFrame | locoFrame | serviceWrite | serviceClearFaults | serviceRestart
  | serviceOtherOp | undefinedKindFrame => exact hasNext_next _
  | peerAgeingStep | creditAccrual | occupancySample | controlPeriod | drivePhaseEnd | bemfSample | soundSampleEvent | thermostatTick
  | flickerLfsrStep => exact hasNext_whenRunning ..
  | wheelSensorEdge => exact hasNext_whenRunning ..
  | lookupComplete | refillComplete =>
    simp only [exec, execLookupComplete, execRefillComplete]
    split
    · exact hasNext_whenRunning ..
    · exact hasNext_next _
    · exact hasNext_next _
  | blinkPhaseEnd =>
    simp only [exec, execBlinkPhaseEnd]
    split
    · exact hasNext_ite
    · exact hasNext_next _
  | pageWriteComplete =>
    simp only [exec, execPageWriteComplete]
    split
    · exact hasNext_whenRunning ..
    · exact hasNext_next _
  | supplyEvaluation | brownOut | powerOn =>
    simp only [exec, execSupplyEvaluation, execBrownOut, execPowerOn]
    split <;> exact hasNext_next _
  | entryTestPassed =>
    simp only [exec, execEntryTestPassed]
    split
    · split <;> exact hasNext_next _
    · exact hasNext_next _
    · exact hasNext_next _
  | _ => exact hasNext_ite

/-- A stopped part takes POWER_ON and the sensor's level alone. -/
theorem exec_of_off {c : Instr} {s : State} (hp : s.power = .off) (hsensor : ∀ level, c ≠ .wheelSensorEdge level)
    (hpower : ∀ answered, c ≠ .powerOn answered) : exec c s = .next s := by
  obtain ⟨t, ht⟩ := exec_hasNext c s
  rw [ht]
  cases effect_of_exec ht with
  | nothing => rfl
  | header on => simp [State.receiverOn, hp] at on
  | closed running => simp [hp] at running
  | direct running => simp [hp] at running
  | discarded starting => simp [hp] at starting
  | sensor => exact absurd rfl (hsensor _)
  | entry starting => simp [hp] at starting
  | brownOut on => exact absurd hp on
  | powerOn => exact absurd rfl (hpower _)

/-- Settles O12: half duplex is the receiver's being off; a stopped part takes the sensor's level and POWER_ON alone. -/
theorem sendingAndStoppedPartsHearNothing : Obligations.SendingAndStoppedPartsHearNothing := by
  refine ⟨fun c s hp hsending hair => exec_of_receiver_off (receiverOn_of_sending hp hsending) hair, fun c s hoff => ⟨?_, exec_of_off hoff⟩⟩
  rintro level rfl
  exact whenRunning_of_not_running (by simp [State.sensorSet, hoff])

end Sys2Proof.Machine
end

section
/-! The report transmitter and the receive chain: the schedule, the check, the counters' samples, and the five receive tests. -/

namespace Sys2Proof.Machine

/-! ### Counting an event -/

/-- Two counters that took one occurrence of an event have counted it (R30, R31). -/
theorem counted_of_countEvent {e : DiagEvent} {code : Nat} {takes : BitVec 8 → Bool} {s t : State}
    (htakes : ∀ c : CounterConfig, c.event = code → counterTakes c e = takes c.mask)
    (hA : t.rpt.counterA = countEvent s.image.counterA e s.rpt.counterA)
    (hB : t.rpt.counterB = countEvent s.image.counterB e s.rpt.counterB) : counted code takes s t := by
  refine ⟨fun hsel => ?_, fun hsel => ?_⟩
  · rw [hA, countEvent, htakes _ hsel, satAdd_eq]
  · rw [hB, countEvent, htakes _ hsel, satAdd_eq]

theorem counterTakes_txSent (c : CounterConfig) (h : c.event = 3) : counterTakes c .txSent = true := by
  simp [counterTakes, h, diagCode, qualifierBit]

theorem counterTakes_ccaBusy (c : CounterConfig) (h : c.event = 5) : counterTakes c .ccaBusy = true := by
  simp [counterTakes, h, diagCode, qualifierBit]

theorem counterTakes_rxDrop (r : DropReason) (c : CounterConfig) (h : c.event = 2) :
    counterTakes c (.rxDrop r) = c.mask.getLsbD (dropReasonBit r) := by
  simp [counterTakes, h, diagCode, qualifierBit]

theorem counterTakes_rxAccept (kind : Nat) (c : CounterConfig) (h : c.event = 1) :
    counterTakes c (.rxAccept kind) = c.mask.getLsbD (kind - 1) := by
  simp [counterTakes, h, diagCode, qualifierBit]

/-! ### The report schedule (R21 to R28) -/

theorem holdoffEnds_iff {s : State} {n : Nat} (ha : s.rpt.activity = .holdoff) (hn : s.rpt.holdoffLeft = some n) :
    s.holdoffEnds = true ↔ n ≤ 1 := by
  simp [State.holdoffEnds, ha, hn, lastMs]

theorem seedOf_eq {estimate own : Nat} (hown : own ≤ 4095) (h0 : own ≠ 0) :
    seedOf estimate own = BitVec.ofNat 16 (estimate % 16 * 4096 + own) := by
  rw [seedOf, Nat.mod_eq_of_lt (show own < 4096 by omega), if_neg (by omega)]

/-- Settles O38: the seed's draw and the holdoff's two sides. -/
theorem seedAndHoldoffBeginReporting : Obligations.SeedAndHoldoffBeginReporting := by
  intro s level hp ha
  refine ⟨fun hleft hown h0 => ?_, fun n hn => ?_⟩
  · have hexec : exec (.lfsrSeedTaken level) s = .next (s.takeSeed level) := by
      rw [exec, execLfsrSeedTaken, if_pos ⟨ha, hleft⟩, whenRunning_of_running hp]
    refine answers_of_exec hexec ⟨?_, rfl, by simp [reachesOnly_iff, State.takeSeed, State.onRpt, State.onRxc]⟩
    simp only [State.takeSeed, State.onRpt, State.onRxc, seedOf_eq hown h0]
  · split
    · rw [exec, execHoldoffExpires, if_pos ((holdoffEnds_iff ha hn).2 ‹_›), whenRunning_of_running hp]
      rfl
    · rw [exec, execHoldoffExpires, if_neg (mt (holdoffEnds_iff ha hn).1 ‹_›)]

theorem clockReaches_of_reached {s : State} {c : Nat} (ha : s.rpt.activity ≠ .sending) (hc : s.rpt.sinceStart = some c)
    (h : s.period ≤ c) : s.clockReaches = true := by
  simp [State.clockReaches, ha, hc, Nat.le_succ_of_le h]

theorem clockReaches_of_sending {s : State} (ha : s.rpt.activity = .sending) : s.clockReaches = false := by
  simp [State.clockReaches, ha]

theorem clockReaches_of_before {s : State} (h : ∀ c, s.rpt.sinceStart = some c → c + 1 < s.period) : s.clockReaches = false := by
  cases hc : s.rpt.sinceStart with
  | none => simp [State.clockReaches, hc]
  | some c => simp [State.clockReaches, hc, h c hc]

theorem spacingHolds_of {s : State} (h : ∀ c, s.rpt.sinceStart = some c → 50 ≤ c) : s.spacingHolds = true := by
  unfold State.spacingHolds
  split
  · exact decide_eq_true (h _ ‹_›)
  · rfl

/-- The end of a transmission counts TX_SENT and gives the receiver an estimate (R28, R3). -/
theorem exec_transmissionEnd {s : State} (hp : s.power = .running) (ha : s.rpt.activity = .sending) (hair : s.rpt.airLeft ≤ 1000) :
    exec .transmissionEnd s = .next s.sendDone := by
  rw [exec, execTransmissionEnd, if_pos (by simp [State.airEnds, ha, hair]), whenRunning_of_running hp]

theorem sendDone_counted (s : State) : counted 3 (fun _ => true) s s.sendDone :=
  counted_of_countEvent counterTakes_txSent rfl rfl

/-- Settles O39: each command of the schedule by its own condition. -/
theorem reportScheduleRuns : Obligations.ReportScheduleRuns := by
  intro s hp
  refine ⟨fun c ha hc hdue => ?period, fun hnot => ?early, fun ha hdue hcredit hspacing => ?check, fun ha => ?backoff, fun ha hair => ?air,
    fun ha hair => ?sent⟩
  case period =>
    rw [exec, execReportPeriodDue, if_pos (clockReaches_of_reached ha hc hdue), whenRunning_of_running hp]
    simp only [State.clockDue, hc, State.makeDue, State.onRpt, max_eq_left hdue]
  case early =>
    have hno : s.clockReaches = false := hnot.elim clockReaches_of_sending clockReaches_of_before
    rw [exec, execReportPeriodDue, if_neg (by simp [hno])]
  case check =>
    have hmay : s.checkMayBegin = true := by
      simp [State.checkMayBegin, ha, hdue, spacingHolds_of hspacing, reportAirtime, hcredit]
    rw [exec, execClearChannelCheck, if_pos hmay, whenRunning_of_running hp]
    rfl
  case backoff =>
    have hends : s.backoffEnds = true ↔ s.rpt.backoffLeft ≤ 1000 := by simp [State.backoffEnds, ha]
    split
    · rw [exec, execBackoffExpires, if_pos (hends.2 ‹_›), whenRunning_of_running hp]
      rfl
    · rw [exec, execBackoffExpires, if_neg (mt hends.1 ‹_›)]
  case air => rw [exec, execTransmissionEnd, if_neg (by simp [State.airEnds]; omega)]
  case sent =>
    exact answers_of_exec (exec_transmissionEnd hp ha hair)
      ⟨rfl, rfl, rfl, rfl, sendDone_counted s, rfl, rfl,
        by simp [reachesOnly_iff, State.sendDone, State.onRpt, State.onRxc, State.signal]⟩

/-! ### The clear-channel check (R25 to R27) -/

theorem backOff_counted (s : State) (level : Nat) :
    counted 5 (fun _ => true) s (s.backOff.onRxc fun r => { r with estimate := some level }) :=
  counted_of_countEvent counterTakes_ccaBusy rfl rfl

/-- Settles O41: the two outcomes of the check. -/
theorem clearChannelDecidesTheReport : Obligations.ClearChannelDecidesTheReport := by
  intro s first second hp ha
  have hexec : exec (.ccaComplete first second) s = .next (s.finishCheck first second) := by
    rw [exec, execCcaComplete, if_pos ha, whenRunning_of_running hp]
  refine ⟨fun hclear => ?_, fun hbusy => ?_⟩
  · rw [hexec, State.finishCheck, if_pos (max_lt hclear.1 hclear.2)]
    rfl
  · rw [State.finishCheck, if_neg (mt max_lt_iff.1 hbusy)] at hexec
    exact answers_of_exec hexec ⟨rfl, rfl, rfl, rfl, rfl, backOff_counted s _, rfl,
      by simp [reachesOnly_iff, State.backOff, State.onRpt, State.onRxc, State.signal]⟩

/-! ### Occupancy samples (R32) -/

theorem sampleAdds_eq (c : CounterConfig) (v : Nat) :
    sampleAdds c v = if c.threshold = 0 then v else if (c.invert = true ↔ v < c.threshold) then 1 else 0 := by
  unfold sampleAdds
  by_cases h0 : c.threshold = 0
  · simp [h0]
  · cases c.invert <;> simp [h0]

theorem sampled_of_value {s : State} {base : SampleBase} {c : CounterConfig} {v : Nat} (h : s.occupancyValue base c = some v) (n : Nat) :
    s.sampled base c n =
      min 65535 (n + (if c.threshold = 0 then v else if (c.invert = true ↔ v < c.threshold) then 1 else 0)) := by
  rw [State.sampled, h]
  simp only [satAdd_eq, sampleAdds_eq, Nat.min_comm]

theorem sampled_of_none {s : State} {base : SampleBase} {c : CounterConfig} (h : s.occupancyValue base c = none) (n : Nat) :
    s.sampled base c n = n := by
  rw [State.sampled, h]

/-- A counter's sample is the statement's. -/
theorem sampledAs_sampled (s : State) (base : SampleBase) (c : CounterConfig) (n : Nat) :
    sampledAs base c s n (s.sampled base c n) := by
  constructor
  · rintro v (⟨rfl, hc, rfl⟩ | ⟨rfl, hc, rfl⟩ | ⟨rfl, hc, rfl⟩ | ⟨rfl, hc, rfl⟩) <;> refine sampled_of_value ?_ n
    · rw [State.occupancyValue, if_pos hc, State.waitsForCredit, flagBit]
      refine congrArg some (if_congr ?_ rfl rfl)
      simp only [Bool.and_eq_true, beq_iff_eq, decide_eq_true_iff, and_assoc]
      exact Iff.rfl
    · simp [State.occupancyValue, hc]
    · simp [State.occupancyValue, hc, flagBit]
    · simp [State.occupancyValue, hc]
  · intro hms hhundred
    refine sampled_of_none ?_ n
    cases base with
    | everyMs =>
      have hother := hms rfl
      simp only [List.mem_cons, List.not_mem_nil, or_false, not_or] at hother
      simp [State.occupancyValue, hother.1, hother.2.1, hother.2.2]
    | everyHundredMs => simp [State.occupancyValue, hhundred rfl]

/-- Settles O42: both counters by `sampledAs_sampled`. -/
theorem occupancySamplesAreCounted : Obligations.OccupancySamplesAreCounted := by
  intro s base hp
  have hexec : exec (.occupancySample base) s = .next (s.sampleOccupancy base) := by
    rw [exec, execOccupancySample, whenRunning_of_running hp]
  exact answers_of_exec hexec ⟨sampledAs_sampled s base _ _, sampledAs_sampled s base _ _, rfl, rfl, rfl,
    by simp [reachesOnly_iff, State.sampleOccupancy, State.onRpt]⟩

/-! ### The header (R4, R7) -/

theorem receiverOn_of_not_sending {s : State} (hp : s.power = .running) (ha : s.rpt.activity ≠ .sending) : s.receiverOn = true := by
  simp [State.receiverOn, hp, ha]

theorem headerFails_eq_false_iff {own : Nat} {b : HeaderBytes} :
    headerFails own b = false ↔
      b.b5 = b.b0 ^^^ b.b1 ^^^ b.b2 ^^^ b.b3 ^^^ b.b4 ^^^ 0x5A#8 ∧ headerSource b ≠ 0 ∧ headerSource b < 4000
        ∧ ¬(headerKind b = 4 ∧ headerSource b = own) := by
  have hsource : headerSource b ≤ 4095 := by
    have h1 := b.b1.isLt
    have h2 := b.b2.isLt
    unfold headerSource
    omega
  simp [headerFails, headerCheck, hsource, and_assoc]

/-- A drop outside a collection counts at the receiver and RPT alone (R7, R31). -/
theorem dropFrame_rxc (r : DropReason) (s : State) :
    (s.dropFrame r).rxc = { s.rxc with dropped := min (s.rxc.dropped + 1) 255 } := by
  simp only [State.dropFrame, State.signal, State.onRpt, State.onRxc, satAdd_eq]

theorem dropFrame_counted (r : DropReason) (s : State) :
    counted 2 (fun mask => mask.getLsbD (dropReasonBit r)) s (s.dropFrame r) :=
  counted_of_countEvent (counterTakes_rxDrop r) rfl rfl

/-- Settles O18: the channel test, then the HEADER test. -/
theorem headerTestDecidesCollection : Obligations.HeaderTestDecidesCollection := by
  intro ch b l s hp ha hcol
  have hexec : exec (.headerComplete ch b l) s = .next (if ch.val = s.image.identity.channel then s.takeHeader b l else s) := by
    simp [exec, execHeaderComplete, receiverOn_of_not_sending hp ha, hcol]
  refine ⟨fun hch => by rw [hexec, if_neg hch], fun hch hpass => ?_, fun hch hfail => ?_⟩
  · rw [hexec, if_pos hch, State.takeHeader, headerFails_eq_false_iff.2 hpass]
    rfl
  · have hfails : headerFails s.ownId b = true := by
      rw [← Bool.not_eq_false]
      exact mt headerFails_eq_false_iff.1 hfail
    have hdrop : s.takeHeader b l = s.dropFrame .header := by
      rw [State.takeHeader, if_pos hfails, hp]
    rw [if_pos hch, hdrop] at hexec
    exact answers_of_exec hexec ⟨dropFrame_rxc _ s, by simp [reachesOnly_iff], dropFrame_counted .header s⟩

/-! ### Tests 2 to 5 (R7 to R9) -/

/-- What a frame of a kind is dispatched to; an undefined kind to nothing. -/
def frameDispatch (kind : Nat) (startAnswers : Bool) (payload : List Byte) : FrameInfo → State → State :=
  match kind with
  | 1 => State.dispatchThrottle payload
  | 2 => State.dispatchConsist payload
  | 3 => State.dispatchBeacon payload
  | 4 => State.dispatchLoco payload
  | 5 => State.dispatchService (startAnswers && serviceOp payload == 3) payload
  | _ => fun _ t => t

/-- The row of a kind completes a frame of that kind, and dispatches it. -/
theorem exec_frameRow (kind : Nat) (payload : List Byte) (crc : BitVec 16) (ans : Bool) (s : State) :
    ∃ kinds : Nat → Bool, kinds kind = true ∧
      exec (frameRow kind payload crc ans) s = .next (s.takeFrame kinds payload crc (frameDispatch kind ans payload)) := by
  unfold frameRow
  split
  · exact ⟨_, rfl, rfl⟩
  · exact ⟨_, rfl, rfl⟩
  · exact ⟨_, rfl, rfl⟩
  · exact ⟨_, rfl, rfl⟩
  · split
    next hop => exact ⟨fun k => k == 5 && serviceOp payload == 1, by simp [hop], by simp [exec, execServiceWrite, frameDispatch, hop]⟩
    next hop => exact ⟨fun k => k == 5 && serviceOp payload == 2, by simp [hop], by simp [exec, execServiceClearFaults, frameDispatch, hop]⟩
    next hop => exact ⟨fun k => k == 5 && serviceOp payload == 3, by simp [hop], by simp [exec, execServiceRestart, frameDispatch, hop]⟩
    next h1 h2 h3 =>
      have hop : serviceOp payload < 1 ∨ 3 < serviceOp payload := by
        have h1' : serviceOp payload ≠ 1 := h1
        have h2' : serviceOp payload ≠ 2 := h2
        have h3' : serviceOp payload ≠ 3 := h3
        omega
      have hne : (serviceOp payload == 3) = false := beq_eq_false_iff_ne.2 h3
      exact ⟨fun k => k == 5 && (serviceOp payload < 1 || 3 < serviceOp payload), by simpa using hop,
        by simp [exec, execServiceOtherOp, frameDispatch, hne]⟩
  next h1 h2 h3 h4 h5 =>
    have hk : undefinedKind kind = true := by
      have h1' : kind ≠ 1 := h1
      have h2' : kind ≠ 2 := h2
      have h3' : kind ≠ 3 := h3
      have h4' : kind ≠ 4 := h4
      have h5' : kind ≠ 5 := h5
      simp [undefinedKind]
      omega
    have hnone : frameDispatch kind ans payload = fun _ t => t := by
      unfold frameDispatch
      split <;> first | rfl | contradiction
    exact ⟨undefinedKind, hk, by rw [hnone]; rfl⟩

theorem frameRow_of_undefined {kind : Nat} (h : kind < 1 ∨ 5 < kind) (payload : List Byte) (crc : BitVec 16) (ans : Bool) :
    frameRow kind payload crc ans = .undefinedKindFrame payload crc := by
  unfold frameRow
  split <;> first | rfl | omega

theorem dropReason_of_undefined {layout : Nat} {h : HeaderBytes} (hk : headerKind h < 1 ∨ 5 < headerKind h) (payload : List Byte)
    (crc : BitVec 16) : dropReason layout h payload crc = some .layout ∨ dropReason layout h payload crc = some .kind := by
  unfold dropReason
  split
  · exact .inl rfl
  · exact .inr rfl

/-- A frame that fails a test is dropped and its event closed. -/
theorem takeFrame_dropped {kinds : Nat → Bool} {payload : List Byte} {crc : BitVec 16} {dispatch : FrameInfo → State → State} {s : State}
    {h : Collected} {r : DropReason} (hp : s.power = .running) (ha : s.rpt.activity ≠ .sending) (hcol : s.rxc.collecting = some h)
    (hlen : payload.length = 2 * headerWords h.bytes) (hk : kinds (headerKind h.bytes) = true)
    (hr : dropReason s.image.identity.layout h.bytes payload crc = some r) :
    s.takeFrame kinds payload crc dispatch = (s.hunting.dropFrame r).close s := by
  have hcompleted : s.completed kinds payload = some h := by
    simp [State.completed, receiverOn_of_not_sending hp ha, hcol, hk, hlen]
  have hr' : dropReason s.hunting.image.identity.layout h.bytes payload crc = some r := hr
  simp only [State.takeFrame, hcompleted, hp]
  change (s.hunting.judgeFrame h payload crc dispatch).close s = _
  rw [State.judgeFrame, hr']

/-- What a dropped frame's event leaves (R7, R31). -/
theorem dropped_event {s : State} (hp : s.power = .running) (r : DropReason) :
    ((s.hunting.dropFrame r).close s).rxc = { s.rxc with collecting := none, dropped := min (s.rxc.dropped + 1) 255 }
      ∧ counted 2 (fun mask => mask.getLsbD (dropReasonBit r)) s ((s.hunting.dropFrame r).close s)
      ∧ reachesOnly (.rxc :: settlingBlocks) s ((s.hunting.dropFrame r).close s)
      ∧ motionKept s ((s.hunting.dropFrame r).close s) := by
  have hsettle : (s.hunting.dropFrame r).close s = (s.hunting.dropFrame r).settle s := close_of_running (by simpa using hp)
  have hcounted : counted 2 (fun mask => mask.getLsbD (dropReasonBit r))
      (s.hunting.onRxc fun x => { x with dropped := satAdd x.dropped 1 255 }) ((s.hunting.dropFrame r).close s) :=
    counted_of_signal (codes := []) (more := []) (counterTakes_rxDrop r) .rfl (close_carries ..) (by decide) (by decide)
  have hdrop : reachesOnly (.rxc :: settlingBlocks) s (s.hunting.dropFrame r) := by simp [reachesOnly_iff, settlingBlocks]
  refine ⟨?_, hcounted, ?_, ?_⟩
  · rw [hsettle, show ∀ u : State, (u.settle s).rxc = u.rxc from fun u => by simp, dropFrame_rxc]
    rfl
  · rw [hsettle]
    exact hdrop.trans (reachesOnly_settle s _) (by decide)
  · rw [hsettle]
    exact motionKept_settle (motionKept_of_spr_eq (by simp))

theorem exec_of_dropped {s : State} {h : Collected} {payload : List Byte} {crc : BitVec 16} {ans : Bool} {r : DropReason}
    (hp : s.power = .running) (ha : s.rpt.activity ≠ .sending) (hcol : s.rxc.collecting = some h)
    (hlen : payload.length = 2 * headerWords h.bytes) (hr : dropReason s.image.identity.layout h.bytes payload crc = some r) :
    exec (frameRow (headerKind h.bytes) payload crc ans) s = .next ((s.hunting.dropFrame r).close s) := by
  obtain ⟨kinds, hk, hexec⟩ := exec_frameRow (headerKind h.bytes) payload crc ans s
  rw [hexec, takeFrame_dropped hp ha hcol hlen hk hr]

/-- The accepted RESTART: addressed to the own ID, at a standing part under PARKED or DRIVER with no write in flight (R170). -/
def restartAccepted (s : State) (dest : Nat) (payload : List Byte) : Prop :=
  serviceOp payload = 3 ∧ dest = s.ownId ∧ s.spr.stopped = true ∧ (s.head = .parked ∨ s.head = .driver) ∧ s.cfg.writing = none

theorem hear_serviceFields (info : FrameInfo) (role : PeerRole) (rec : Option LocoRecord) (s : State) :
    (s.hear info role rec).spr = s.spr ∧ (s.hear info role rec).head = s.head ∧ (s.hear info role rec).cfg = s.cfg := by
  simp [State.head]

/-- A service operation that is no accepted RESTART carries over (R170, R173). -/
theorem dispatchService_carries {codes : List Nat} (seven : 7 ∈ codes) {startAnswers : Bool} {payload : List Byte} {info : FrameInfo}
    {s : State} (h : ¬restartAccepted s info.dest payload) : Carries codes s (State.dispatchService startAnswers payload info s) := by
  unfold State.dispatchService
  split
  next hdest =>
    obtain ⟨hspr, hhead, hcfg⟩ := hear_serviceFields info .tool none s
    rcases takeService_carries startAnswers (serviceData payload) (s.hear info .tool none) with hc | ⟨-, hop, hstop, hctx, hwrite⟩
    · exact (hear_carries seven ..).trans hc
    · refine absurd ⟨hop, hdest, hspr ▸ hstop, ?_, hcfg ▸ hwrite⟩ h
      simpa [contextAllows, hhead] using hctx
  next => exact .rfl

/-- The dispatch of an accepted frame that is no accepted RESTART carries over. -/
theorem frameDispatch_carries {kind : Nat} {startAnswers : Bool} {payload : List Byte} {info : FrameInfo} {s : State}
    (h : ¬(kind = 5 ∧ restartAccepted s info.dest payload)) :
    Carries [7, 13, 14] s (frameDispatch kind startAnswers payload info s) := by
  unfold frameDispatch
  split
  · exact dispatchThrottle_carries (by decide) (by decide) ..
  · exact dispatchConsist_carries ..
  · exact dispatchBeacon_carries (by decide) ..
  · exact dispatchLoco_carries (by decide) ..
  · exact dispatchService_carries (by decide) fun hr => h ⟨rfl, hr⟩
  · exact .rfl

/-- What an accepted frame's event leaves at the receiver and the counters (R9, R31). -/
theorem accepted_event {kind : Nat} {s t : State} (h : Carries [7, 13, 14] (s.accepted kind) t) :
    t.rxc.accepted = min (s.rxc.accepted + 1) 255 ∧ t.rxc.dropped = s.rxc.dropped ∧ t.rxc.collecting = none
      ∧ counted 1 (fun mask => mask.getLsbD (kind - 1)) s t := by
  have hcounted : counted 1 (fun mask => mask.getLsbD (kind - 1))
      (s.hunting.onRxc fun x => { x with accepted := satAdd x.accepted 1 255 }) t :=
    counted_of_signal (codes := []) (counterTakes_rxAccept kind) .rfl h (by decide) (by decide)
  have hchannel := h.channel
  simp only [Rxc.channel, accepted_rxc, Prod.mk.injEq, satAdd_eq] at hchannel
  obtain ⟨hcol, -, hacc, hdrop⟩ := hchannel
  exact ⟨hacc, hdrop, hcol, hcounted⟩

/-- Settles O19: a drop by `dropped_event`, an acceptance by `accepted_event`. -/
theorem receiveTestsDropOrAccept : Obligations.ReceiveTestsDropOrAccept := by
  refine ⟨fun s h payload crc ans hp ha hcol hlen => ⟨(dropReason_of_undefined · payload crc), fun hfails => ?_, fun hk => ?_⟩,
    fun s kind h payload crc ans harr h1 h5 hrestart => ?_⟩
  · obtain ⟨r, hr⟩ := Option.ne_none_iff_exists'.1 hfails
    obtain ⟨hrxc, hcounted, hreach, hmotion⟩ := dropped_event hp r
    refine answers_of_exec (exec_of_dropped hp ha hcol hlen hr) ⟨hrxc, fun r' hr' => ?_, hreach, hmotion⟩
    obtain rfl : r = r' := Option.some.inj (hr.symm.trans hr')
    cases r <;> exact hcounted
  · obtain ⟨r, hr⟩ : ∃ r, dropReason s.image.identity.layout h.bytes payload crc = some r :=
      (dropReason_of_undefined hk payload crc).elim (⟨_, ·⟩) (⟨_, ·⟩)
    obtain ⟨hrxc, -, hreach, hmotion⟩ := dropped_event hp r
    have hexec := exec_of_dropped (ans := false) hp ha hcol hlen hr
    rw [frameRow_of_undefined hk] at hexec
    exact answers_of_exec hexec ⟨hrxc, hreach, hmotion⟩
  · obtain ⟨kinds, hk, hexec⟩ := exec_frameRow kind payload crc ans s
    rw [takeFrame_of_arrives harr h1 h5 hk] at hexec
    have hno : ¬(kind = 5 ∧ restartAccepted (s.accepted kind) (headerDest h.bytes) payload) := fun ⟨hkind, hacc⟩ => by
      refine hrestart ⟨hkind, ?_⟩
      simpa [restartAccepted, State.ownId, State.head] using hacc
    exact answers_of_exec hexec (accepted_event ((frameDispatch_carries hno).trans (close_carries ..)))

end Sys2Proof.Machine
end

section
/-! The report's bytes, read back: each field from its word, and the receive tests on its header (R5, R10, R12). -/

namespace Sys2Proof.Machine

/-! ### Fields of words -/

theorem toByte_toNat (n : Nat) : (toByte n).toNat = n % 256 := by simp [toByte]

theorem word_of_bytes {n : Nat} (h : n < 65536) : (toByte (n / 256)).toNat * 256 + (toByte n).toNat = n := by
  simp only [toByte_toNat]
  omega

theorem flagBit_eq (b : Bool) (w : Nat) : flagBit b w = b.toNat * w := by
  cases b <;> simp [flagBit]

theorem flag_of_toNat {b : Bool} {n : Nat} (h : n = b.toNat) : (n == 1) = b := by
  subst h
  cases b <;> rfl

theorem direction_of_toNat {d : Direction} {n : Nat} (h : n = (d == .forward).toNat) :
    (if n = 1 then Direction.forward else .reverse) = d := by
  subst h
  cases d <;> rfl

theorem packBits_lt (bits : List Bool) : packBits bits < 2 ^ bits.length := by
  induction bits with
  | nil => decide
  | cons b bits ih =>
    rw [packBits, List.length_cons, pow_succ]
    split <;> omega

/-! ### The published values' ranges -/

theorem faultSummary_lt (s : State) : s.faultSummary < 256 := by
  unfold State.faultSummary
  exact (packBits_lt _).trans_le (by simp)

theorem aspectHeld_cases (s : State) : s.aspectHeld ≤ 3 ∨ s.aspectHeld = 15 := by
  unfold State.aspectHeld
  split
  next r _ =>
    left
    cases r.aspect <;> decide
  next => exact .inr rfl

theorem code_le (l : Level) : l.code ≤ 4 := by cases l <;> decide

theorem supplyCode_le (st : SupplyState) : supplyCode st ≤ 2 := by cases st <;> decide

theorem statusCode_le (st : ServiceStatus) : statusCode st ≤ 6 := by cases st <;> decide

theorem periodCode_le (s : State) : s.periodCode ≤ 5 := by
  unfold State.periodCode
  split
  · decide
  · split <;> decide

theorem positionCode_cases {p : Option Nat} (h : ∀ q, p = some q → q ≤ 5) : positionCode p ≤ 5 ∨ positionCode p = 7 := by
  cases p with
  | none => exact .inr rfl
  | some q => exact .inl (h q rfl)

/-! ### The header (R12) -/

section Header

variable {s : State}

theorem reportHeader_kind (hl : s.image.identity.layout ≤ 15) :
    headerKind s.reportHeader = 4 ∧ headerLayout s.reportHeader = s.image.identity.layout := by
  have hb : s.reportHeader.b0.toNat = (4 * 16 + s.image.identity.layout) % 256 := toByte_toNat _
  simp only [headerKind, headerLayout, hb]
  omega

theorem reportHeader_source (h : s.ownId ≤ 3999) : headerSource s.reportHeader = s.ownId ∧ headerWords s.reportHeader = 9 := by
  have h1 : s.reportHeader.b1.toNat = s.ownId / 16 % 256 := toByte_toNat _
  have h2 : s.reportHeader.b2.toNat = (s.ownId % 16 * 16 + 9) % 256 := toByte_toNat _
  simp only [headerSource, headerWords, h1, h2]
  omega

theorem reportHeader_dest (s : State) : headerDest s.reportHeader = 4095 ∧ headerCode s.reportHeader = s.periodCode := by
  have h3 : s.reportHeader.b3.toNat = 4095 / 16 % 256 := toByte_toNat _
  have h4 : s.reportHeader.b4.toNat = (4095 % 16 * 16 + s.periodCode) % 256 := toByte_toNat _
  have hcode := periodCode_le s
  simp only [headerDest, headerCode, h3, h4]
  omega

theorem reportHeader_passes {other : Nat} (hother : s.ownId ≠ other) (h1 : 1 ≤ s.ownId) (h2 : s.ownId ≤ 3999) :
    headerFails other s.reportHeader = false := by
  rw [headerFails_eq_false_iff, (reportHeader_source h2).1]
  exact ⟨rfl, by omega, by omega, fun h => hother h.2⟩

theorem report_dropReason (hl : s.image.identity.layout ≤ 15) :
    dropReason s.image.identity.layout s.reportHeader s.reportPayload (crc16 (headerList s.reportHeader ++ s.reportPayload)) = none := by
  obtain ⟨hkind, hlayout⟩ := reportHeader_kind hl
  have hlen : s.reportPayload.length = 18 := rfl
  simp [dropReason, hkind, hlayout, hlen, leastWords]

end Header

/-! ### The payload's words (R10, R12) -/

/-- The words of the payload's first ten bytes. -/
def State.reportSection (s : State) : Nat := s.publishedSection * 16 + s.aspectHeld

def State.reportNext (s : State) : Nat := s.publishedNext * 16 + s.head.code * 2 + flagBit (s.spr.running == .forward) 1

def State.reportMotion (s : State) : Nat :=
  s.spr.ref / 16 * 64 + flagBit s.spr.stopped 32 + flagBit s.aut.driverLive.zeroLock 16 + flagBit (s.role == .lead) 8
    + flagBit (s.role == .follower) 4 + flagBit (smokeReady s.smk.state) 2

def State.reportSpeed (s : State) : Nat := s.mrg.y * 64 + supplyCode s.sup.state * 16 + statusCode s.cfg.status

def State.reportConsist (s : State) : Nat := s.consistId * 16 + positionCode s.position * 2

section Words

variable {s : State}

theorem report_words (h0 : s.reportSection < 65536) (h2 : s.reportNext < 65536) (h4 : s.reportMotion < 65536)
    (h6 : s.reportSpeed < 65536) (h8 : s.reportConsist < 65536) :
    word16 s.reportPayload 0 = s.reportSection ∧ word16 s.reportPayload 2 = s.reportNext ∧ word16 s.reportPayload 4 = s.reportMotion
      ∧ word16 s.reportPayload 6 = s.reportSpeed ∧ word16 s.reportPayload 8 = s.reportConsist
      ∧ byteAt s.reportPayload 10 = s.faultSummary :=
  ⟨word_of_bytes h0, word_of_bytes h2, word_of_bytes h4, word_of_bytes h6, word_of_bytes h8,
    (toByte_toNat _).trans (Nat.mod_eq_of_lt (faultSummary_lt s))⟩

theorem reportSection_fields (h : s.publishedSection ≤ 4095) :
    s.reportSection < 65536 ∧ s.reportSection / 16 = s.publishedSection
      ∧ (if 4 ≤ s.reportSection % 16 then 15 else s.reportSection % 16) = s.aspectHeld := by
  have haspect := aspectHeld_cases s
  unfold State.reportSection
  refine ⟨by omega, by omega, ?_⟩
  split <;> omega

theorem reportNext_fields (h : s.publishedNext ≤ 4095) :
    s.reportNext < 65536 ∧ s.reportNext / 16 = s.publishedNext ∧ min (s.reportNext / 2 % 8) 4 = s.head.code
      ∧ (if s.reportNext % 2 = 1 then Direction.forward else .reverse) = s.spr.running := by
  have hcode := code_le s.head
  have hbit := Bool.toNat_le (s.spr.running == .forward)
  unfold State.reportNext
  rw [flagBit_eq]
  exact ⟨by omega, by omega, by omega, direction_of_toNat (by omega)⟩

theorem reportMotion_fields (h : s.spr.ref ≤ 16368) :
    s.reportMotion < 65536 ∧ s.reportMotion / 64 = s.spr.ref / 16 ∧ (s.reportMotion / 32 % 2 == 1) = s.spr.stopped
      ∧ (s.reportMotion / 16 % 2 == 1) = s.aut.driverLive.zeroLock ∧ (s.reportMotion / 8 % 2 == 1) = (s.role == .lead)
      ∧ (s.reportMotion / 4 % 2 == 1) = (s.role == .follower) ∧ (s.reportMotion / 2 % 2 == 1) = smokeReady s.smk.state := by
  have h32 := Bool.toNat_le s.spr.stopped
  have h16 := Bool.toNat_le s.aut.driverLive.zeroLock
  have h8 := Bool.toNat_le (s.role == .lead)
  have h4 := Bool.toNat_le (s.role == .follower)
  have h2 := Bool.toNat_le (smokeReady s.smk.state)
  unfold State.reportMotion
  simp only [flagBit_eq]
  exact ⟨by omega, by omega, flag_of_toNat (by omega), flag_of_toNat (by omega), flag_of_toNat (by omega), flag_of_toNat (by omega),
    flag_of_toNat (by omega)⟩

theorem reportSpeed_fields (h : s.mrg.y ≤ 1023) :
    s.reportSpeed < 65536 ∧ s.reportSpeed / 64 = s.mrg.y ∧ min (s.reportSpeed / 16 % 4) 2 = supplyCode s.sup.state
      ∧ s.reportSpeed % 16 = statusCode s.cfg.status := by
  have hsupply := supplyCode_le s.sup.state
  have hstatus := statusCode_le s.cfg.status
  unfold State.reportSpeed
  exact ⟨by omega, by omega, by omega, by omega⟩

theorem reportConsist_fields (h : s.consistId ≤ 4095) (hpos : ∀ p, s.position = some p → p ≤ 5) :
    s.reportConsist < 65536 ∧ s.reportConsist / 16 = s.consistId
      ∧ (if s.reportConsist / 2 % 8 = 6 then 7 else s.reportConsist / 2 % 8) = positionCode s.position := by
  have hposition := positionCode_cases hpos
  unfold State.reportConsist
  refine ⟨by omega, by omega, ?_⟩
  split <;> omega

end Words

/-- Settles O17: the header's tests, then each word's fields. -/
theorem reportReadsBackAsPublished : Obligations.ReportReadsBackAsPublished := by
  intro s other hother hown hid hlayout hsect hnext hconsist href hy hpos
  obtain ⟨hkind, -⟩ := reportHeader_kind hlayout
  obtain ⟨hsource, hwords⟩ := reportHeader_source hid
  obtain ⟨hdest, hcode⟩ := reportHeader_dest s
  refine ⟨reportHeader_passes hother hown hid, report_dropReason hlayout, rfl, hkind, hsource, hdest, hwords, hcode, ?_, rfl⟩
  obtain ⟨b0, f0, f1⟩ := reportSection_fields hsect
  obtain ⟨b2, f2, f3, f4⟩ := reportNext_fields hnext
  obtain ⟨b4, f5, f6, f7, f8, f9, f10⟩ := reportMotion_fields href
  obtain ⟨b6, f11, f12, f13⟩ := reportSpeed_fields hy
  obtain ⟨b8, f14, f15⟩ := reportConsist_fields hconsist hpos
  obtain ⟨w0, w2, w4, w6, w8, w10⟩ := report_words b0 b2 b4 b6 b8
  simp only [locoData, w0, w2, w4, w6, w8, w10, f0, f1, f2, f3, f4, f5, f6, f7, f8, f9, f10, f11, f12, f13, f14, f15]

end Sys2Proof.Machine
end

section
/-! The speed curve: one formula for every step but 0, its bounds by the knots, and its monotony (R90, R91). -/

namespace Sys2Proof.Machine

/-- The curve between the knot below a step and the next one. -/
def curveFrom (knots : List Nat) (k r : Nat) : Nat := knots.getD k 0 + ((knots.getD (k + 1) 0 - knots.getD k 0) * r + 4) / 9

/-- At a knot the interpolated rise is 0, so that one formula serves both lines of the curve. -/
theorem curve_eq {knots : List Nat} {step : Nat} (h : step ≠ 0) : curve knots step = curveFrom knots (step / 9) (step % 9) := by
  rw [curve, if_neg h, curveFrom]
  split
  next h0 => simp [h0]
  next => rfl

theorem curve_of_parts {knots : List Nat} {k r : Nat} (hr : r ≤ 8) (h : 9 * k + r ≠ 0) :
    curve knots (9 * k + r) = curveFrom knots k r := by
  rw [curve_eq h, show (9 * k + r) / 9 = k by omega, show (9 * k + r) % 9 = r by omega]

theorem le_curveFrom (knots : List Nat) (k r : Nat) : knots.getD k 0 ≤ curveFrom knots k r := Nat.le_add_right ..

theorem curveFrom_mono (knots : List Nat) (k : Nat) {r q : Nat} (h : r ≤ q) : curveFrom knots k r ≤ curveFrom knots k q :=
  Nat.add_le_add_left (Nat.div_le_div_right (Nat.add_le_add_right (Nat.mul_le_mul_left _ h) 4)) _

/-- Within a segment the curve stays below the next knot, where the knots do not fall. -/
theorem curveFrom_le {knots : List Nat} {k r : Nat} (hr : r ≤ 8) (h : knots.getD k 0 ≤ knots.getD (k + 1) 0) :
    curveFrom knots k r ≤ knots.getD (k + 1) 0 := by
  have hprod : (knots.getD (k + 1) 0 - knots.getD k 0) * r ≤ (knots.getD (k + 1) 0 - knots.getD k 0) * 8 := Nat.mul_le_mul_left _ hr
  unfold curveFrom
  omega

theorem knots_mono {knots : List Nat} (h : knots.Pairwise (· ≤ ·)) {i j : Nat} (hij : i ≤ j) (hj : j < knots.length) :
    knots.getD i 0 ≤ knots.getD j 0 := by
  rw [List.getD_eq_getElem _ _ (by omega), List.getD_eq_getElem _ _ hj]
  rcases hij.eq_or_lt with rfl | hlt
  · exact le_rfl
  · exact List.pairwise_iff_getElem.1 h i j (by omega) hj hlt

/-- Settles O43: the knots and segments by `curve_of_parts`; the monotony by the segments of the two steps. -/
theorem speedCurveNeverFalls : Obligations.SpeedCurveNeverFalls := by
  refine ⟨fun knots k r => ⟨rfl, fun h1 h14 => ?_, fun hk h1 h8 => curve_of_parts h8 (by omega)⟩,
    fun knots a b hlen hpair hab hb => ⟨?_, ?_⟩⟩
  · simpa [curveFrom] using curve_of_parts (knots := knots) (k := k) (r := 0) (by omega) (by omega)
  · rcases Nat.eq_zero_or_pos a with rfl | ha
    · exact Nat.zero_le _
    rw [curve_eq (by omega), curve_eq (by omega)]
    rcases (Nat.div_le_div_right hab : a / 9 ≤ b / 9).eq_or_lt with hseg | hseg
    · rw [hseg]
      exact curveFrom_mono knots _ (by omega)
    · calc
        curveFrom knots (a / 9) (a % 9) ≤ knots.getD (a / 9 + 1) 0 :=
          curveFrom_le (by omega) (knots_mono hpair (by omega) (by omega))
        _ ≤ knots.getD (b / 9) 0 := knots_mono hpair hseg (by omega)
        _ ≤ curveFrom knots (b / 9) (b % 9) := le_curveFrom ..
  · rcases Nat.eq_zero_or_pos b with rfl | hpos
    · exact Nat.zero_le _
    rw [curve_eq (by omega)]
    rcases hb.eq_or_lt with rfl | hlt
    · simp [curveFrom]
    · exact (curveFrom_le (by omega) (knots_mono hpair (by omega) (by omega))).trans (knots_mono hpair (by omega) (by omega))

end Sys2Proof.Machine
end

section
/-! The end of an event at AUT, case by case: a cause that stands keeps FAILSAFE, a context released in the settling is empty afterwards,
and a head that stays keeps its data. With it the expiries of links, dwell, hold and grace timers. -/

namespace Sys2Proof.Machine

/-! ### A standing cause -/

/-- A cause stands: FAILSAFE is claimed and no hold runs (R67, R68). -/
structure Alarmed (c : Cause) (a : Aut) : Prop where
  claimed : a.failsafe.claimed = true
  hold : a.hold = none
  cause : causeIn c a.causes = true

/-- A cause put into the set stands (R67). -/
theorem addCause_alarmed (c : Cause) {s : State} (hs : FailsafeLaw s.aut) : Alarmed c (s.addCause c).aut := by
  have hlaw := addCause_failsafeLaw c hs
  have hcause : causeIn c (s.addCause c).aut.causes = true := by rw [addCause_causes, causeIn_causePut]
  have hstands := causesEmpty_false_of_causeIn hcause
  refine ⟨hlaw.1.2 (.inl hstands), ?_, hcause⟩
  by_contra hh
  simpa [hstands] using hlaw.2 hh

theorem causesEmpty_without_stall {c : Cause} {k : CauseSet} (hc : c ≠ .stall) (h : causeIn c k = true) :
    causesEmpty { k with stall := false } = false := by
  apply causesEmpty_false_of_causeIn (c := c)
  cases c <;> first | exact h | exact absurd rfl hc

section Settle

variable {s s0 : State}

/-- The settled claims are the event's but for STALL, SIGNAL and a hold that has run out. -/
theorem settle_causes (s s0 : State) : (s.settle s0).aut.causes = (s.settleClaims s0.head).aut.causes ∧
    (s.settle s0).aut.hold = (s.settleClaims s0.head).aut.hold ∧
    (s.settle s0).aut.failsafe.claimed = (s.settleClaims s0.head).aut.failsafe.claimed ∧
    (s.settle s0).aut.signal.claimed = (s.settleClaims s0.head).aut.signal.claimed := by
  simp [State.settle]

/-- A cause other than STALL stands through the end of an event, with FAILSAFE at the head (R55, R67). -/
theorem Alarmed.settle {c : Cause} (h : Alarmed c s.aut) (hc : c ≠ .stall) :
    Alarmed c (s.settle s0).aut ∧ (s.settle s0).head = .failsafe := by
  obtain ⟨hf, hh, hlink, hlead, hmember, hsupply, hmotor⟩ :=
    settleClaims_standing s0.head s h.hold (causesEmpty_without_stall hc h.cause)
  obtain ⟨hcauses, hhold, hclaimed, -⟩ := settle_causes s s0
  have hfailsafe : (s.settle s0).aut.failsafe.claimed = true := by rw [hclaimed, hf, h.claimed]
  refine ⟨⟨hfailsafe, hhold.trans hh, ?_⟩, autHead_failsafe hfailsafe⟩
  rw [hcauses]
  have hcause := h.cause
  cases c with
  | linkLost => exact hlink.trans hcause
  | leadLost => exact hlead.trans hcause
  | member => exact hmember.trans hcause
  | supply => exact hsupply.trans hcause
  | motorFault => exact hmotor.trans hcause
  | stall => exact absurd rfl hc

/-! ### Released contexts -/

theorem signalTest_of_unclaimed {h0 : Level} (h : s.aut.signal.claimed = false) : s.signalTest h0 = s := by
  simp [State.signalTest, h]

theorem signalTest_of_not_done {h0 : Level} (h : signalDone (stopNow h0 s.aut) s.currentAspect = false) : s.signalTest h0 = s := by
  simp [State.signalTest, h]

/-- The settling of claims begins with SIGNAL's test, so that it is the settling of what that test leaves. -/
theorem settleClaims_of_signalTest {h0 : Level} (h : (s.signalTest h0).aut.signal.claimed = false) :
    s.settleClaims h0 = (s.signalTest h0).settleClaims h0 := by
  unfold State.settleClaims
  rw [signalTest_of_unclaimed h]

/-- SIGNAL's release empties its record (R52, R72). -/
theorem signalTest_of_done {h0 : Level} (hc : s.aut.signal.claimed = true)
    (h : signalDone (stopNow h0 s.aut) s.currentAspect = true) :
    (s.signalTest h0).aut = { s.aut with signal := {}, signalLive := {} } := by
  rw [signalTest_aut, if_pos ⟨hc, h⟩]

/-- A head that is neither the old nor the new one keeps its record through a change of head; so does a released old one. -/
theorem headChanged_signal {h0 l : Level} {a : Aut} (hl : l ≠ .signal) (h0c : h0 ≠ .signal ∨ a.signal.claimed = false) :
    (headChanged h0 l a).signal = a.signal := by
  have hpre : (preempt h0 a).signal = a.signal := by
    unfold preempt
    split
    next hclaimed =>
      cases h0 with
      | signal => exact absurd (h0c.resolve_left (· rfl)) (by simpa [autCtx] using hclaimed)
      | _ => rfl
    next => rfl
  rw [headChanged, ← hpre]
  cases l with
  | signal => exact absurd rfl hl
  | _ => rfl

theorem headChanged_failsafe {h0 l : Level} {a : Aut} (hl : l ≠ .failsafe) (h0c : h0 ≠ .failsafe ∨ a.failsafe.claimed = false) :
    (headChanged h0 l a).failsafe = a.failsafe := by
  have hpre : (preempt h0 a).failsafe = a.failsafe := by
    unfold preempt
    split
    next hclaimed =>
      cases h0 with
      | failsafe => exact absurd (h0c.resolve_left (· rfl)) (by simpa [autCtx] using hclaimed)
      | _ => rfl
    next => rfl
  rw [headChanged, ← hpre]
  cases l with
  | failsafe => exact absurd rfl hl
  | _ => rfl

/-- An unclaimed context's record outlasts the end of an event. -/
theorem settle_signal_of_unclaimed (h : (s.settleClaims s0.head).aut.signal.claimed = false) :
    (s.settle s0).aut.signal = (s.settleClaims s0.head).aut.signal ∧ (s.settle s0).head ≠ .signal := by
  have hne : (s.settleClaims s0.head).head ≠ .signal := by
    rw [State.head, Ne, autHead_signal]
    simp [h]
  obtain ⟨-, hsignal, -⟩ := settle_aut_records s s0
  refine ⟨hsignal.trans ?_, by rwa [settle_head]⟩
  rw [settledAut_eq]
  split
  · rfl
  · exact headChanged_signal hne (.inr h)

theorem settle_failsafe_of_unclaimed (h : (s.settleClaims s0.head).aut.failsafe.claimed = false) :
    (s.settle s0).aut.failsafe = (s.settleClaims s0.head).aut.failsafe ∧ (s.settle s0).head ≠ .failsafe := by
  have hne : (s.settleClaims s0.head).head ≠ .failsafe := autHead_ne_failsafe.2 h
  obtain ⟨hfailsafe, -⟩ := settle_aut_records s s0
  refine ⟨hfailsafe.trans ?_, by rwa [settle_head]⟩
  rw [settledAut_eq]
  split
  · rfl
  · exact headChanged_failsafe hne (.inr h)

/-- SIGNAL released by its test below no FAILSAFE is empty after the event. -/
theorem settle_signal_released (hf : s.aut.failsafe.claimed = false) (hc : s.aut.signal.claimed = true)
    (hdone : signalDone (stopNow s0.head s.aut) s.currentAspect = true) :
    (s.settle s0).aut.signal = {} ∧ (s.settle s0).head ≠ .signal := by
  have haut := signalTest_of_done hc hdone
  have hclaims := settleClaims_of_signalTest (s := s) (h0 := s0.head) (by rw [haut])
  obtain ⟨-, hsignal, -⟩ := settleClaims_quiet s0.head (s.signalTest s0.head) (by rw [haut]; exact hf) (by rw [haut])
  have hempty : (s.settleClaims s0.head).aut.signal = {} := by rw [hclaims, hsignal, haut]
  obtain ⟨hkept, hhead⟩ := settle_signal_of_unclaimed (s := s) (s0 := s0) (by rw [hempty])
  exact ⟨hkept.trans hempty, hhead⟩

/-- SIGNAL that has come to its stop and is not done stays at the head with its data (R71, R72). -/
theorem settle_signal_waits (h0 : s0.head = .signal) (hh : s.head = .signal) (hr : s.aut.signalLive.reached = true)
    (hwait : signalDone s.aut.signalLive s.currentAspect = false) :
    (s.settle s0).head = .signal ∧ (s.settle s0).aut.signalLive = s.aut.signalLive := by
  obtain ⟨hf, hc⟩ := autHead_signal.1 hh
  have h1 : s.signalTest .signal = s := signalTest_of_not_done hwait
  have hstall : (s.stallTest .signal).head = .signal := by
    rw [State.head, autHead_signal]
    simp [hf, hc]
  have hhold : (s.stallTest .signal).holdTest = s.stallTest .signal := by
    rw [State.holdTest, if_neg (by simp [hf])]
  have hreach : ((s.stallTest .signal).stopReachedTest .signal).aut = (s.stallTest .signal).aut := by
    rw [stopReachedTest_aut]
    split
    · have hr' : (s.stallTest .signal).aut.signalLive.reached = true := by simpa using hr
      simp only [putStop, stopNow, if_true]
      rw [← hr']
    · rfl
  have hdone : signalDone (stopNow .signal ((s.stallTest .signal).stopReachedTest .signal).aut)
      ((s.stallTest .signal).stopReachedTest .signal).currentAspect = false := by
    rw [hreach]
    simpa [stopNow, State.currentAspect] using hwait
  have hclaims : (s.settleClaims .signal).aut = (s.stallTest .signal).aut := by
    rw [State.settleClaims, h1, hhold, signalTest_of_not_done hdone, hreach]
  have hhead : (s.settleClaims .signal).head = .signal := by rw [State.head, hclaims]; exact hstall
  obtain ⟨-, -, -, -, -, -, -, hlive, -⟩ := settle_aut_records s s0
  refine ⟨by rw [settle_head, h0, hhead], hlive.trans ?_⟩
  rw [settledAut_eq, h0, if_pos hhead, hclaims]
  simp

/-! ### The hold's end (R68) -/

/-- The hold at 0 releases FAILSAFE with its set (R68). -/
theorem settleClaims_of_hold_over {h0 : Level} (hf : s.aut.failsafe.claimed = true) (hh : s.aut.hold = some 0)
    (hstall : s.aut.causes.stall = false) :
    (s.settleClaims h0).aut.failsafe = {} ∧ (s.settleClaims h0).aut.hold = none ∧ (s.settleClaims h0).aut.causes = {} := by
  have hkept : ((s.signalTest h0).stallTest h0).aut = (s.signalTest h0).aut := by
    rw [stallTest_aut, if_neg (by simp [hstall])]
  have hreleased : (((s.signalTest h0).stallTest h0).holdTest).aut =
      { (s.signalTest h0).aut with failsafe := {}, causes := {}, hold := none } := by
    rw [holdTest_aut, hkept, if_pos (by simp [hf, hh])]
  unfold State.settleClaims
  simp [hreleased]

/-- DRIVER that becomes the head by the release of FAILSAFE does so under zero-lock, with its saved step (R53, R64). -/
theorem headChanged_driver_after_failsafe {a : Aut} (hf : a.failsafe.claimed = false) :
    (headChanged .failsafe .driver a).driverLive.zeroLock = true
      ∧ (headChanged .failsafe .driver a).driverLive.step = a.driver.saved.target := by
  have hpre : preempt .failsafe a = a := by simp [preempt, autCtx, hf]
  simp [headChanged, hpre, loadSaved, markStarted, autSetCtx, autCtx]

end Settle

end Sys2Proof.Machine
end

section
/-! The expiries of links, SIGNAL's dwell, the FAILSAFE hold and the members' grace timers. -/

namespace Sys2Proof.Machine

/-- An event of a running part that ends at AUT answers its changes settled. -/
theorem exec_of_close {c : Instr} {s t : State} (h : exec c s = whenRunningClose s t) (hs : s.power = .running)
    (ht : t.power = s.power) : exec c s = .next (t.settle s) := by
  rw [h, whenRunningClose_of_running hs (ht.trans hs)]

/-! ### Link windows (R17, R18) -/

theorem linkRecord_setLinkRecord (l : Link) (k : LinkRecord) (r : Rxc) : linkRecord l (setLinkRecord l k r) = k := by
  cases l <;> rfl

theorem linkLost_rxc (l : Link) (s : State) :
    (s.linkLost l).rxc = setLinkRecord l { linkRecord l s.rxc with state := .lost, age := s.linkWindow l } s.rxc := by
  simp [State.linkLost]

theorem linkLost_alarmed (l : Link) {s : State} (hs : FailsafeLaw s.aut) : Alarmed (linkCause l) (s.linkLost l).aut :=
  addCause_alarmed (linkCause l) (s := s.onRxc _) hs

theorem linkLost_driver (l : Link) (s : State) : (s.linkLost l).aut.driver.claimed = s.aut.driver.claimed := by
  simp [State.linkLost]

/-- Settles O34: the expiry's guard, then the link's cause standing. -/
theorem linkWindowExpiryRaisesItsCause : Obligations.LinkWindowExpiryRaisesItsCause := by
  refine ⟨fun s l hage => ?_, fun s l hp hlaw hsource hstate hage => ?_⟩
  · have hno : linkExpires (s.linkWindow l) (linkRecord l s.rxc) = false := by simp [linkExpires, hage]
    rw [exec, execLinkWindowExpires, if_neg (by simp [hno])]
  have hdue : linkExpires (s.linkWindow l) (linkRecord l s.rxc) = true := by
    simp [linkExpires, hstate, hage, Option.isSome_iff_ne_none.2 hsource]
  have hexec : exec (.linkWindowExpires l) s = .next ((s.linkLost l).settle s) := by
    refine exec_of_close ?_ hp (by simp)
    rw [exec, execLinkWindowExpires, if_pos hdue]
  have hreach : reachesOnly (.rxc :: settlingBlocks) s (s.linkLost l) := by simp [reachesOnly_iff, settlingBlocks]
  obtain ⟨hstands, hhead⟩ := (linkLost_alarmed l hlaw).settle (s0 := s) (by cases l <;> decide)
  have hrxc : ((s.linkLost l).settle s).rxc = _ := (settle_frame s (s.linkLost l)).2.2.1.trans (linkLost_rxc l s)
  refine answers_of_exec hexec ⟨by rw [hrxc, linkRecord_setLinkRecord], ?_, hhead, hstands.hold, by simp [linkLost_driver],
    hreach.trans (reachesOnly_settle s _) (by simp), motionKept_settle (motionKept_of_spr_eq (by simp))⟩
  rw [hrxc]
  cases l with
  | driver => exact ⟨hstands.cause, rfl⟩
  | lead => exact ⟨hstands.cause, rfl⟩

/-! ### Dwell and hold (R68, R71, R72) -/

theorem dwellEnds_of {s : State} (hh : s.head = .signal) (hr : s.aut.signalLive.reached = true)
    (hd : s.aut.signalLive.dwell = some 1) : s.dwellEnds = true := by
  simp [State.dwellEnds, State.dwellCounts, lastMs, hh, hr, hd]

theorem dwellEnds_of_not {s : State} {n : Nat}
    (h : s.head ≠ .signal ∨ s.aut.signalLive.reached = false ∨ s.aut.signalLive.dwell = none
      ∨ (s.aut.signalLive.dwell = some n ∧ 1 < n)) : s.dwellEnds = false := by
  rcases h with h | h | h | ⟨h, hn⟩
  · simp [State.dwellEnds, State.dwellCounts, h]
  · simp [State.dwellEnds, State.dwellCounts, h]
  · simp [State.dwellEnds, State.dwellCounts, h]
  · simp [State.dwellEnds, lastMs, h, hn]

/-- A dwell that has run out leaves SIGNAL done unless it waits for an aspect that still is STOP (R72). -/
theorem dwellOver_done {k : StopState} (hr : k.reached = true) (aspect : Option Aspect) :
    signalDone { k with dwell := some 0 } aspect = true ↔ ¬(k.waitClear = true ∧ aspect = some .stop) := by
  cases hw : k.waitClear <;> simp [signalDone, hr]

/-- What ends at AUT alone, in its reach. -/
theorem settle_of_aut_reach {s t : State} (h : reachesOnly settlingBlocks s t) (hspr : t.spr = s.spr) :
    reachesOnly settlingBlocks s (t.settle s) ∧ motionKept s (t.settle s) :=
  ⟨h.trans (reachesOnly_settle s t) (by simp), motionKept_settle (motionKept_of_spr_eq hspr)⟩

theorem dwellDone_answer {s : State} (hh : s.head = .signal) (hr : s.aut.signalLive.reached = true) :
    if s.aut.signalLive.waitClear = true ∧ s.currentAspect = some .stop
      then (s.dwellDone.settle s).head = .signal ∧ (s.dwellDone.settle s).aut.signalLive = { s.aut.signalLive with dwell := some 0 }
      else (s.dwellDone.settle s).aut.signal = {} ∧ (s.dwellDone.settle s).head ≠ .signal := by
  have hiff := dwellOver_done hr s.currentAspect
  split
  next hwait =>
    exact settle_signal_waits (s := s.dwellDone) hh hh hr (Bool.not_eq_true _ ▸ mt hiff.1 (not_not.2 hwait))
  next hdone =>
    obtain ⟨hf, hc⟩ := autHead_signal.1 hh
    refine settle_signal_released (s := s.dwellDone) hf hc ?_
    rw [hh]
    exact hiff.2 hdone

theorem holdEnds_of {s : State} {n : Nat} (hlaw : FailsafeLaw s.aut) (hh : s.aut.hold = some n) (hn : n ≤ 1) : s.holdEnds = true := by
  have hclaimed : s.aut.failsafe.claimed = true := hlaw.1.2 (.inr (by simp [hh]))
  simp [State.holdEnds, hclaimed, hh, lastMs, hn]

theorem holdEnds_of_not {s : State} {n : Nat} (h : s.aut.hold = none ∨ (s.aut.hold = some n ∧ 1 < n)) : s.holdEnds = false := by
  rcases h with h | ⟨h, hn⟩
  · simp [State.holdEnds, lastMs, h]
  · simp [State.holdEnds, lastMs, h, hn]

/-- The hold's end releases FAILSAFE; a DRIVER that becomes the head does so under zero-lock (R68, R53, R64). -/
theorem holdDone_answer {s : State} {n : Nat} (hlaw : FailsafeLaw s.aut) (hh : s.aut.hold = some n) :
    (s.holdDone.settle s).aut.failsafe = {} ∧ (s.holdDone.settle s).aut.hold = none
      ∧ causesEmpty (s.holdDone.settle s).aut.causes = true ∧ (s.holdDone.settle s).head ≠ .failsafe
      ∧ ((s.holdDone.settle s).head = .driver → (s.holdDone.settle s).aut.driverLive.zeroLock = true
          ∧ (s.holdDone.settle s).aut.driverLive.step = s.aut.driver.saved.target) := by
  have hrunning : s.aut.hold ≠ none := by simp [hh]
  have hclaimed : s.aut.failsafe.claimed = true := hlaw.1.2 (.inr hrunning)
  have hstall : s.aut.causes.stall = false := (causesEmpty_iff _).1 (hlaw.2 hrunning) .stall
  obtain ⟨hf, hhold, hcauses⟩ := settleClaims_of_hold_over (s := s.holdDone) (h0 := s.head) hclaimed rfl hstall
  obtain ⟨hc, hht, -⟩ := settle_causes s.holdDone s
  obtain ⟨hft, hne⟩ := settle_failsafe_of_unclaimed (s := s.holdDone) (s0 := s) (by rw [hf])
  refine ⟨hft.trans hf, hht.trans hhold, by rw [hc, hcauses]; rfl, hne, fun hdriver => ?_⟩
  obtain ⟨-, -, -, -, -, hlive, -⟩ := settle_aut_records s.holdDone s
  have hfrom : s.head = .failsafe := autHead_failsafe hclaimed
  have hto : (s.holdDone.settleClaims s.head).head = .driver := by rw [← settle_head]; exact hdriver
  obtain ⟨hlock, hstep⟩ := headChanged_driver_after_failsafe (a := (s.holdDone.settleClaims s.head).aut) (by rw [hf])
  rw [hlive, settledAut_eq, hto, if_neg (by rw [hfrom]; decide), hfrom]
  rw [hfrom] at hlock hstep
  exact ⟨hlock, hstep.trans (by simp [State.holdDone])⟩

/-- Settles O36: each expiry by its guard and its answer. -/
theorem dwellAndHoldExpiriesRelease : Obligations.DwellAndHoldExpiriesRelease := by
  refine ⟨fun s hp hh hr hd => ?_, fun s n hnot => ?_, fun s n hnot => ?_, fun s n hp hlaw hh hn => ?_⟩
  · have hexec : exec .dwellExpires s = .next (s.dwellDone.settle s) := by
      refine exec_of_close ?_ hp (by simp)
      rw [exec, execDwellExpires, if_pos (dwellEnds_of hh hr hd)]
    exact answers_of_exec hexec ⟨dwellDone_answer hh hr,
      settle_of_aut_reach (by simp [reachesOnly_iff, settlingBlocks]) (by simp)⟩
  · rw [exec, execDwellExpires, if_neg (by simp [dwellEnds_of_not hnot])]
  · rw [exec, execFailsafeHoldExpires, if_neg (by simp [holdEnds_of_not hnot])]
  · have hexec : exec .failsafeHoldExpires s = .next (s.holdDone.settle s) := by
      refine exec_of_close ?_ hp (by simp)
      rw [exec, execFailsafeHoldExpires, if_pos (holdEnds_of hlaw hh hn)]
    obtain ⟨hf, hhold, hcauses, hne, hdriver⟩ := holdDone_answer hlaw hh
    exact answers_of_exec hexec ⟨hf, hhold, hcauses, hne, hdriver, by simp [State.holdDone], by simp [State.holdDone],
      settle_of_aut_reach (by simp [reachesOnly_iff, settlingBlocks]) (by simp)⟩

/-! ### Grace timers (R82, R83) -/

theorem graceEnds_iff {m : Nat} {ws : List Watch} : graceEnds m ws = true ↔ ∃ w ∈ ws, w.member = m ∧ lastMs w.grace = true := by
  simp [graceEnds]

/-- At the lead a member without a grace timer and without an entry raises MEMBER (R82, R83). -/
theorem memberTest_alarmed {s : State} {m : Nat} (hlaw : FailsafeLaw s.aut) (hrole : s.role = .lead)
    (hw : ∃ w ∈ s.csu.watches, w.member = m ∧ w.grace = none) (hpeer : peerOf m s.ptb.entries = none) :
    Alarmed .member s.memberTest.aut := by
  have hmissing : (s.csu.watches.any fun w => s.memberState w == .missing || s.memberState w == .inFailsafe) = true := by
    obtain ⟨w, hmem, rfl, hgrace⟩ := hw
    exact List.any_eq_true.2 ⟨w, hmem, by simp [State.memberState, hpeer, unheardMember, hgrace]⟩
  rw [State.memberTest, if_pos hrole, if_pos hmissing]
  exact addCause_alarmed .member hlaw

theorem graceDone_csu (m : Nat) (s : State) :
    (s.graceDone m).csu = { s.csu with watches := s.csu.watches.map fun w => if w.member = m then { w with grace := none } else w } := by
  simp [State.graceDone]

theorem graceDone_alarmed {s : State} {m : Nat} (hlaw : FailsafeLaw s.aut) (hw : ∃ w ∈ s.csu.watches, w.member = m)
    (hrole : s.role = .lead) (hpeer : peerOf m s.ptb.entries = none) : Alarmed .member (s.graceDone m).aut := by
  obtain ⟨w, hmem, hm⟩ := hw
  refine memberTest_alarmed (m := m) (s := s.onCsu _) hlaw hrole ⟨{ w with grace := none }, ?_, hm, rfl⟩ hpeer
  exact List.mem_map.2 ⟨w, hmem, if_pos hm⟩

/-- Settles O37: the watch stops, and MEMBER stands where the lead has no entry of it. -/
theorem graceExpiryWatchesTheMember : Obligations.GraceExpiryWatchesTheMember := by
  refine ⟨fun s m hp hlaw hw => ?_, fun s m hno => ?_⟩
  · have hexec : exec (.graceTimerExpires m) s = .next ((s.graceDone m).settle s) := by
      refine exec_of_close ?_ hp (by simp)
      rw [exec, execGraceTimerExpires, if_pos (graceEnds_iff.2 hw)]
    have hcsu : ((s.graceDone m).settle s).csu = _ := (by simp : ((s.graceDone m).settle s).csu = (s.graceDone m).csu).trans (graceDone_csu m s)
    have hreach : reachesOnly (.csu :: settlingBlocks) s (s.graceDone m) := by simp [reachesOnly_iff, settlingBlocks]
    refine answers_of_exec hexec ⟨by rw [hcsu], by rw [hcsu], by rw [hcsu], fun hrole hpeer => ?_,
      hreach.trans (reachesOnly_settle s _) (by simp), motionKept_settle (motionKept_of_spr_eq (by simp))⟩
    obtain ⟨w, hmem, hm, -⟩ := hw
    obtain ⟨hstands, hhead⟩ := (graceDone_alarmed hlaw ⟨w, hmem, hm⟩ hrole hpeer).settle (s0 := s) (by decide)
    exact ⟨hstands.cause, hhead⟩
  · have hends : graceEnds m s.csu.watches = false := by
      rw [← Bool.not_eq_true, graceEnds_iff]
      rintro ⟨w, hmem, hm, hlast⟩
      simp [hno w hmem hm] at hlast
    rw [exec, execGraceTimerExpires, if_neg (by simp [hends])]

end Sys2Proof.Machine
end

section
/-! The sound engine's rules: what a request, a stop, a lookup, a refill and a sample event make of the queue, the port and the voices. -/

namespace Sys2Proof.Machine

/-! ### Requests at a busy port (R130) -/

section Request

variable {s : State} {r : Trigger}

theorem arbitrate_of_busy (h : s.snd.port ≠ .idle) : s.arbitrate = s := by
  cases hp : s.snd.port with
  | idle => exact absurd hp h
  | lookup q void => simp [State.arbitrate, State.onSnd, arbitrateSnd, hp]
  | refill i pos n => simp [State.arbitrate, State.onSnd, arbitrateSnd, hp]

/-- No chuff takes another's place. -/
def noPending (r : Trigger) (q : List Trigger) : Prop := r.owner = .chuff → ∀ p ∈ q, p.owner ≠ .chuff

theorem noPending_iff : noPending r s.snd.queue ↔ ¬(r.owner = .chuff ∧ (s.snd.queue.any fun q => q.owner == .chuff) = true) := by
  simp [noPending]

theorem request_of_room (hport : s.snd.port ≠ .idle) (hpending : noPending r s.snd.queue) (hroom : s.snd.queue.length < 8) :
    s.request r = { s with snd := { s.snd with queue := s.snd.queue ++ [r] } } := by
  rw [State.request, if_neg (noPending_iff.1 hpending), if_pos hroom, arbitrate_of_busy (by exact hport)]
  rfl

theorem counterTakes_triggerDrop (cls : OwnerClass) (c : CounterConfig) (h : c.event = 10) :
    counterTakes c (.triggerDrop cls) = c.mask.getLsbD (ownerClassBit cls) := by
  simp [counterTakes, h, diagCode, qualifierBit]

theorem counterTakes_voicePreempt (cls : OwnerClass) (c : CounterConfig) (h : c.event = 9) :
    counterTakes c (.voicePreempt cls) = c.mask.getLsbD (ownerClassBit cls) := by
  simp [counterTakes, h, diagCode, qualifierBit]

/-- The first chuff of a queue takes the new group and index. -/
theorem coalesceChuff_append {front back : List Trigger} {q : Trigger} (hq : q.owner = .chuff) (hfront : ∀ p ∈ front, p.owner ≠ .chuff) :
    coalesceChuff r (front ++ q :: back) = front ++ { q with group := r.group, index := r.index } :: back := by
  induction front with
  | nil => simp [coalesceChuff, hq]
  | cons p front ih =>
    have hp : p.owner ≠ .chuff := hfront p List.mem_cons_self
    rw [List.cons_append, coalesceChuff, if_neg hp, ih fun x hx => hfront x (List.mem_cons_of_mem _ hx)]
    rfl

theorem request_of_pending {front back : List Trigger} {q : Trigger} (hr : r.owner = .chuff) (hqueue : s.snd.queue = front ++ q :: back)
    (hq : q.owner = .chuff) (hfront : ∀ p ∈ front, p.owner ≠ .chuff) :
    (s.request r).snd = { s.snd with queue := front ++ { q with group := r.group, index := r.index } :: back }
      ∧ counted 10 (fun mask => mask.getLsbD 1) s (s.request r) := by
  have hany : (s.snd.queue.any fun q => q.owner == .chuff) = true := by simp [hqueue, hq]
  rw [State.request, if_pos ⟨hr, hany⟩]
  refine ⟨?_, counted_of_countEvent (counterTakes_triggerDrop .chuff) rfl rfl⟩
  rw [← coalesceChuff_append hq hfront, ← hqueue]
  rfl

theorem lowestTrigger_mem {q : List Trigger} {x : Nat × Nat} (h : lowestTrigger q = some x) : ∃ p ∈ q, p.prio = x.2 := by
  induction q generalizing x with
  | nil => cases h
  | cons p q ih =>
    simp only [lowestTrigger] at h
    split at h
    · cases h
      exact ⟨p, List.mem_cons_self, rfl⟩
    · rename_i y hy
      split at h <;> cases h
      · obtain ⟨p', hp', hprio⟩ := ih hy
        exact ⟨p', List.mem_cons_of_mem _ hp', hprio⟩
      · exact ⟨p, List.mem_cons_self, rfl⟩

/-- The oldest trigger of the lowest priority (R130). -/
theorem lowestTrigger_append {front back : List Trigger} {q : Trigger} (hfront : ∀ p ∈ front, q.prio < p.prio)
    (hback : ∀ p ∈ back, q.prio ≤ p.prio) : lowestTrigger (front ++ q :: back) = some (front.length, q.prio) := by
  induction front with
  | nil =>
    simp only [List.nil_append, lowestTrigger]
    split
    · rfl
    · rename_i x hx
      obtain ⟨p, hp, hprio⟩ := lowestTrigger_mem hx
      have hle := hback p hp
      rw [if_neg (by omega)]
      rfl
  | cons p front ih =>
    have hp : q.prio < p.prio := hfront p List.mem_cons_self
    have hrest := ih fun x hx => hfront x (List.mem_cons_of_mem _ hx)
    simp only [List.cons_append, lowestTrigger, hrest, if_pos hp, List.length_cons]

theorem request_of_full {front back : List Trigger} {q : Trigger} (hport : s.snd.port ≠ .idle) (hpending : noPending r s.snd.queue)
    (hfull : 8 ≤ s.snd.queue.length) (hqueue : s.snd.queue = front ++ q :: back) (hfront : ∀ p ∈ front, q.prio < p.prio)
    (hback : ∀ p ∈ back, q.prio ≤ p.prio) :
    (q.prio < r.prio →
        (s.request r).snd = { s.snd with queue := front ++ back ++ [r] }
          ∧ counted 10 (fun mask => mask.getLsbD (ownerClassBit (ownerClass q.owner))) s (s.request r))
      ∧ (r.prio ≤ q.prio →
          (s.request r).snd = s.snd
            ∧ counted 10 (fun mask => mask.getLsbD (ownerClassBit (ownerClass r.owner))) s (s.request r)) := by
  have hlowest : lowestTrigger s.snd.queue = some (front.length, q.prio) := by rw [hqueue, lowestTrigger_append hfront hback]
  have hreq : s.request r =
      if q.prio < r.prio then
        ((s.onSnd fun d => { d with queue := d.queue.eraseIdx front.length ++ [r] }).signal
          (.triggerDrop (ownerClass ((s.snd.queue.getD front.length r).owner)))).arbitrate
      else s.signal (.triggerDrop (ownerClass r.owner)) := by
    rw [State.request, if_neg (noPending_iff.1 hpending), if_neg (by omega), hlowest]
  refine ⟨fun hlt => ?_, fun hle => ?_⟩
  · have hvictim : s.snd.queue.getD front.length r = q := by simp [hqueue, List.getD]
    rw [hreq, if_pos hlt, arbitrate_of_busy (by exact hport), hvictim]
    refine ⟨?_, counted_of_countEvent (counterTakes_triggerDrop _) rfl rfl⟩
    have herase : s.snd.queue.eraseIdx front.length = front ++ back := by
      rw [hqueue, List.eraseIdx_append_of_length_le le_rfl]
      simp
    rw [← herase]
    rfl
  · rw [hreq, if_neg (by omega)]
    exact ⟨rfl, counted_of_countEvent (counterTakes_triggerDrop _) rfl rfl⟩

end Request

/-! ### Stops (R131) -/

theorem stopVoice_eq (o : Owner) (v : Voice) :
    stopVoice o v =
      if v.owner = some o ∧ v.state = .loading then {}
      else if v.owner = some o ∧ (v.state = .playing ∨ v.state = .looping) then { v with held := false, state := .releasing }
      else v := by
  unfold stopVoice
  split
  next h => cases hs : v.state <;> simp [h]
  next h => simp [h]

theorem stopOwner_voice (o : Owner) (s : State) (i : Nat) : (s.stopOwner o).voice i = stopVoice o (s.voice i) := by
  have hempty : stopVoice o {} = {} := rfl
  have hmap := List.getD_map s.snd.voices {} (n := i) (stopVoice o)
  rwa [hempty] at hmap

theorem stopOwner_port (o : Owner) (s : State) :
    (∀ q void, s.snd.port = .lookup q void → (s.stopOwner o).snd.port = .lookup q (if q.owner = o then true else void))
      ∧ ((∀ q void, s.snd.port ≠ .lookup q void) → (s.stopOwner o).snd.port = s.snd.port) := by
  have hport : (s.stopOwner o).snd.port = stopPort o s.snd.port := rfl
  refine ⟨fun q void h => ?_, fun h => ?_⟩
  · rw [hport, h, stopPort]
    by_cases ho : q.owner = o <;> simp [ho]
  · rw [hport]
    cases hp : s.snd.port with
    | lookup q void => exact absurd hp (h q void)
    | idle => rfl
    | refill => rfl

/-! ### Which voice a lookup takes (R134) -/

theorem earliest_isSome {p : Voice → Bool} {vs : List Voice} {i : Nat} (hi : i < vs.length) (hp : p (vs.getD i {}) = true) :
    (earliest p vs).isSome = true := by
  induction vs generalizing i with
  | nil => simp at hi
  | cons v vs ih =>
    simp only [earliest]
    split
    next => split <;> (try split) <;> rfl
    next hv =>
      cases i with
      | zero => exact absurd hp hv
      | succ i => simpa using ih (by simpa using hi) (by simpa using hp)

/-- The earliest voice of a test was allocated no later than any other voice of the test. -/
theorem earliest_order {p : Voice → Bool} {vs : List Voice} {x : Nat × Nat} (h : earliest p vs = some x) :
    x.2 = (vs.getD x.1 {}).order ∧ ∀ j, j < vs.length → p (vs.getD j {}) = true → x.2 ≤ (vs.getD j {}).order := by
  induction vs generalizing x with
  | nil => simp [earliest] at h
  | cons v vs ih =>
    simp only [earliest] at h
    split at h
    next hv =>
      cases hrest : earliest p vs with
      | none =>
        have hno : ∀ j, j < vs.length → p (vs.getD j {}) = true → False := fun j hj hpj => by
          simpa [hrest] using earliest_isSome hj hpj
        rw [hrest] at h
        cases h
        refine ⟨rfl, fun j hj hpj => ?_⟩
        cases j with
        | zero => exact le_rfl
        | succ j => exact (hno j (by simpa using hj) (by simpa using hpj)).elim
      | some y =>
        rw [hrest] at h
        obtain ⟨horder, hmin⟩ := ih hrest
        simp only [Option.map_some] at h
        split at h <;> cases h
        next hlt =>
          refine ⟨by simpa using horder, fun j hj hpj => ?_⟩
          cases j with
          | zero => exact hlt.le
          | succ j => simpa using hmin j (by simpa using hj) (by simpa using hpj)
        next hge =>
          refine ⟨rfl, fun j hj hpj => ?_⟩
          cases j with
          | zero => exact le_rfl
          | succ j =>
            have hle := hmin j (by simpa using hj) (by simpa using hpj)
            simp only [List.getD_cons_succ]
            omega
    next hv =>
      obtain ⟨y, hy, rfl⟩ := Option.map_eq_some_iff.1 h
      obtain ⟨horder, hmin⟩ := ih hy
      refine ⟨by simpa using horder, fun j hj hpj => ?_⟩
      cases j with
      | zero => exact absurd hpj hv
      | succ j => simpa using hmin j (by simpa using hj) (by simpa using hpj)

/-- A voice of the test allocated before every other one of it is the earliest. -/
theorem earliest_of_first {p : Voice → Bool} {vs : List Voice} {i : Nat} (hi : i < vs.length) (hp : p (vs.getD i {}) = true)
    (hfirst : ∀ j, j < vs.length → j ≠ i → p (vs.getD j {}) = true → (vs.getD i {}).order < (vs.getD j {}).order) :
    ∃ order, earliest p vs = some (i, order) := by
  obtain ⟨x, hx⟩ := Option.isSome_iff_exists.1 (earliest_isSome hi hp)
  obtain ⟨hlen, hpx⟩ := earliest_spec hx
  obtain ⟨horder, hmin⟩ := earliest_order hx
  have hle := hmin i hi hp
  by_cases hxi : x.1 = i
  · exact ⟨x.2, by rw [hx, ← hxi]⟩
  · have hlt := hfirst x.1 hlen hxi hpx
    omega

/-- One step of the search for the lowest priority below a bound. -/
def lowerPrio (bound : Nat) (m : Option Nat) (v : Voice) : Option Nat :=
  if v.prio < bound then some (m.elim v.prio fun p => min p v.prio) else m

theorem lowestPrio_eq (bound : Nat) (vs : List Voice) : lowestPrio bound vs = vs.foldl (lowerPrio bound) none := by
  unfold lowestPrio
  congr 1
  funext m v
  cases m <;> rfl

/-- A priority that some voice has, below the bound and not above any voice's, is the lowest (R134). -/
theorem lowerPrio_foldl {bound p : Nat} (hp : p < bound) {vs : List Voice} {m : Option Nat} (hall : ∀ w ∈ vs, p ≤ w.prio)
    (hm : ∀ q, m = some q → p ≤ q) (hsome : m = some p ∨ ∃ w ∈ vs, w.prio = p) : vs.foldl (lowerPrio bound) m = some p := by
  induction vs generalizing m with
  | nil => simpa using hsome
  | cons v vs ih =>
    have hv : p ≤ v.prio := hall v List.mem_cons_self
    refine ih (fun w hw => hall w (List.mem_cons_of_mem _ hw)) (fun q hq => ?_) ?_
    · unfold lowerPrio at hq
      split at hq
      · cases m with
        | none => cases hq; exact hv
        | some x =>
          cases hq
          exact le_min (hm x rfl) hv
      · exact hm q hq
    · unfold lowerPrio
      rcases hsome with rfl | ⟨w, hw, hwp⟩
      · left
        split
        · simp [hv]
        · rfl
      · rcases List.mem_cons.1 hw with rfl | hw
        · left
          rw [if_pos (by omega)]
          cases m with
          | none => simp [hwp]
          | some x => simp [hwp, hm x rfl]
        · exact .inr ⟨w, hw, hwp⟩

theorem lowestPrio_of_lowest {bound i : Nat} {vs : List Voice} (hi : i < vs.length) (hp : (vs.getD i {}).prio < bound)
    (hall : ∀ w ∈ vs, (vs.getD i {}).prio ≤ w.prio) : lowestPrio bound vs = some (vs.getD i {}).prio := by
  rw [lowestPrio_eq]
  refine lowerPrio_foldl hp hall (fun q hq => by cases hq) (.inr ⟨vs.getD i {}, ?_, rfl⟩)
  rw [List.getD_eq_getElem _ _ hi]
  exact List.getElem_mem hi

theorem lowestPrio_of_none_below {bound : Nat} {vs : List Voice} (h : ∀ v ∈ vs, bound ≤ v.prio) : lowestPrio bound vs = none := by
  rw [lowestPrio_eq]
  induction vs with
  | nil => rfl
  | cons v vs ih =>
    have hv : lowerPrio bound none v = none := if_neg (by simpa using h v List.mem_cons_self)
    rw [List.foldl_cons, hv]
    exact ih fun w hw => h w (List.mem_cons_of_mem _ hw)

theorem order_lt_nextOrder {vs : List Voice} {v : Voice} (h : v ∈ vs) : v.order < nextOrder vs := by
  have hfold : ∀ (vs : List Voice) (m : Nat), m ≤ vs.foldl (fun m v => max m v.order) m := fun vs => by
    induction vs with
    | nil => exact fun _ => le_rfl
    | cons w vs ih => exact fun m => (le_max_left m w.order).trans (ih _)
  have hle : ∀ (vs : List Voice) (m : Nat), v ∈ vs → v.order ≤ vs.foldl (fun m v => max m v.order) m := fun vs => by
    induction vs with
    | nil => simp
    | cons w vs ih =>
      intro m hmem
      rcases List.mem_cons.1 hmem with rfl | hmem
      · exact (le_max_right m v.order).trans (hfold vs _)
      · exact ih _ hmem
  exact Nat.lt_succ_of_le (hle vs 0 h)

section Grant

variable {q : Trigger} {vs : List Voice} {i : Nat}

theorem grantVoice_cap (hq : q.owner = .chuff) (hcap : 2 ≤ vs.countP ownedByChuff) (hi : i < vs.length)
    (ho : (vs.getD i {}).owner = some .chuff)
    (hfirst : ∀ j, j ≠ i → (vs.getD j {}).owner = some .chuff → (vs.getD i {}).order < (vs.getD j {}).order) :
    grantVoice q vs = .cap i := by
  obtain ⟨order, hx⟩ := earliest_of_first (p := ownedByChuff) hi (beq_iff_eq.2 ho)
    fun j _ hji hj => hfirst j hji (by simpa [ownedByChuff] using hj)
  rw [grantVoice, if_pos ⟨hq, hcap⟩, hx]

theorem no_free_voice (h : ∀ v ∈ vs, v.state ≠ .free) : (vs.findIdx? fun v => v.state == .free) = none := by
  rw [List.findIdx?_eq_none_iff]
  exact fun v hv => by simpa using h v hv

theorem grantVoice_preempt (hcap : q.owner = .chuff → vs.countP ownedByChuff < 2) (hfree : ∀ v ∈ vs, v.state ≠ .free)
    (hi : i < vs.length) (hp : (vs.getD i {}).prio < q.prio)
    (hlowest : ∀ j, j < vs.length → j ≠ i → (vs.getD i {}).prio < (vs.getD j {}).prio
      ∨ (vs.getD i {}).prio = (vs.getD j {}).prio ∧ (vs.getD i {}).order < (vs.getD j {}).order) :
    grantVoice q vs = .preempt i := by
  have hall : ∀ w ∈ vs, (vs.getD i {}).prio ≤ w.prio := fun w hw => by
    obtain ⟨j, hj, rfl⟩ := List.getElem_of_mem hw
    rw [← List.getD_eq_getElem _ {} hj]
    by_cases hji : j = i
    · rw [hji]
    · rcases hlowest j hj hji with hlt | ⟨heq, -⟩
      · exact hlt.le
      · exact heq.le
  obtain ⟨order, hx⟩ := earliest_of_first (p := fun v => v.prio == (vs.getD i {}).prio) hi (by simp) fun j hj hji hpj => by
    rcases hlowest j hj hji with hlt | ⟨-, hlt⟩
    · exact absurd (by simpa using hpj) hlt.ne'
    · exact hlt
  rw [grantVoice, if_neg fun h => absurd (hcap h.1) (by omega), no_free_voice hfree]
  simp only [lowestPrio_of_lowest hi hp hall, hx]

theorem grantVoice_drop (hcap : q.owner = .chuff → vs.countP ownedByChuff < 2) (hfree : ∀ v ∈ vs, v.state ≠ .free)
    (hall : ∀ v ∈ vs, q.prio ≤ v.prio) : grantVoice q vs = .drop := by
  rw [grantVoice, if_neg fun h => absurd (hcap h.1) (by omega), no_free_voice hfree]
  simp only [lowestPrio_of_none_below hall]

theorem grantVoice_free (hcap : ¬(q.owner = .chuff ∧ 2 ≤ vs.countP ownedByChuff)) (hi : i < vs.length)
    (hfree : (vs.getD i {}).state = .free) (hfirst : ∀ j, j < i → (vs.getD j {}).state ≠ .free) : grantVoice q vs = .free i := by
  have hfind : (vs.findIdx? fun v => v.state == .free) = some i := by
    rw [List.findIdx?_eq_some_iff_getElem]
    rw [List.getD_eq_getElem _ {} hi] at hfree
    refine ⟨hi, beq_iff_eq.2 hfree, fun j hj => ?_⟩
    have hbusy := hfirst j hj
    rw [List.getD_eq_getElem _ {} (hj.trans hi)] at hbusy
    simpa using hbusy
  rw [grantVoice, if_neg hcap, hfind]

end Grant

/-! ### Lookups and refills (R129, R134, R136) -/

theorem setVoice_voice (i : Nat) (v : Voice) (s : State) (hi : i < s.snd.voices.length) :
    (s.setVoice i v).voice i = v ∧ ∀ j, j ≠ i → (s.setVoice i v).voice j = s.voice j := by
  refine ⟨?_, fun j hj => ?_⟩
  · simp [State.voice, State.setVoice, List.getD, hi]
  · simp [State.voice, State.setVoice, List.getD, List.getElem?_set_ne (Ne.symm hj)]

theorem arbitrate_voice (s : State) (i : Nat) : s.arbitrate.voice i = s.voice i := by simp [State.voice]

theorem signal_voice (e : DiagEvent) (s : State) (i : Nat) : (s.signal e).voice i = s.voice i := rfl

/-- The port is done with its read. -/
def State.portFreed (s : State) : State := s.onSnd fun d => { d with port := .idle }

theorem exec_lookupComplete {s : State} {q : Trigger} {void : Bool} (hp : s.power = .running) (hport : s.snd.port = .lookup q void) :
    exec .lookupComplete s = .next (s.lookupDone q void) := by
  simp only [exec, execLookupComplete, hport, whenRunning_of_running hp]

theorem lookupDone_of_clip {s : State} {q : Trigger} {c : Clip} (hclip : lookupClip s.flash q = some c) :
    s.lookupDone q false = (s.portFreed.allocate q c).arbitrate := by
  simp only [State.lookupDone, Bool.false_eq_true, if_false, hclip]
  rfl

theorem lookupDone_of_no_clip {s : State} {q : Trigger} (hclip : lookupClip s.flash q = none) :
    s.lookupDone q false = (s.portFreed.signal (.triggerDrop (ownerClass q.owner))).arbitrate := by
  simp only [State.lookupDone, Bool.false_eq_true, if_false, hclip]
  rfl

/-- A voice given with a preemption counted (R134, R31). -/
theorem preempted_answer {s : State} {q : Trigger} {c : Clip} {i : Nat} {cls : OwnerClass} (hi : i < s.snd.voices.length)
    (h : s.portFreed.allocate q c =
      (s.portFreed.setVoice i (loadedVoice q c (nextOrder s.snd.voices))).signal (.voicePreempt cls)) :
    (s.portFreed.allocate q c).arbitrate.voice i = loadedVoice q c (nextOrder s.snd.voices)
      ∧ (∀ j, j ≠ i → (s.portFreed.allocate q c).arbitrate.voice j = s.voice j)
      ∧ counted 9 (fun mask => mask.getLsbD (ownerClassBit cls)) s (s.portFreed.allocate q c).arbitrate
      ∧ reachesOnly [.snd, .rpt] s (s.portFreed.allocate q c).arbitrate := by
  obtain ⟨hset, hother⟩ := setVoice_voice i (loadedVoice q c (nextOrder s.snd.voices)) s.portFreed hi
  rw [h]
  refine ⟨?_, fun j hj => ?_, counted_of_countEvent (counterTakes_voicePreempt cls) rfl rfl, ?_⟩
  · rw [arbitrate_voice, signal_voice, hset]
  · rw [arbitrate_voice, signal_voice, hother j hj]
    rfl
  · simp [reachesOnly_iff, State.setVoice, State.portFreed]

/-- A dropped trigger leaves the voices and is counted (R134, R31). -/
theorem dropped_answer (s : State) (cls : OwnerClass) :
    (s.portFreed.signal (.triggerDrop cls)).arbitrate.snd.voices = s.snd.voices
      ∧ counted 10 (fun mask => mask.getLsbD (ownerClassBit cls)) s (s.portFreed.signal (.triggerDrop cls)).arbitrate
      ∧ reachesOnly [.snd, .rpt] s (s.portFreed.signal (.triggerDrop cls)).arbitrate :=
  ⟨by simp [State.portFreed], counted_of_countEvent (counterTakes_triggerDrop cls) rfl rfl, by simp [reachesOnly_iff, State.portFreed]⟩

theorem allocate_cap {s : State} {q : Trigger} {c : Clip} {i : Nat} (h : grantVoice q s.snd.voices = .cap i) :
    s.allocate q c = (s.setVoice i (loadedVoice q c (nextOrder s.snd.voices))).signal (.voicePreempt .chuff) := by
  rw [State.allocate, h]

theorem allocate_free {s : State} {q : Trigger} {c : Clip} {i : Nat} (h : grantVoice q s.snd.voices = .free i) :
    s.allocate q c = s.setVoice i (loadedVoice q c (nextOrder s.snd.voices)) := by
  rw [State.allocate, h]

theorem allocate_preempt {s : State} {q : Trigger} {c : Clip} {i : Nat} {o : Owner} (h : grantVoice q s.snd.voices = .preempt i)
    (ho : (s.voice i).owner = some o) :
    s.allocate q c = (s.setVoice i (loadedVoice q c (nextOrder s.snd.voices))).signal (.voicePreempt (ownerClass o)) := by
  have hclass : voiceClass (s.voice i) = ownerClass o := by rw [voiceClass, ho]
  rw [State.allocate, h]
  simp only [hclass]

theorem allocate_drop {s : State} {q : Trigger} {c : Clip} (h : grantVoice q s.snd.voices = .drop) :
    s.allocate q c = s.signal (.triggerDrop (ownerClass q.owner)) := by
  rw [State.allocate, h]

theorem lookupClip_length {flash : List Host.Cell} {q : Trigger} {c : Clip} (h : lookupClip flash q = some c) : c.length ≠ 0 := by
  unfold lookupClip at h
  split at h
  · cases h
  · simp only at h
    split at h
    · cases h
    · cases h
      assumption

/-- A voice that needs a refill is found before any further lookup (R133). -/
theorem arbitrate_refills {s : State} {i : Nat} (hport : s.snd.port = .idle) (hi : i < 6) (hneedy : needsRefill (s.voice i) = true) :
    (∃ v at_ n, s.arbitrate.snd.port = .refill v at_ n) ∧ s.arbitrate.snd.queue = s.snd.queue := by
  have hround : ∀ p, i ∈ roundRobin p := fun p => by
    simp only [roundRobin, List.mem_map, List.mem_range]
    exact ⟨(i + 5 * (p + 1)) % 6, by omega, by omega⟩
  have hsome : (firstNeedy s.snd.voices (roundRobin s.snd.pointer)).isSome = true :=
    List.find?_isSome.2 ⟨i, hround _, hneedy⟩
  obtain ⟨k, hk⟩ := Option.isSome_iff_exists.1 hsome
  simp only [State.arbitrate, State.onSnd, arbitrateSnd, hport, hk]
  exact ⟨⟨_, _, _, rfl⟩, trivial⟩

/-- A FREE voice is loaded, and the port goes on to a refill (R133, R134). -/
theorem freeVoice_answer {s : State} {q : Trigger} {c : Clip} {i : Nat} (hclip : lookupClip s.flash q = some c)
    (hlen : s.snd.voices.length = 6) (hi : i < 6) (hgrant : grantVoice q s.snd.voices = .free i) :
    (s.lookupDone q false).voice i = loadedVoice q c (nextOrder s.snd.voices)
      ∧ (∀ j, j ≠ i → (s.lookupDone q false).voice j = s.voice j) ∧ (s.lookupDone q false).snd.queue = s.snd.queue
      ∧ (∃ v at_ n, (s.lookupDone q false).snd.port = .refill v at_ n) ∧ reachesOnly [.snd] s (s.lookupDone q false) := by
  have hdone : s.lookupDone q false = (s.portFreed.setVoice i (loadedVoice q c (nextOrder s.snd.voices))).arbitrate := by
    rw [lookupDone_of_clip hclip, allocate_free (s := s.portFreed) hgrant]
    rfl
  obtain ⟨hset, hother⟩ := setVoice_voice i (loadedVoice q c (nextOrder s.snd.voices)) s.portFreed (hlen ▸ hi)
  have hneedy : needsRefill (loadedVoice q c (nextOrder s.snd.voices)) = true := by
    have hpos := Nat.pos_of_ne_zero (lookupClip_length hclip)
    simp [needsRefill, loadedVoice, samplesRemain, hpos]
  obtain ⟨hport, hqueue⟩ := arbitrate_refills (s := s.portFreed.setVoice i (loadedVoice q c (nextOrder s.snd.voices))) rfl hi
    (by rw [hset]; exact hneedy)
  rw [hdone]
  refine ⟨by rw [arbitrate_voice, hset], fun j hj => ?_, hqueue, hport, ?_⟩
  · rw [arbitrate_voice, hother j hj]
    rfl
  · simp [reachesOnly_iff, State.setVoice, State.portFreed]

theorem refilledVoice_fields (v : Voice) (pos n : Nat) (samples : List (BitVec 8)) :
    (refilledVoice v pos n samples).fetch =
        (if v.held = true ∧ loopValid v.clip = true ∧ pos + n = v.clip.loopEnd then v.clip.loopStart else pos + n)
      ∧ (v.state = .loading → v.held = false → (refilledVoice v pos n samples).state = .playing)
      ∧ (v.state = .loading → v.held = true → loopValid v.clip = true → v.clip.loopStart < pos + n →
          (refilledVoice v pos n samples).state = .looping)
      ∧ (v.state = .releasing → (refilledVoice v pos n samples).state = .releasing) := by
  refine ⟨by simp [refilledVoice, and_assoc], fun hs hh => by simp [refilledVoice, hs, hh], fun hs hh hl hr => ?_,
    fun hs => by simp [refilledVoice, hs]⟩
  simp [refilledVoice, hs, hh, hl, hr]

theorem exec_refillComplete {s : State} {i pos n : Nat} (hp : s.power = .running) (hport : s.snd.port = .refill i pos n)
    (hstate : (s.voice i).state ≠ .free) :
    exec .refillComplete s = .next
      (s.portFreed.setVoice i (refilledVoice (s.voice i) pos n (flashBytes s.flash ((s.voice i).clip.start + pos) n))).arbitrate := by
  simp only [exec, execRefillComplete, hport, whenRunning_of_running hp, State.refillDone, if_neg hstate]
  rfl

/-- Settles O51: one rule per request, stop, lookup and refill. -/
theorem flashReadsFeedTheVoices : Obligations.FlashReadsFeedTheVoices := by
  refine ⟨fun s r hport => ⟨fun front q back hr hqueue hq hfront => request_of_pending hr hqueue hq hfront, fun hpending =>
      ⟨request_of_room hport hpending, fun front q back hfull hqueue hfront hback =>
        request_of_full hport hpending hfull hqueue hfront hback⟩⟩,
    fun s o => ⟨rfl, (stopOwner_port o s).1, (stopOwner_port o s).2, fun i => (stopOwner_voice o s i).trans (stopVoice_eq o _),
      by simp [reachesOnly_iff]⟩,
    fun s q c hp hport hclip => ⟨fun i hq hcap hi ho hfirst => ?cap, fun hcap hfree => ⟨fun i o hi hprio ho hlowest => ?preempt,
      fun hall => ?drop⟩⟩,
    fun s q void hp hport => ⟨fun hvoid => ?void, fun hvoid hclip => ?noClip⟩,
    fun s q c i hp hport hclip hlen hi hfree hfirst hcap => ?free,
    fun s i pos n hp hport hi hstate => ?refill⟩
  case cap =>
    have halloc := allocate_cap (s := s.portFreed) (c := c) (grantVoice_cap hq hcap hi ho hfirst)
    exact answers_of_exec (exec_lookupComplete hp hport) (lookupDone_of_clip hclip ▸ preempted_answer hi halloc)
  case preempt =>
    have halloc := allocate_preempt (s := s.portFreed) (c := c) (grantVoice_preempt hcap hfree hi hprio hlowest) ho
    exact answers_of_exec (exec_lookupComplete hp hport) (lookupDone_of_clip hclip ▸ preempted_answer hi halloc)
  case drop =>
    have halloc := allocate_drop (s := s.portFreed) (c := c) (grantVoice_drop hcap hfree hall)
    have hanswer := dropped_answer s (ownerClass q.owner)
    rw [← halloc, ← lookupDone_of_clip hclip] at hanswer
    exact answers_of_exec (exec_lookupComplete hp hport) hanswer
  case void =>
    subst hvoid
    have hdone : s.lookupDone q true = s.portFreed.arbitrate := rfl
    exact answers_of_exec (exec_lookupComplete hp hport)
      (hdone ▸ ⟨by simp [State.portFreed], by simp [reachesOnly_iff, State.portFreed]⟩)
  case noClip =>
    subst hvoid
    exact answers_of_exec (exec_lookupComplete hp hport) (lookupDone_of_no_clip hclip ▸ dropped_answer s _)
  case free =>
    obtain ⟨hvoice, hother, hqueue, hrefill, hreach⟩ :=
      freeVoice_answer hclip hlen hi (grantVoice_free hcap (hlen ▸ hi) hfree hfirst)
    refine answers_of_exec (exec_lookupComplete hp hport) ?_
    rw [hvoice]
    exact ⟨rfl, rfl, rfl, rfl, rfl, rfl, rfl, fun v hv => order_lt_nextOrder hv, hother, hqueue, hrefill, hreach⟩
  case refill =>
    obtain ⟨hset, hother⟩ := setVoice_voice i
      (refilledVoice (s.voice i) pos n (flashBytes s.flash ((s.voice i).clip.start + pos) n)) s.portFreed hi
    obtain ⟨hfetch, hplaying, hlooping, hreleasing⟩ :=
      refilledVoice_fields (s.voice i) pos n (flashBytes s.flash ((s.voice i).clip.start + pos) n)
    refine answers_of_exec (exec_refillComplete hp hport hstate) ?_
    simp only [arbitrate_voice, hset]
    exact ⟨rfl, hfetch, hplaying, hlooping, hreleasing, rfl, rfl, hother, by simp [reachesOnly_iff, State.setVoice, State.portFreed]⟩

/-! ### Sample events (R138, R140) -/

theorem sampledVoices_getD (port : Port) (k i : Nat) (vs : List Voice) :
    (sampledVoices port k vs).getD i {} = sampledVoice port (k + i) (vs.getD i {}) := by
  induction vs generalizing k i with
  | nil => rfl
  | cons v vs ih =>
    cases i with
    | zero => rfl
    | succ i => simpa [sampledVoices, Nat.add_assoc, Nat.add_comm 1] using ih (k + 1) i

theorem sampledVoice_buffer (port : Port) (i : Nat) (v : Voice) :
    (sampledVoice port i v).buffer = if voicePlays v then v.buffer.tail else v.buffer := by
  unfold sampledVoice
  split
  · split
    next h => exact h.1.symm
    next => rfl
  · rfl

theorem mixed_eq (s : State) :
    s.mixed =
      max (-2048)
        (min 2047
          ((s.snd.voices.map (contribution s.image.sound s.mrg.duty)).sum * s.masterFactor * supplyFactor s.sup.state / 4194304)) := by
  rw [State.mixed, clampInt_eq _ _ _ (by decide), floorDiv_eq_ediv _ (by decide), min_comm]

/-- Settles O52: the mixer's formula and each voice's sample. -/
theorem sampleEventMixesTheVoices : Obligations.SampleEventMixesTheVoices := by
  intro s hp
  have hexec : exec .soundSampleEvent s = .next s.sampleEvent := by rw [exec, execSoundSampleEvent, whenRunning_of_running hp]
  refine answers_of_exec hexec ⟨?_, ?_, fun i => ?_, by simp [reachesOnly_iff, State.sampleEvent]⟩
  · have houtput : s.sampleEvent.snd.output = s.mixed := by simp [State.sampleEvent]
    rw [houtput, mixed_eq]
    cases s.sup.state <;> rfl
  · simp [State.sampleEvent, sampledVoices_length]
  · have hvoice : s.sampleEvent.voice i = sampledVoice s.snd.port i (s.voice i) := by
      simp only [State.sampleEvent, arbitrate_voice]
      have hat := sampledVoices_getD s.snd.port 0 i s.snd.voices
      rwa [Nat.zero_add] at hat
    rw [hvoice, sampledVoice_buffer]

end Sys2Proof.Machine
end

section
/-! The cam's debounce and its chuffs, and the valve, standstill and burst timers. -/

namespace Sys2Proof.Machine

/-! ### Only a completed start brings the part to run (R165) -/

theorem Effect.power_of_running {c : Instr} {s t : State} (h : Effect s c t) (hs : s.power ≠ .running) (ht : t.power = .running) :
    t = s.completeStart := by
  have hkept : ∀ u : State, u.power = s.power → u.power = .running → False := fun u hu hr => hs (hu ▸ hr)
  cases h with
  | nothing => exact absurd ht hs
  | header on => exact (hkept _ (by simp) ht).elim
  | closed running => exact absurd running hs
  | direct running => exact absurd running hs
  | discarded => exact (hkept _ rfl ht).elim
  | sensor => exact (hkept _ rfl ht).elim
  | @entry _ track store starting =>
    unfold State.entryTest at ht ⊢
    split at ht
    · split at ht
      · exact (hkept _ rfl ht).elim
      · rename_i hgood hrun
        rw [if_pos hgood, if_neg hrun]
    · exact (hkept _ rfl ht).elim
  | brownOut => exact absurd ht (by simp [State.brownOut, State.startValues])
  | powerOn => exact absurd ht (by simp [State.beginStart, State.startValues])

/-! ### Chuffs (R125, R126) -/

section Chuff

variable {s t : State}

/-- A request acts at SND on SND alone. -/
theorem request_snd_congr (r : Trigger) (h : t.snd = s.snd) : (t.request r).snd = (s.request r).snd := by
  unfold State.request
  rw [h]
  split
  · simp [State.onSnd, h]
  · split
    · simp [State.onSnd, State.arbitrate, h]
    · split
      · split
        · simp [State.onSnd, State.arbitrate, h]
        · simp [h]
      · simp [h]

theorem chuffEvent_fields (s : State) :
    s.chuffEvent.chg = { s.chg with count := (s.chg.count + 1) % 65536 } ∧ s.chuffEvent.lmp.flare = some 64
      ∧ s.chuffEvent.snd = (s.request s.chuffTrigger).snd ∧ reachesOnly [.chg, .snd, .rpt, .smk, .lmp] s s.chuffEvent := by
  refine ⟨by simp [State.chuffEvent], rfl, by simp [State.chuffEvent], by simp [reachesOnly_iff]⟩

/-- The debounced level takes the input's, and the window starts. -/
def State.camTaken (s : State) : State := s.onChg fun c => { c with cam := c.sensor, camWindow := some 8 }

theorem camTake_eq (s : State) : s.camTake = if s.chg.cam = false ∧ s.chg.sensor = true then s.camTaken.chuffEvent else s.camTaken := rfl

/-- A taking of the level: the level, the window and, from low to high, one chuff (R125, R126). -/
theorem camTake_fields (s : State) :
    s.camTake.chg.cam = s.chg.sensor ∧ s.camTake.chg.sensor = s.chg.sensor ∧ s.camTake.chg.camWindow = some 8
      ∧ s.camTake.chg.phase = s.chg.phase
      ∧ s.camTake.chg.count = (if s.chg.sensor = true ∧ s.chg.cam = false then (s.chg.count + 1) % 65536 else s.chg.count)
      ∧ (s.chg.sensor = true → s.chg.cam = false →
          s.camTake.lmp.flare = some 64 ∧ s.camTake.snd = (s.request s.chuffTrigger).snd)
      ∧ reachesOnly [.chg, .snd, .rpt, .smk, .lmp] s s.camTake := by
  have hreach : reachesOnly [.chg, .snd, .rpt, .smk, .lmp] s s.camTaken := by simp [reachesOnly_iff, State.camTaken]
  rw [camTake_eq]
  split
  next h =>
    obtain ⟨hchg, hflare, hsnd, hchuff⟩ := chuffEvent_fields s.camTaken
    rw [hchg]
    refine ⟨rfl, rfl, rfl, rfl, (if_pos h.symm).symm, fun _ _ => ⟨hflare, hsnd.trans (request_snd_congr _ rfl)⟩,
      hreach.trans hchuff (by simp)⟩
  next h => exact ⟨rfl, rfl, rfl, rfl, (if_neg fun hn => h hn.symm).symm, fun h1 h2 => absurd ⟨h2, h1⟩ h, hreach⟩

theorem camEdge_of_taken (hsource : s.image.chuff.source = .cam) (hwindow : s.chg.camWindow = none) (hlevel : s.chg.sensor ≠ s.chg.cam) :
    s.camEdge = s.camTake := if_pos ⟨hsource, hwindow, hlevel⟩

theorem camEdge_of_kept (h : s.chg.camWindow ≠ none ∨ s.chg.sensor = s.chg.cam) : s.camEdge = s := by
  rw [State.camEdge, if_neg]
  rintro ⟨-, hwindow, hlevel⟩
  exact h.elim (· hwindow) hlevel

theorem exec_wheelSensorEdge (hp : s.power = .running) (level : Bool) :
    exec (.wheelSensorEdge level) s = .next (s.sensorSet level).camEdge := by
  rw [exec, execWheelSensorEdge, whenRunning_of_running (by exact hp)]

theorem camWindow_iff {n : Nat} (h : s.chg.camWindow = some n) : lastMs s.chg.camWindow = true ↔ n ≤ 1 := by simp [h, lastMs]

end Chuff

/-- Settles O50: the edge and the window's end by `camTake_fields`, the start by its values. -/
theorem camDebounceMakesChuffs : Obligations.CamDebounceMakesChuffs := by
  refine ⟨fun s level hp hsource => ⟨fun hwindow hlevel => ?taken, fun hkept => ?kept, fun n hn hlt => ?early, fun n hn hle => ?expiry⟩,
    fun c s t h hs ht => ?start⟩
  case taken =>
    have hexec := exec_wheelSensorEdge hp level
    rw [camEdge_of_taken (s := s.sensorSet level) hsource hwindow hlevel] at hexec
    obtain ⟨hcam, hsensor, hwin, hphase, hcount, hchuff, hreach⟩ := camTake_fields (s.sensorSet level)
    have hdown : level = true → s.chg.cam = false := fun hup => by simpa [hup] using hlevel
    refine answers_of_exec hexec ⟨hcam, hsensor, hwin, hphase, ?_, fun hup => ?_, ?_⟩
    · rw [hcount]
      exact if_congr ⟨And.left, fun hup => ⟨hup, hdown hup⟩⟩ rfl rfl
    · obtain ⟨hflare, hsnd⟩ := hchuff hup (hdown hup)
      exact ⟨hflare, hsnd.trans (request_snd_congr _ rfl)⟩
    · have hset : reachesOnly [.chg, .snd, .rpt, .smk, .lmp] s (s.sensorSet level) := by simp [reachesOnly_iff]
      exact hset.trans hreach (by simp)
  case kept =>
    rw [exec_wheelSensorEdge hp level, camEdge_of_kept (s := s.sensorSet level) hkept]
    rfl
  case early =>
    rw [exec, execCamWindowExpires, if_neg]
    rw [camWindow_iff hn]
    omega
  case expiry =>
    have hexec : exec .camWindowExpires s = .next s.camExpiry := by
      rw [exec, execCamWindowExpires, if_pos ((camWindow_iff hn).2 hle), whenRunning_of_running hp]
    have hstop : reachesOnly [.chg, .snd, .rpt, .smk, .lmp] s (s.onChg fun c => { c with camWindow := none }) := by
      simp [reachesOnly_iff]
    by_cases hlevel : s.chg.sensor = s.chg.cam
    · have hsame : s.camExpiry = s.onChg fun c => { c with camWindow := none } := camEdge_of_kept (.inr hlevel)
      rw [hsame] at hexec
      refine answers_of_exec hexec ⟨hlevel.symm, rfl, (if_pos hlevel).symm, ?_, hstop⟩
      rw [if_neg]
      · rfl
      · rintro ⟨hup, hdown⟩
        rw [hlevel, hdown] at hup
        cases hup
    · have htaken : s.camExpiry = (s.onChg fun c => { c with camWindow := none }).camTake := camEdge_of_taken hsource rfl hlevel
      rw [htaken] at hexec
      obtain ⟨hcam, hsensor, hwin, -, hcount, -, hreach⟩ := camTake_fields (s.onChg fun c => { c with camWindow := none })
      exact answers_of_exec hexec ⟨hcam, hsensor, hwin.trans (if_neg hlevel).symm, hcount, hstop.trans hreach (by simp)⟩
  case start =>
    rw [(effect_of_exec h).power_of_running hs ht]
    simp [State.completeStart, State.startupSound, State.startValues]

/-! ### Rest timers (R144, R146, R152) -/

section Rest

variable {s : State}

theorem lastMs_of_running {x : Option Nat} {n : Nat} (hx : x = some n) (hn : 1 < n) : lastMs x = false := by
  simp [hx, lastMs, hn]

theorem valveDone_of_ready (h : s.smk.state = .ready ∨ s.smk.state = .idleHold) :
    s.valveDone = (s.onSnd fun d => { d with valve := some 60000 }).systemRequest false 3 := by
  rw [State.valveDone, if_pos (by rcases h with h | h <;> simp [h, smokeReady])]

theorem valveDone_of_not_ready (h1 : s.smk.state ≠ .ready) (h2 : s.smk.state ≠ .idleHold) :
    s.valveDone = s.onSnd fun d => { d with valve := some 60000 } := by
  rw [State.valveDone, if_neg (by simp [h1, h2, smokeReady])]

theorem valveDone_fields (s : State) :
    s.valveDone.snd.valve = some 60000 ∧ s.valveDone.snd.voices = s.snd.voices ∧ reachesOnly [.snd, .rpt] s s.valveDone := by
  by_cases h : s.smk.state = .ready ∨ s.smk.state = .idleHold
  · rw [valveDone_of_ready h]
    simp [reachesOnly_iff]
  · rw [not_or] at h
    rw [valveDone_of_not_ready h.1 h.2]
    simp [reachesOnly_iff]

theorem exec_valveTimerExpires (hp : s.power = .running) (h : lastMs s.snd.valve = true) :
    exec .valveTimerExpires s = .next s.valveDone := by
  rw [exec, execValveTimerExpires, if_pos h, whenRunning_of_running hp]

theorem exec_standstillTimerExpires (hp : s.power = .running) (h : lastMs s.smk.standstill = true) :
    exec .standstillTimerExpires s = .next s.standstillDone := by
  rw [exec, execStandstillTimerExpires, if_pos h, whenRunning_of_running hp]

theorem standstillDone_smk (s : State) :
    s.standstillDone.smk.standstill = none ∧ s.standstillDone.smk.long = true ∧ s.standstillDone.smk.temp = s.smk.temp
      ∧ s.standstillDone.smk.heater = s.smk.heater
      ∧ s.standstillDone.smk.state = (if s.smk.state = .ready then .idleHold else s.smk.state)
      ∧ (s.smk.state = .ready → s.standstillDone.smk.burst = none ∧ s.standstillDone.smk.fan = s.image.smoke.fIdle) := by
  unfold State.standstillDone
  by_cases h : s.smk.state = .ready
  · simp [h, State.smokeEnter, State.fanRefresh, smokeHeats, fanDuty, State.image]
  · simp [h]

theorem exec_fanBurstEnds {b : Burst} (hp : s.power = .running) (hb : s.smk.burst = some b) (hle : b.left ≤ 1) :
    exec .fanBurstEnds s = .next s.burstDone := by
  rw [exec, execFanBurstEnds, if_pos (by simp [hb, burstDue, hle]), whenRunning_of_running hp]

theorem burstDone_fan (s : State) : s.burstDone.smk.fan = fanDuty s.image.smoke s.spr.stopped s.smk.state none := rfl

end Rest

/-- Settles O54: each timer's guard and answer. -/
theorem restTimersExpire : Obligations.RestTimersExpire := by
  refine ⟨fun s n hn => ⟨fun h => ?_, fun h => ?_, fun b hb hlt => ?_⟩, fun s hp hlast => ?_, fun s hp => ⟨fun hlast => ?_,
    fun b hb hle => ?_⟩⟩
  · rw [exec, execValveTimerExpires, if_neg (by simp [lastMs_of_running h hn])]
  · rw [exec, execStandstillTimerExpires, if_neg (by simp [lastMs_of_running h hn])]
  · rw [exec, execFanBurstEnds, if_neg (by simp [hb, burstDue, hlt])]
  · obtain ⟨hvalve, hvoices, hreach⟩ := valveDone_fields s
    refine answers_of_exec (exec_valveTimerExpires hp hlast) ⟨hvalve, hvoices, valveDone_of_not_ready, fun hready hport hroom => ?_, hreach⟩
    rw [valveDone_of_ready hready, State.systemRequest,
      request_of_room (s := s.onSnd fun d => { d with valve := some 60000 }) hport (fun hn => by cases hn) hroom]
    rfl
  · obtain ⟨hstandstill, hlong, htemp, hheater, hstate, hfan⟩ := standstillDone_smk s
    exact answers_of_exec (exec_standstillTimerExpires hp hlast)
      ⟨hstandstill, hlong, htemp, hheater, hstate, hfan, by simp [reachesOnly_iff]⟩
  · refine answers_of_exec (exec_fanBurstEnds hp hb hle) ⟨rfl, rfl, ?_, rfl, rfl, by simp [reachesOnly_iff]⟩
    rw [burstDone_fan]
    cases s.smk.state <;> rfl

end Sys2Proof.Machine
end

section
/-! The lamps: what an event switches on begins its phases, the output's levels, and the lamp timers (section 10.2). -/

namespace Sys2Proof.Machine

/-! ### Switching on (R155) -/

/-- The phases of a lamp that goes from dark to lit begin (R155). -/
def BeginsPhases (s t : State) : Prop :=
  ∀ n, (s.lamp n).lit = false → (t.lamp n).lit = true →
    (t.lamp n).strobe = 0 ∧ (t.lamp n).fade = (if t.lampEffect n = .fade then 0 else 16)

/-- Every lamp stands as it did but for its blink. -/
def SamePhases (s t : State) : Prop := ∀ n, ∃ b, t.lamp n = { s.lamp n with blink := b }

section Begins

variable {s t u : State}

theorem lamp_congr (h : t.lmp.lamps = s.lmp.lamps) (n : Nat) : t.lamp n = s.lamp n := by simp [State.lamp, h]

theorem SamePhases.of_lamps (h : t.lmp.lamps = s.lmp.lamps) : SamePhases s t := fun n => ⟨_, lamp_congr h n⟩

theorem SamePhases.trans (h : SamePhases s t) (h' : SamePhases t u) : SamePhases s u := fun n => by
  obtain ⟨b, hb⟩ := h n
  obtain ⟨b', hb'⟩ := h' n
  exact ⟨b', by rw [hb', hb]⟩

theorem blinkFrom_phases (mask : BitVec 8) (count k n : Nat) (ls : List LampState) :
    ∃ b, (blinkFrom mask count k ls).getD n {} = { ls.getD n {} with blink := b } := by
  induction ls generalizing k n with
  | nil => exact ⟨none, rfl⟩
  | cons l ls ih =>
    cases n with
    | zero =>
      simp only [blinkFrom, List.getD_cons_zero]
      split
      · exact ⟨_, rfl⟩
      · exact ⟨_, rfl⟩
    | succ n => simpa [blinkFrom] using ih (k + 1) n

theorem entryAction_phases (k : EntryAction) (s : State) : SamePhases s (s.entryAction k) := by
  cases k with
  | lampBlink m c => exact fun n => blinkFrom_phases m c 0 n s.lmp.lamps
  | sound | fanBurst => exact .of_lamps (by simp [State.entryAction])

theorem runActions_phases (ks : List EntryAction) (s : State) : SamePhases s (ks.foldl State.entryAction s) := by
  induction ks generalizing s with
  | nil => exact .of_lamps rfl
  | cons k ks ih => exact (entryAction_phases k s).trans (ih _)

theorem entryActions_phases (l : Level) (resume : Bool) (s : State) : SamePhases s (s.entryActions l resume) := by
  unfold State.entryActions
  split
  · exact runActions_phases _ s
  · exact .of_lamps rfl

theorem lampEffect_congr (hh : t.head = s.head) (hi : t.cfg.image = s.cfg.image) (n : Nat) : t.lampEffect n = s.lampEffect n := by
  simp only [State.lampEffect, State.lampForced, State.lampConfig, State.image, hh, hi]
  rfl

/-- What follows a refresh leaves the phases begun. -/
theorem BeginsPhases.after (h : BeginsPhases s t) (hphases : SamePhases t u) (hh : u.head = t.head) (hi : u.cfg.image = t.cfg.image) :
    BeginsPhases s u := fun n hdark hlit => by
  obtain ⟨b, hb⟩ := hphases n
  rw [hb] at hlit ⊢
  rw [lampEffect_congr hh hi]
  exact h n hdark hlit

/-- What comes before a refresh and leaves the lamps does not matter to it. -/
theorem BeginsPhases.before (h : BeginsPhases t u) (hl : t.lmp.lamps = s.lmp.lamps) : BeginsPhases s u := fun n hdark hlit =>
  h n (by rwa [lamp_congr hl]) hlit

theorem relit_begins {lit : Bool} {effect : LampEffect} {l : LampState} (hdark : l.lit = false) (hlit : (relit lit effect l).lit = true) :
    (relit lit effect l).strobe = 0 ∧ (relit lit effect l).fade = (if effect = .fade then 0 else 16) := by
  have hon : lit = true := by
    cases lit with
    | true => rfl
    | false => simp [relit] at hlit
  simp [relit, hdark, hon]

theorem lampsRefresh_begins (s : State) : BeginsPhases s s.lampsRefresh := fun n hdark hlit => by
  have heffect : s.lampsRefresh.lampEffect n = s.lampEffect n := lampEffect_congr (by simp [State.head]) (by simp) n
  by_cases hn : n < s.lmp.lamps.length
  · rw [lampsRefresh_lamp s hn] at hlit ⊢
    rw [heffect]
    exact relit_begins hdark hlit
  · have hnone : s.lampsRefresh.lamp n = {} := by
      unfold State.lamp
      rw [List.getD_eq_default]
      simpa [State.lampsRefresh] using hn
    rw [hnone] at hlit
    cases hlit

theorem functionsRefresh_begins (s : State) : BeginsPhases s s.functionsRefresh := by
  unfold State.functionsRefresh
  refine (lampsRefresh_begins _).before ?_
  split <;> simp

theorem activate_begins (h0 l : Level) (s : State) : BeginsPhases s (s.activate h0 l) := by
  have hacted : BeginsPhases s
      (((s.onAut fun a => markStarted l (loadSaved h0 l a)).functionsRefresh).entryActions l (autCtx s.aut l).started) :=
    BeginsPhases.after (t := (s.onAut fun a => markStarted l (loadSaved h0 l a)).functionsRefresh)
      ((functionsRefresh_begins (s.onAut fun a => markStarted l (loadSaved h0 l a))).before rfl) (entryActions_phases _ _ _)
      (by simp [State.head]) (by simp)
  simp only [State.activate]
  split
  · exact hacted.after (.of_lamps (by simp)) (by simp [State.head]) (by simp)
  · exact hacted

theorem changeHead_begins (h0 : Level) (s : State) : BeginsPhases s (s.changeHead h0) := by
  simp only [State.changeHead]
  split
  · exact functionsRefresh_begins s
  · refine (activate_begins _ _ _).before ?_
    split <;> simp

theorem settle_begins (s0 s : State) : BeginsPhases s (s.settle s0) := by
  refine ((changeHead_begins s0.head (s.settleClaims s0.head)).before (by simp)).after (.of_lamps (by simp [State.settle])) ?_
    (by simp [State.settle])
  simp [settle_head]

/-- Where no lamp changes its lit condition none is switched on. -/
theorem BeginsPhases.of_sameLit (h : SameLit s t) : BeginsPhases s t := fun n hdark hlit => by
  rw [h.2 n, hdark] at hlit
  cases hlit

theorem DirectEffect.sameLit {c : Instr} (h : DirectEffect s c t) : SameLit s t := by
  cases h with
  | edge => exact .of_lamps (camEdge_lamps _)
  | camWindow => exact .of_lamps (camEdge_lamps _)
  | fade => exact onLamp_sameLit (fun l => by unfold fadeUp; simp) s
  | blink => exact onLamp_sameLit (by simp) s
  | strobe => exact onLamp_sameLit (fun l => by unfold strobeOn; simp) s
  | flare | flicker | ditch => exact .of_lamps rfl
  | _ => exact .of_lamps (by simp)

/-- A command of a part that runs and goes on running begins the phases of what it switches on. -/
theorem Effect.begins {c : Instr} (h : Effect s c t) (hs : s.power = .running) (ht : t.power = .running) : BeginsPhases s t := by
  cases h with
  | nothing => exact .of_sameLit (.of_lamps rfl)
  | header => exact .of_sameLit (.of_lamps (by simp))
  | closed running body =>
    rw [close_power] at ht
    rw [close_of_running ht]
    rcases body.handed with hstopped | ⟨-, -, hlamps, -⟩
    · exact absurd ht hstopped
    · exact (settle_begins s _).before hlamps
  | direct running effect => exact .of_sameLit effect.sameLit
  | discarded starting => rw [starting] at hs; cases hs
  | sensor stands => exact absurd hs stands
  | entry starting => rw [starting] at hs; cases hs
  | brownOut => exact absurd ht (by simp [State.brownOut, State.startValues])
  | powerOn => exact absurd ht (by simp [State.beginStart, State.startValues])

end Begins

/-! ### Outputs (R156, R158) -/

/-- The output of a running part, by the supply (R158). -/
theorem lampOutput_of_running {s : State} (h : s.power = .running) (n : Nat) :
    s.lampOutput n =
      if s.sup.state = .normal then s.lampBase n
      else if s.sup.state = .bridging then s.lampBase n / 2
      else if (s.lampConfig n).role = .marker then s.lampBase n / 2 else 0 := by
  unfold State.lampOutput
  cases hsup : s.sup.state <;> simp [h]

theorem lampOutput_of_not_running {s : State} (h : s.power ≠ .running) (n : Nat) : s.lampOutput n = 0 := by
  unfold State.lampOutput
  cases hp : s.power with
  | running => exact absurd hp h
  | starting => rfl
  | off => rfl

theorem ditchFactor_eq (s : State) (n : Nat) :
    (if s.fnm.last.getLsbD s.image.ditch then (if ((s.lampConfig n).role == .ditchR) == s.lmp.ditchRight then 256 else 0) else 256) =
      if s.fnm.last.getLsbD s.image.ditch = false ∨ ((s.lampConfig n).role = .ditchR ↔ s.lmp.ditchRight = true) then 256 else 0 := by
  cases s.fnm.last.getLsbD s.image.ditch
  · simp
  · cases s.lmp.ditchRight <;> simp

/-! ### The lamp timers (R156, R157) -/

section Timers

variable {s : State} {n : Fin 8}

theorem onLamp_lamp (f : LampState → LampState) (hlen : s.lmp.lamps.length = 8) :
    (s.onLamp n f).lamp n = f (s.lamp n) ∧ ∀ m, m ≠ n.val → (s.onLamp n f).lamp m = s.lamp m := by
  have hn : n.val < s.lmp.lamps.length := by rw [hlen]; exact n.isLt
  refine ⟨?_, fun m hm => ?_⟩
  · simp [State.onLamp, State.lamp, hn]
  · simp [State.onLamp, State.lamp, List.getElem?_set_ne (Ne.symm hm)]

theorem exec_fadeStep (hp : s.power = .running) (h : fadeDue (s.lamp n) = true) : exec (.fadeStep n) s = .next (s.onLamp n fadeUp) := by
  rw [exec, execFadeStep, if_pos h, whenRunning_of_running hp]

theorem exec_strobePhaseAdvance (hp : s.power = .running) (h : strobeDue (s.lamp n) = true) :
    exec (.strobePhaseAdvance n) s = .next (s.onLamp n strobeOn) := by
  rw [exec, execStrobePhaseAdvance, if_pos h, whenRunning_of_running hp]

theorem exec_blinkPhaseEnd {b : Blink} (hp : s.power = .running) (hb : (s.lamp n).blink = some b) :
    exec (.blinkPhaseEnd n) s =
      if b.left ≤ 1 then .next (s.onLamp n fun l => { l with blink := nextBlink b }) else .next s := by
  simp only [exec, execBlinkPhaseEnd, hb, blinkDue, decide_eq_true_eq, whenRunning_of_running hp]

end Timers

/-- Settles O56: the switching on by the end of the event, the output by the supply, and each timer by its guard. -/
theorem lampTimersMoveTheirPhases : Obligations.LampTimersMoveTheirPhases := by
  refine ⟨fun c s t n _ h hs ht => (effect_of_exec h).begins hs ht n, fun s n base factor effect heffect hfactor hbase =>
    ⟨fun hp => ?output, fun hp => lampOutput_of_not_running hp n⟩, fun s n hp hlen => ⟨fun k hk => ?flare, ?flicker, fun k hk => ?ditch,
      fun hage => ?noFade, fun hlit hfade hage => ?fade, fun h49 h999 => ?noStrobe, fun hon hat => ?strobe,
      fun b hb hlt => ?noBlink, fun b hb hle => ?blink⟩⟩
  case output =>
    have hinforce : effect = s.lampEffect n := heffect
    have hfac : factor = s.lampFactor n := by
      rw [hfactor, hinforce, State.lampFactor]
      cases s.lampEffect n with
      | flicker => exact if_congr (by rw [Option.isSome_iff_ne_none]) rfl rfl
      | ditchAlt => exact (ditchFactor_eq s n).symm
      | _ => rfl
    have hlevel : base = s.lampBase n := by
      rw [hfac] at hbase
      exact hbase
    rw [lampOutput_of_running hp, hlevel]
    cases s.sup.state <;> rfl
  case flare =>
    have hlast : lastMs s.lmp.flare = true ↔ k ≤ 1 := by simp [hk, lastMs]
    split
    · rw [exec, execFlareEnds, if_pos (hlast.2 ‹_›), whenRunning_of_running hp]
      rfl
    · rw [exec, execFlareEnds, if_neg (mt hlast.1 ‹_›)]
  case flicker =>
    rw [exec, execFlickerLfsrStep, whenRunning_of_running hp]
    rfl
  case ditch =>
    have hlast : lastMs s.lmp.ditchLeft = true ↔ k ≤ 1 := by simp [hk, lastMs]
    split
    · rw [exec, execDitchPhaseToggle, if_pos (hlast.2 ‹_›), whenRunning_of_running hp]
      rfl
    · rw [exec, execDitchPhaseToggle, if_neg (mt hlast.1 ‹_›)]
  case noFade =>
    rw [exec, execFadeStep, if_neg]
    simp only [fadeDue, Bool.and_eq_true, decide_eq_true_eq, not_and]
    omega
  case fade =>
    obtain ⟨hset, hother⟩ := onLamp_lamp (n := n) fadeUp hlen
    refine answers_of_exec (exec_fadeStep hp (by simp [fadeDue, hlit, hfade, hage])) ?_
    rw [hset]
    exact ⟨rfl, hlit, rfl, hother, rfl, by simp [reachesOnly_iff, State.onLamp]⟩
  case noStrobe =>
    rw [exec, execStrobePhaseAdvance, if_neg]
    simp only [strobeDue, Bool.and_eq_true, Bool.or_eq_true, beq_iff_eq, decide_eq_true_eq, not_and, not_or]
    exact fun _ => ⟨h49, by omega⟩
  case strobe =>
    obtain ⟨hset, hother⟩ := onLamp_lamp (n := n) strobeOn hlen
    refine answers_of_exec (exec_strobePhaseAdvance hp (by simp [strobeDue, strobeCounts, hon, hat])) ?_
    rw [hset]
    exact ⟨rfl, rfl, hother, rfl, by simp [reachesOnly_iff, State.onLamp]⟩
  case noBlink => rw [exec_blinkPhaseEnd hp hb, if_neg (by omega)]
  case blink =>
    obtain ⟨hset, hother⟩ := onLamp_lamp (n := n) (fun l => { l with blink := nextBlink b }) hlen
    have hexec := exec_blinkPhaseEnd hp hb
    rw [if_pos hle] at hexec
    refine answers_of_exec hexec ?_
    rw [hset]
    exact ⟨rfl, rfl, hother, rfl, by simp [reachesOnly_iff, State.onLamp]⟩

end Sys2Proof.Machine
end

section
/-! A part between two events, and a stop with an empty pending-change slot: what the end of an event leaves then. With it the supply. -/

namespace Sys2Proof.Machine

/-! ### Nothing waits at AUT -/

section Settled

variable {s t : State}

theorem onAut_self (s : State) : s.onAut (fun _ => s.aut) = s := rfl

theorem settleClaims_signal_of_unclaimed (h0 : Level) (h : s.aut.signal.claimed = false) :
    (s.settleClaims h0).aut.signal.claimed = false := by
  have hkept : ((((s.signalTest h0).stallTest h0).holdTest).stopReachedTest h0).aut.signal.claimed = false := by
    simp [signalTest_of_unclaimed h, h]
  rw [State.settleClaims, signalTest_of_unclaimed hkept, hkept]

theorem settleClaims_of_done {h0 : Level} (hc : s.aut.signal.claimed = true)
    (hdone : signalDone (stopNow h0 s.aut) s.currentAspect = true) : (s.settleClaims h0).aut.signal.claimed = false := by
  have haut := signalTest_of_done hc hdone
  rw [settleClaims_of_signalTest (by rw [haut])]
  exact settleClaims_signal_of_unclaimed h0 (by rw [haut])

/-- No cause comes in the settling of claims. -/
theorem settleClaims_causes_le (h0 : Level) (s : State) {c : Cause} (h : causeIn c (s.settleClaims h0).aut.causes = true) :
    causeIn c s.aut.causes = true := by
  have hsplit : (s.settleClaims h0).aut.causes = ((((s.signalTest h0).stallTest h0).holdTest)).aut.causes := by
    simp [State.settleClaims]
  rw [hsplit, holdTest_aut] at h
  split at h
  · cases c <;> cases h
  · rw [stallTest_aut] at h
    split at h
    · cases c <;> simp_all [causeIn]
    · simpa using h

/-- A STALL whose test takes it out is out after the settling of claims. -/
theorem settleClaims_of_stall_over {h0 : Level} (hstall : s.aut.causes.stall = true) (hzero : (s.signalTest h0).targetBelowZero h0 = true) :
    (s.settleClaims h0).aut.causes.stall = false := by
  have hout : ((s.signalTest h0).stallTest h0).aut.causes.stall = false := by
    rw [stallTest_aut, if_pos ⟨by simpa using hstall, hzero⟩]
  have hsplit : (s.settleClaims h0).aut.causes = (((s.signalTest h0).stallTest h0).holdTest).aut.causes := by
    simp [State.settleClaims]
  rw [hsplit, holdTest_aut]
  split
  · rfl
  · exact hout

/-- Between two events none of the tests of the claims has anything to do. -/
theorem tests_of_settled (h : s.settleClaims s.head = s) :
    s.signalTest s.head = s ∧ s.stallTest s.head = s ∧ s.holdTest = s ∧ s.stopReachedTest s.head = s := by
  have hsignal : s.signalTest s.head = s := by
    rw [State.signalTest, if_neg]
    rw [Bool.and_eq_true]
    rintro ⟨hc, hdone⟩
    have hgone := settleClaims_of_done hc hdone
    rw [h, hc] at hgone
    cases hgone
  have hstall : s.stallTest s.head = s := by
    rw [State.stallTest, if_neg]
    rw [Bool.and_eq_true]
    rintro ⟨hin, hzero⟩
    have hout := settleClaims_of_stall_over (h0 := s.head) hin (by rw [hsignal]; exact hzero)
    rw [h, hin] at hout
    cases hout
  have hhold : s.holdTest = s := by
    rw [State.holdTest, if_neg]
    rintro ⟨hf, hh⟩
    have hreleased : (s.holdTest).aut.failsafe.claimed = false := by
      rw [holdTest_aut, if_pos ⟨hf, hh⟩]
    have hkept : (s.settleClaims s.head).aut.failsafe.claimed = (s.holdTest).aut.failsafe.claimed := by
      rw [State.settleClaims, hsignal, hstall]
      simp
    rw [h, hreleased, hf] at hkept
    cases hkept
  refine ⟨hsignal, hstall, hhold, ?_⟩
  have hlast : ((s.stopReachedTest s.head).signalTest s.head) = s := by
    have hall := h
    rwa [State.settleClaims, hsignal, hstall, hhold] at hall
  unfold State.stopReachedTest at hlast ⊢
  split
  next hstop =>
    rw [if_pos hstop] at hlast
    by_cases hdone : (s.onAut fun a => putStop s.head { stopNow s.head a with reached := true } a).signalTest s.head =
        s.onAut fun a => putStop s.head { stopNow s.head a with reached := true } a
    · rw [← hdone]
      exact hlast
    · obtain ⟨-, hc⟩ := autHead_signal.1 hstop.1
      rcases release_cases .signal (s.onAut fun a => putStop s.head { stopNow s.head a with reached := true } a) with hr | hr
      · refine absurd ?_ hdone
        unfold State.signalTest
        split
        · exact hr
        · rfl
      · exfalso
        have hgone : ((s.onAut fun a => putStop s.head { stopNow s.head a with reached := true } a).signalTest s.head).aut.signal.claimed
            = false := by
          unfold State.signalTest at hdone ⊢
          split at hdone
          · rw [if_pos ‹_›, hr]
            rfl
          · exact absurd rfl hdone
        rw [hlast, hc] at hgone
        cases hgone
  next => rfl

/-- What leaves AUT and the beacon record, and STOPPED or makes it end, leaves nothing waiting. -/
theorem settleClaims_of_settled (h : s.settleClaims s.head = s) (haut : t.aut = s.aut) (htkm : t.tkm = s.tkm)
    (hstop : t.spr.stopped = s.spr.stopped ∨ t.spr.stopped = false) : t.settleClaims s.head = t := by
  obtain ⟨hsignal, hstall, hhold, hreach⟩ := tests_of_settled h
  have hhead : t.head = s.head := by rw [State.head, haut]; rfl
  have hsignal' : t.signalTest s.head = t := by
    have haspect : t.currentAspect = s.currentAspect := by rw [State.currentAspect, htkm]; rfl
    rw [State.signalTest, if_neg]
    rw [haut, haspect, Bool.and_eq_true]
    rintro ⟨hc, hdone⟩
    have hgone := congrArg (fun u : State => u.aut.signal.claimed) hsignal
    simp [signalTest_of_done hc hdone, hc] at hgone
  have hstall' : t.stallTest s.head = t := by
    have hzero : t.targetBelowZero s.head = s.targetBelowZero s.head := by
      unfold State.targetBelowZero
      rw [haut]
    rw [State.stallTest, if_neg]
    rw [haut, hzero, Bool.and_eq_true]
    rintro ⟨hin, hz⟩
    have hout := congrArg (fun u : State => u.aut.causes.stall) hstall
    simp [stallTest_aut, hin, hz] at hout
  have hhold' : t.holdTest = t := by
    rw [State.holdTest, if_neg]
    rw [haut]
    rintro ⟨hf, hh⟩
    have hout := congrArg (fun u : State => u.aut.failsafe.claimed) hhold
    simp [holdTest_aut, hf, hh] at hout
  have hreach' : t.stopReachedTest s.head = t := by
    unfold State.stopReachedTest
    split
    next hst =>
      have hstopped : s.spr.stopped = true := by
        rcases hstop with hsame | hends
        · rw [← hsame]; exact hst.2
        · rw [hends] at hst
          cases hst.2
      have hput := congrArg State.aut hreach
      rw [stopReachedTest_aut, if_pos ⟨hhead ▸ hst.1, hstopped⟩, ← haut] at hput
      have heq : t.onAut (fun a => putStop s.head { stopNow s.head a with reached := true } a) = t.onAut fun _ => t.aut := by
        rw [State.onAut, hput]
        rfl
      rw [heq, onAut_self]
    next => rfl
  rw [State.settleClaims, hsignal', hstall', hhold', hreach', hsignal']

/-- The end of an event with nothing waiting at AUT hands on nothing and leaves the other blocks (R55, R57). -/
theorem settle_of_settled (h : Settled s) (hp : s.power = .running) (haut : t.aut = s.aut) (htkm : t.tkm = s.tkm)
    (hstop : t.spr.stopped = s.spr.stopped ∨ t.spr.stopped = false) (hcsu : t.csu.record = s.csu.record)
    (himage : t.cfg.image = s.cfg.image) (hfnm : t.fnm = s.fnm) :
    (t.settle s).smk = t.smk ∧ (t.settle s).snd = t.snd ∧ (t.settle s).spr = t.spr ∧ (t.settle s).fnm = t.fnm := by
  obtain ⟨hclaims, hfunctions⟩ := h
  obtain ⟨hevaluated, -⟩ := (functionLaw_iff s).1 hfunctions hp
  have hhead : t.head = s.head := by rw [State.head, haut]; rfl
  have hlast : t.fEff = t.fnm.last ∧ t.role = t.fnm.lastRole := by
    have hrole : t.role = s.role := role_congr hcsu himage
    have hset : t.fEff = s.fEff := by
      simp only [State.fEff, State.baseSet, State.image, hhead, haut, himage, hrole]
    rw [hset, hrole, hfnm, hevaluated]
    exact ⟨rfl, rfl⟩
  have hrefresh : t.changeHead s.head = t.lampsRefresh := by
    rw [State.changeHead, if_pos hhead, State.functionsRefresh, if_pos hlast]
  rw [State.settle, settleClaims_of_settled hclaims haut htkm hstop, hrefresh]
  simp

end Settled

/-! ### Stops with an empty slot (R76, R97, R98) -/

section EmptySlot

variable {s : State}

theorem applySlot_of_empty {h0 : Level} (h : s.csu.slot = .empty) : s.applySlot h0 = s := by
  rw [State.applySlot, h]

/-- With nothing pending STOPPED's judging reaches SPR, SMK and SND alone. -/
theorem judgeStopped_reach {h0 : Level} (h : s.csu.slot = .empty) :
    reachesOnly [.spr, .smk, .snd] s (s.judgeStopped h0) := by
  unfold State.judgeStopped
  simp only []
  split
  · rw [applySlot_of_empty (by simpa using h)]
    simp [reachesOnly_iff]
  · split <;> simp [reachesOnly_iff]

theorem judgeAfterStop_reach {h0 : Level} {ref : Nat} (h : s.csu.slot = .empty) :
    reachesOnly [.spr, .smk, .snd] s (s.judgeAfterStop h0 ref) := by
  unfold State.judgeAfterStop
  split
  · exact fun b _ => by cases b <;> rfl
  · exact judgeStopped_reach h

/-- With nothing pending the entry to DEPLETED reaches SPR, MRG, SMK and SND alone (R97, R108). -/
theorem depletedStop_reach {h0 : Level} (h : s.csu.slot = .empty) :
    reachesOnly [.spr, .mrg, .smk, .snd] s (s.depletedStop h0) := by
  have hstop : reachesOnly [.spr, .mrg, .smk, .snd] s (s.refStop.onMrg fun m =>
      { m with integral := 0, duty := 0, bridge := if bridgeActive m.bridge then .off else m.bridge }) := by
    simp [reachesOnly_iff]
  exact hstop.trans (judgeAfterStop_reach (by simpa using h)) (by simp)

end EmptySlot

/-! ### Evaluations of the supply (R161 to R164) -/

section Supply

variable {s : State} {track store : Byte}

theorem supplyMove_of_track (h : s.image.identity.supplyMode = .track) :
    s.supplyMove track store = trackMove s.image.supply track.toNat store.toNat s.sup := by
  rw [State.supplyMove, h]

theorem supplyMove_of_battery (h : s.image.identity.supplyMode = .battery) :
    s.supplyMove track store = batteryMove s.image.supply store.toNat s.sup := by
  rw [State.supplyMove, h]

theorem exec_supplyEvaluation (hp : s.power = .running) {m : SupplyMove} (hm : s.supplyMove track store = m) :
    exec (.supplyEvaluation track store) s = .next ((s.supplyMoved s.head m).settle s) := by
  simp only [exec, execSupplyEvaluation, hp, hm]
  rw [close_of_running (by simpa using hp)]

theorem exec_supplyLoss (hp : s.power = .running) {st : SupplyState} (hm : s.supplyMove track store = .to st) (hs : s.sup.state = .normal)
    (hst : st ≠ .normal) : exec (.supplyLoss track store) s = .next ((s.supplyMoved s.head (.to st)).settle s) := by
  rw [exec, execSupplyLoss, hm, if_pos (by simp [isLoss, hs, hst]), whenRunningClose_of_running hp (by simpa using hp)]

theorem exec_supplyReturn (hp : s.power = .running) (hm : s.supplyMove track store = .to .normal) (hs : s.sup.state ≠ .normal) :
    exec (.supplyReturn track store) s = .next ((s.supplyMoved s.head (.to .normal)).settle s) := by
  rw [exec, execSupplyReturn, hm, if_pos (by simp [isReturn, hs]), whenRunningClose_of_running hp (by simpa using hp)]

/-- An evaluation that counts changes SUP's counts alone. -/
theorem counts_answer (hp : s.power = .running) {l h : Nat} (hm : s.supplyMove track store = .counts l h) :
    answers (.supplyEvaluation track store) s fun t =>
      t.sup = { s.sup with low := l, high := h } ∧ reachesOnly (.sup :: settlingBlocks) s t ∧ motionKept s t := by
  have hreach : reachesOnly (.sup :: settlingBlocks) s (s.supplyMoved s.head (.counts l h)) := by
    simp [reachesOnly_iff, settlingBlocks, State.supplyMoved]
  exact answers_of_exec (exec_supplyEvaluation hp hm) ⟨by simp [State.supplyMoved], hreach.trans (reachesOnly_settle s _) (by simp),
    motionKept_settle (motionKept_of_spr_eq rfl)⟩

/-! #### BRIDGING -/

theorem smokeHeats_iff (st : SmokeState) : smokeHeats st = true ↔ st ∈ [SmokeState.warming, .ready, .idleHold, .zoneHold] := by
  cases st <;> simp [smokeHeats]

theorem smokeSupply_of_low (h : s.sup.state ≠ .normal) :
    s.smokeSupply.smk.state = if s.smk.state ∈ [SmokeState.warming, .ready, .idleHold, .zoneHold] then .shed else s.smk.state := by
  rw [State.smokeSupply, if_neg h]
  by_cases hheat : smokeHeats s.smk.state = true
  · rw [if_pos hheat, if_pos ((smokeHeats_iff _).1 hheat)]
    simp [State.smokeEnter, State.fanRefresh]
  · rw [if_neg hheat, if_neg (mt (smokeHeats_iff _).2 hheat)]

theorem smokeSupply_heater (h : s.sup.state ≠ .normal) (hheat : smokeHeats s.smk.state = true) : s.smokeSupply.smk.heater = false := by
  rw [State.smokeSupply, if_neg h, if_pos hheat]
  simp [State.smokeEnter, State.fanRefresh, smokeHeats]

/-- Away from NORMAL the end of an event leaves the heater off. -/
theorem settle_heater_off {t : State} (h : t.smk.heater = false) (hsup : t.sup.state ≠ .normal) : (t.settle s).smk.heater = false := by
  have hlaw := (settle_carries (codes := []) t s).heater (heaterLaw_of_off h)
  by_contra hon
  have hallowed := hlaw (by simpa using hon)
  simp [State.heaterAllowed, hsup] at hallowed

theorem bridging_answer (hp : s.power = .running) (hs : s.sup.state = .normal) (hm : s.supplyMove track store = .to .bridging) :
    answers (.supplyLoss track store) s fun t =>
      t.sup = { s.sup with state := .bridging, low := 0, high := 0, bridging := some s.image.supply.bridgeMax, normalHold := none }
        ∧ (smokeHeats s.smk.state = true → t.smk.heater = false)
        ∧ (Settled s →
            t.smk.state = if s.smk.state ∈ [SmokeState.warming, .ready, .idleHold, .zoneHold] then .shed else s.smk.state)
        ∧ reachesOnly (.sup :: settlingBlocks) s t ∧ motionKept s t := by
  have hreach : reachesOnly (.sup :: settlingBlocks) s s.enterBridging := by
    simp [reachesOnly_iff, settlingBlocks]
  have hsup : s.enterBridging.sup =
      { s.sup with state := .bridging, low := 0, high := 0, bridging := some s.image.supply.bridgeMax, normalHold := none } := by
    simp [State.enterBridging]
  refine answers_of_exec (exec_supplyLoss hp hm hs (by decide)) ⟨by simp [State.supplyMoved, hsup], fun hheat => ?_, fun hsettled => ?_,
    hreach.trans (reachesOnly_settle s _) (by simp), motionKept_settle (motionKept_of_spr_eq (by simp [State.supplyMoved]))⟩
  · refine settle_heater_off ?_ (by simp [State.supplyMoved, hsup])
    exact smokeSupply_heater (by simp) (by simpa using hheat)
  · obtain ⟨hsmk, -⟩ := settle_of_settled (t := s.enterBridging) hsettled hp (by simp) (by simp) (.inl (by simp)) (by simp) (by simp)
      (by simp)
    have hstate : ((s.supplyMoved s.head (.to .bridging)).settle s).smk.state = s.enterBridging.smk.state := congrArg Smk.state hsmk
    rw [hstate, State.enterBridging, smokeSupply_of_low (by simp)]
    simp

/-! #### DEPLETED -/

/-- The entry to DEPLETED up to the stop at SPR and MRG (R163, R164). -/
def State.depletedShed (s : State) : State :=
  ((s.onSup fun u =>
    { u with state := .depleted, low := 0, high := 0, bridging := none, normalHold := none, raised := true }).addCause .supply).smokeSupply

theorem enterDepleted_eq (h0 : Level) (s : State) : s.enterDepleted h0 = s.depletedShed.depletedStop h0 := rfl

theorem bridgeActive_depleted (b : Bridge) : bridgeActive (if bridgeActive b then .off else b) = false := by
  cases b <;> rfl

theorem depleted_answer {c : Instr} (hlaw : FailsafeLaw s.aut) (hslot : s.csu.slot = .empty)
    (hexec : exec c s = .next ((s.supplyMoved s.head (.to .depleted)).settle s)) : answers c s (entersDepleted s) := by
  have hshed : reachesOnly (.mrg :: .sup :: settlingBlocks) s s.depletedShed := by
    simp [reachesOnly_iff, settlingBlocks, State.depletedShed]
  have hstop : reachesOnly [.spr, .mrg, .smk, .snd] s.depletedShed (s.enterDepleted s.head) :=
    depletedStop_reach (by simpa [State.depletedShed] using hslot)
  have halarm : Alarmed .supply (s.enterDepleted s.head).aut := by
    have hadd : Alarmed .supply s.depletedShed.aut := by
      have h := addCause_alarmed .supply (s := s.onSup fun u =>
        { u with state := .depleted, low := 0, high := 0, bridging := none, normalHold := none, raised := true }) hlaw
      simpa [State.depletedShed] using h
    rwa [(hstop .aut (by decide) : (s.enterDepleted s.head).aut = s.depletedShed.aut)]
  obtain ⟨hstands, hhead⟩ := halarm.settle (s0 := s) (by decide)
  have hmrg : (s.enterDepleted s.head).mrg = { s.mrg with
      integral := 0, duty := 0, bridge := if bridgeActive s.mrg.bridge then .off else s.mrg.bridge } := by
    rw [enterDepleted_eq, depletedStop_mrg]
    simp [State.depletedShed]
  have hmrg' : ((s.enterDepleted s.head).settle s).mrg = _ := (by simp : _ = (s.enterDepleted s.head).mrg).trans hmrg
  refine answers_of_exec hexec ⟨?_, ?_, ?_, ?_, ?_, hstands.cause, hhead,
    (hshed.trans hstop (by simp [settlingBlocks])).trans (reachesOnly_settle s _) (by simp)⟩
  · simp [State.supplyMoved, enterDepleted_eq, State.depletedShed]
  · simpa [State.supplyMoved, enterDepleted_eq] using depletedStop_ref s.head s.depletedShed
  · exact congrArg Mrg.duty hmrg'
  · exact congrArg Mrg.integral hmrg'
  · exact (congrArg (fun m => bridgeActive m.bridge) hmrg').trans (bridgeActive_depleted _)

/-! #### NORMAL -/

theorem normal_answer (hp : s.power = .running) (hs : s.sup.state ≠ .normal) (hm : s.supplyMove track store = .to .normal) :
    answers (.supplyReturn track store) s fun t =>
      t.sup = { s.sup with
          state := .normal, low := 0, high := 0, bridging := none, normalHold := if s.sup.raised then some 500 else none }
        ∧ (Settled s → t.smk.state = if s.smk.state = .shed then .warming else s.smk.state)
        ∧ reachesOnly (.sup :: settlingBlocks) s t ∧ motionKept s t := by
  have hreach : reachesOnly (.sup :: settlingBlocks) s s.enterNormal := by
    simp [reachesOnly_iff, settlingBlocks]
  refine answers_of_exec (exec_supplyReturn hp hm hs) ⟨by simp [State.supplyMoved, State.enterNormal], fun hsettled => ?_,
    hreach.trans (reachesOnly_settle s _) (by simp), motionKept_settle (motionKept_of_spr_eq (by simp [State.supplyMoved]))⟩
  obtain ⟨hsmk, -⟩ := settle_of_settled (t := s.enterNormal) hsettled hp (by simp) (by simp) (.inl (by simp)) (by simp) (by simp)
    (by simp)
  have hstate : ((s.supplyMoved s.head (.to .normal)).settle s).smk.state = s.enterNormal.smk.state := congrArg Smk.state hsmk
  rw [hstate, State.enterNormal, State.smokeSupply, if_pos (by simp)]
  by_cases hshed : s.smk.state = .shed
  · simp [hshed, State.smokeEnter, State.fanRefresh]
  · simp [hshed]

end Supply

/-- Settles O57: each move of the evaluation by its answer. -/
theorem trackLossLeavesNormal : Obligations.TrackLossLeavesNormal := by
  intro s track store hp hlaw hslot
  refine ⟨fun hmode hs => ?_, fun hmode hs hlow => ?_, fun hmode hs => ?_⟩
  · have hmove := supplyMove_of_track (track := track) (store := store) hmode
    simp only [trackMove, hs, lossMove] at hmove
    refine ⟨fun hgood => ?_, fun hbad hlow => ?_, fun hbad hlow hstore => ?_, fun hbad hlow hstore => ?_⟩
    · exact counts_answer hp (by simpa [Nat.not_lt.2 hgood] using hmove)
    · exact counts_answer hp (by simpa [hbad, hlow] using hmove)
    · exact bridging_answer hp hs (by simpa [hbad, hlow, Nat.not_lt.2 hstore] using hmove)
    · exact depleted_answer hlaw hslot (exec_supplyLoss hp (by simpa [hbad, hlow, hstore] using hmove) hs (by decide))
  · have hmove := supplyMove_of_track (track := track) (store := store) hmode
    simp only [trackMove, hs, if_pos hlow] at hmove
    exact depleted_answer hlaw hslot (exec_supplyEvaluation hp hmove)
  · have hmove := supplyMove_of_battery (track := track) (store := store) hmode
    simp only [batteryMove, hs, lossMove] at hmove
    refine ⟨fun hgood => ?_, fun hbad hlow => ?_, fun hbad hlow => ?_⟩
    · exact counts_answer hp (by simpa [Nat.not_lt.2 hgood] using hmove)
    · exact counts_answer hp (by simpa [hbad, hlow] using hmove)
    · exact depleted_answer hlaw hslot (exec_supplyLoss hp (by simpa [hbad, hlow] using hmove) hs (by decide))

/-- Outside NORMAL an evaluation that finds no exhausted store in BRIDGING is judged by its sample alone (R161, R162). -/
theorem supplyMove_outside_normal {s : State} {track store : Byte} {good : Bool} (hs : s.sup.state ≠ .normal)
    (htrack : s.image.identity.supplyMode = .track → good = decide (s.image.supply.trackMin + 4 ≤ track.toNat))
    (hbattery : s.image.identity.supplyMode = .battery → good = decide (s.image.supply.storeLow + 4 ≤ store.toNat))
    (hstore : s.sup.state = .bridging → s.image.identity.supplyMode = .track → s.image.supply.storeLow ≤ store.toNat) :
    s.supplyMove track store = returnMove good s.sup := by
  cases hmode : s.image.identity.supplyMode with
  | track =>
    rw [supplyMove_of_track hmode, htrack hmode, trackMove]
    cases hst : s.sup.state with
    | normal => exact absurd hst hs
    | bridging => exact if_neg (Nat.not_lt.2 (hstore hst hmode))
    | depleted => rfl
  | battery =>
    rw [supplyMove_of_battery hmode, hbattery hmode, batteryMove]
    cases hst : s.sup.state with
    | normal => exact absurd hst hs
    | bridging => rfl
    | depleted => rfl

/-- Settles O58: the return by its count, the timers by their guards and causes. -/
theorem supplyReturnsAndItsTimersExpire : Obligations.SupplyReturnsAndItsTimersExpire := by
  intro s track store hp hlaw
  refine ⟨fun hs hhigh htrack hbattery hstore => ?_, fun good hs htrack hbattery hstore hcount => ?_, fun n hn => ⟨fun h => ?_, fun h => ?_⟩,
    fun hlast => ?_, fun hlast => ?_⟩
  · have hmove : s.supplyMove track store = returnMove true s.sup :=
      supplyMove_outside_normal hs (fun h => (decide_eq_true (htrack h)).symm) (fun h => (decide_eq_true (hbattery h)).symm) hstore
    exact normal_answer hp hs (by simpa [returnMove, hhigh] using hmove)
  · have hmove := supplyMove_outside_normal hs htrack hbattery hstore
    cases good with
    | true =>
      have hlt : s.sup.high + 1 < 10 := by have := hcount rfl; omega
      exact counts_answer hp (l := s.sup.low) (by simpa [returnMove, hlt] using hmove)
    | false => exact counts_answer hp (l := s.sup.low) (by simpa [returnMove] using hmove)
  · rw [exec, execBridgingTimerExpires, if_neg (by simp [lastMs_of_running h hn])]
  · rw [exec, execNormalHoldExpires, if_neg (by simp [lastMs_of_running h hn])]
  · have hexec : exec .bridgingTimerExpires s = .next (s.bridgingDone.settle s) := by
      refine exec_of_close ?_ hp (by simp)
      rw [exec, execBridgingTimerExpires, if_pos hlast]
    have hreach : reachesOnly (.sup :: settlingBlocks) s s.bridgingDone := by simp [reachesOnly_iff, settlingBlocks]
    obtain ⟨hstands, hhead⟩ := (addCause_alarmed .supply (s := s.onSup fun u => { u with bridging := none, raised := true }) hlaw).settle
      (s0 := s) (by decide)
    exact answers_of_exec hexec ⟨by simp [State.bridgingDone], hstands.cause, hhead, hreach.trans (reachesOnly_settle s _) (by simp),
      motionKept_settle (motionKept_of_spr_eq (by simp))⟩
  · have hexec : exec .normalHoldExpires s = .next (s.normalHoldDone.settle s) := by
      refine exec_of_close ?_ hp (by simp)
      rw [exec, execNormalHoldExpires, if_pos hlast]
    have hreach : reachesOnly (.sup :: settlingBlocks) s s.normalHoldDone := by simp [reachesOnly_iff, settlingBlocks]
    have hcause : s.normalHoldDone.aut.causes.supply = false := by rw [State.normalHoldDone, removeCause_causes]; rfl
    refine answers_of_exec hexec ⟨by simp [State.normalHoldDone], ?_, hreach.trans (reachesOnly_settle s _) (by simp),
      motionKept_settle (motionKept_of_spr_eq (by simp))⟩
    rw [(settle_causes s.normalHoldDone s).1, ← Bool.not_eq_true]
    intro hin
    have hback := settleClaims_causes_le s.head s.normalHoldDone (c := .supply) hin
    rw [causeIn, hcause] at hback
    cases hback

end Sys2Proof.Machine
end

section
/-! Service, page writes and the start (chapter 12, sections 11.5 and 12.2). -/

namespace Sys2Proof.Machine

/-! ### What the end of an event keeps -/

/-- A report that is due stays due through the end of an event (R22). -/
theorem settle_due {s s0 : State} (h : s.rpt.due = true) : (s.settle s0).rpt.due = true := by
  have hchange : ((s.settleClaims s0.head).changeHead s0.head).requestedRefresh.rpt.due = true := by simp [h]
  have hperiod : ∀ u : State, u.rpt.due = true → u.periodTest.rpt.due = true := fun u hu => by
    unfold State.periodTest
    split
    · split
      · rfl
      · exact hu
    · exact hu
  rw [State.settle, State.reportTest]
  split
  · exact hperiod _ rfl
  · exact hperiod _ hchange

/-- A cause that is out before the end of an event is out after it. -/
theorem settle_cause_out {s s0 : State} {c : Cause} (h : causeIn c s.aut.causes = false) : causeIn c (s.settle s0).aut.causes = false := by
  rw [(settle_causes s s0).1, ← Bool.not_eq_true]
  intro hin
  rw [settleClaims_causes_le s0.head s hin] at h
  cases h

/-! ### The start sequence begins (R165, R167) -/

theorem imageChoice_eq (mem : List Host.Cell) (answered : Bool) :
    chosenImage mem answered =
      clampImage (if answered = true ∧ imageCrcHolds mem = true then imageAt (memBytes mem 0 510) else defaultImage) := by
  rw [chosenImage, imageValid]
  exact congrArg clampImage (if_congr Bool.and_eq_true_iff rfl rfl)

/-- A start reads of the state before it what a start keeps alone. -/
theorem beginStart_congr {s v : State} (answers : Bool) (hp : v.pending = s.pending) (hc : v.chg = s.chg) (he : v.eeprom = s.eeprom)
    (hf : v.flash = s.flash) (hr : v.rxc.renewals = s.rxc.renewals) : v.beginStart answers = s.beginStart answers := by
  simp only [State.beginStart, State.startValues, hp, hc, he, hf, hr]

theorem close_of_start {s s0 : State} (answers : Bool) : (s.beginStart answers).close s0 = s.beginStart answers := rfl

/-! ### Page writes (R171, R173) -/

section Pages

variable {s : State} {w : Writing} {wrong : List (Nat × BitVec 8)} {again answered : Bool}

theorem exec_pageWriteComplete (hp : s.power = .running) (hw : s.cfg.writing = some w) :
    exec (.pageWriteComplete answered wrong again) s = .next ((s.pageDone answered wrong again w).close s) := by
  simp only [exec, execPageWriteComplete, hw, whenRunningClose, whenRunning_of_running hp]

theorem verified_iff {mem cells : List Host.Cell} : verified mem cells = true ↔ ∀ c ∈ cells, memRead mem c.1 = c.2 := by
  simp [verified]

/-- The page's bytes stored. -/
def State.pageIn (w : Writing) (wrong : List Host.Cell) (s : State) : State := s.onEeprom fun m => pageStored m w wrong

/-- The status a write ends with (R171). -/
def endStatus (s : State) (w : Writing) (wrong : List Host.Cell) (answered : Bool) : ServiceStatus :=
  if answered = true ∧ ∀ c ∈ w.written ++ w.inFlight, memRead (pageStored s.eeprom w wrong) c.1 = c.2 then .done else .writeFailed

theorem pageDone_of_next (h : w.hasCrc = false) :
    s.pageDone true wrong again w =
      (s.pageIn w wrong).onCfg fun c =>
        { c with
          writing :=
            some (writingPage (pageStored s.eeprom w wrong) w.offset w.count w.data (nextPage w.offset w.count w.page)
              (w.written ++ w.inFlight)) } := by
  rcases pageDone_cases true wrong again w s with ⟨-, -, hd⟩ | ⟨hcrc, -⟩
  · exact hd
  · rw [hcrc rfl] at h
    cases h

theorem pageDone_of_end (h : answered = true → w.hasCrc = true) :
    s.pageDone answered wrong again w = (s.pageIn w wrong).writeDone (endStatus s w wrong answered) again := by
  rcases pageDone_cases answered wrong again w s with ⟨ha, hno, -⟩ | ⟨-, hd⟩
  · rw [h ha] at hno
    cases hno
  · rw [hd, endStatus]
    exact congrArg (State.writeDone · again (s.pageIn w wrong)) (if_congr (and_congr_right fun _ => verified_iff) rfl rfl)

theorem writeDone_of_no_restart {st : ServiceStatus} (h : s.cfg.restartPending = false) :
    s.writeDone st again = (s.onCfg fun c => { c with writing := none }).answer st := by
  rw [State.writeDone, if_neg (by simp [h])]

theorem writeDone_of_restart {st : ServiceStatus} (h : s.cfg.restartPending = true) :
    s.writeDone st again = ((s.onCfg fun c => { c with writing := none }).answer st).beginStart again := by
  rw [State.writeDone, if_pos h]

end Pages

/-- Settles O60: the next page, the end of the write, and the deferred restart. -/
theorem pageWritesLeadToDone : Obligations.PageWritesLeadToDone := by
  intro s w wrong again hp hw
  refine ⟨fun hcrc => ?next, fun answered hcrc hrestart => ?ends, fun answered hcrc hrestart => ?restarts⟩
  case next =>
    have hexec := exec_pageWriteComplete (answered := true) (wrong := wrong) (again := again) hp hw
    rw [pageDone_of_next hcrc, close_of_running (by exact hp)] at hexec
    refine answers_of_exec hexec ⟨by simp [State.pageIn], by simp [State.pageIn, writingPage, crcPage], ?_,
      motionKept_settle (motionKept_of_spr_eq rfl)⟩
    have hreach : reachesOnly (.cfg :: .eeprom :: settlingBlocks) s ((s.pageIn w wrong).onCfg fun c =>
        { c with
          writing :=
            some (writingPage (pageStored s.eeprom w wrong) w.offset w.count w.data (nextPage w.offset w.count w.page)
              (w.written ++ w.inFlight)) }) := by
      simp [reachesOnly_iff, settlingBlocks, State.pageIn]
    exact hreach.trans (reachesOnly_settle s _) (by simp)
  case ends =>
    have hexec := exec_pageWriteComplete (answered := answered) (wrong := wrong) (again := again) hp hw
    rw [pageDone_of_end hcrc, writeDone_of_no_restart (by exact hrestart), close_of_running (by simpa [State.pageIn] using hp)] at hexec
    have hreach : reachesOnly (.cfg :: .eeprom :: settlingBlocks) s
        (((s.pageIn w wrong).onCfg fun c => { c with writing := none }).answer (endStatus s w wrong answered)) := by
      simp [reachesOnly_iff, settlingBlocks, State.pageIn]
    have heeprom : ((((s.pageIn w wrong).onCfg fun c => { c with writing := none }).answer (endStatus s w wrong answered)).settle s).eeprom
        = pageStored s.eeprom w wrong := by simp [State.pageIn]
    refine answers_of_exec hexec ⟨heeprom, ?_, settle_due rfl, hreach.trans (reachesOnly_settle s _) (by simp),
      motionKept_settle (motionKept_of_spr_eq (by simp [State.pageIn]))⟩
    rw [heeprom]
    simp [State.pageIn, endStatus]
  case restarts =>
    have hexec := exec_pageWriteComplete (answered := answered) (wrong := wrong) (again := again) hp hw
    rw [pageDone_of_end hcrc, writeDone_of_restart (by exact hrestart), close_of_start] at hexec
    exact hexec

/-! ### Service operations (R170 to R173) -/

section Service

variable {s : State} {h : Collected} {payload : List Byte} {crc : BitVec 16} {ans : Bool}

/-- The part after PTB has heard an accepted SERVICE frame. -/
def State.serviceHeard (s : State) (h : Collected) : State := (s.accepted 5).hear (frameInfo h) .tool none

theorem serviceHeard_kept (s : State) (h : Collected) :
    (s.serviceHeard h).cfg = s.cfg ∧ (s.serviceHeard h).spr = s.spr ∧ (s.serviceHeard h).mrg = s.mrg ∧ (s.serviceHeard h).aut = s.aut
      ∧ (s.serviceHeard h).eeprom = s.eeprom ∧ (s.serviceHeard h).power = s.power
      ∧ reachesOnly (.rxc :: .ptb :: .tkm :: .mrg :: .cfg :: settlingBlocks) s (s.serviceHeard h)
      ∧ reachesOnly (.rxc :: .ptb :: .tkm :: .cfg :: settlingBlocks) s (s.serviceHeard h) := by
  simp [State.serviceHeard, reachesOnly_iff, settlingBlocks]

/-- The row of a SERVICE frame, by its op byte (entry 34). -/
theorem frameRow_service (h : 1 ≤ serviceOp payload) (h3 : serviceOp payload ≤ 3) :
    serviceOp payload = 1 ∧ frameRow 5 payload crc ans = .serviceWrite payload crc ∨
      serviceOp payload = 2 ∧ frameRow 5 payload crc ans = .serviceClearFaults payload crc ∨
      serviceOp payload = 3 ∧ frameRow 5 payload crc ans = .serviceRestart payload crc ans := by
  obtain hop | hop | hop : serviceOp payload = 1 ∨ serviceOp payload = 2 ∨ serviceOp payload = 3 := by omega
  · exact .inl ⟨hop, by simp only [frameRow, hop]⟩
  · exact .inr (.inl ⟨hop, by simp only [frameRow, hop]⟩)
  · exact .inr (.inr ⟨hop, by simp only [frameRow, hop]⟩)

theorem frameRow_other (h : serviceOp payload < 1 ∨ 3 < serviceOp payload) : frameRow 5 payload crc ans = .serviceOtherOp payload crc := by
  simp only [frameRow]
  split <;> [omega; omega; omega; rfl]

/-- A SERVICE frame to the own ID is judged by CFG after PTB has heard it (R14, R170). -/
theorem exec_service (harr : arrives 5 s h payload crc) (hdest : headerDest h.bytes = s.ownId) :
    exec (frameRow 5 payload crc ans) s =
      .next (((s.serviceHeard h).takeService (ans && serviceOp payload == 3) (serviceData payload)).close s) := by
  obtain ⟨kinds, hk, hexec⟩ := exec_frameRow 5 payload crc ans s
  rw [takeFrame_of_arrives harr (by omega) (by omega) hk] at hexec
  have hdest' : (frameInfo h).dest = (s.accepted 5).ownId := by simpa [State.ownId, frameInfo] using hdest
  rw [hexec, frameDispatch, State.dispatchService, if_pos hdest']
  rfl

/-- A refusal changes CFG as its answer says, and makes a report due (R22, R170). -/
theorem answered_event {t : State} {st : ServiceStatus} {f : Cfg → Cfg} (hp : s.power = .running)
    (ht : t = ((s.serviceHeard h).onCfg f).answer st) :
    (t.settle s).cfg = { f s.cfg with status := st } ∧ (t.settle s).rpt.due = true
      ∧ reachesOnly (.rxc :: .ptb :: .tkm :: .cfg :: settlingBlocks) s (t.settle s) ∧ motionKept s (t.settle s)
      ∧ t.close s = t.settle s := by
  obtain ⟨hcfg, hspr, -, -, -, hpower, -, hreach⟩ := serviceHeard_kept s h
  have hown : reachesOnly (.rxc :: .ptb :: .tkm :: .cfg :: settlingBlocks) (s.serviceHeard h) t := by
    subst ht
    simp [reachesOnly_iff, settlingBlocks]
  have hpt : t.power = .running := by
    subst ht
    simpa [hpower] using hp
  refine ⟨?_, settle_due (by rw [ht]; rfl), (hreach.trans hown (List.Subset.refl _)).trans (reachesOnly_settle s t) (by decide),
    motionKept_settle (motionKept_of_spr_eq ?_), close_of_running hpt⟩
  · subst ht
    simp [hcfg]
  · subst ht
    simpa using hspr

theorem contextAllows_iff {op : Nat} {l : Level} : contextAllows op l = true ↔ op = 2 ∨ l = .parked ∨ l = .driver := by
  simp [contextAllows, or_assoc]

theorem rangeFails_iff {d : ServiceData} : rangeFails d = true ↔ d.count = 0 ∨ 16 < d.count ∨ 510 < d.offset + d.count := by
  simp [rangeFails, or_assoc]

theorem serviceHeard_head (s : State) (h : Collected) : (s.serviceHeard h).head = s.head := by
  rw [State.head, (serviceHeard_kept s h).2.2.2.1]
  rfl

end Service

/-- Settles O33: the refusals, each by the first test that applies. -/
theorem serviceRefusalsAreAnswered : Obligations.ServiceRefusalsAreAnswered := by
  intro s h payload crc ans harr hdest
  obtain ⟨hcfg, hspr, -⟩ := serviceHeard_kept s h
  have hhead := serviceHeard_head s h
  have hop : (serviceData payload).op = serviceOp payload := rfl
  have hrow := exec_service (ans := ans) harr hdest
  have answered : ∀ (c : Instr) (b : Bool) (st : ServiceStatus) (f : Cfg → Cfg),
      exec c s = .next (((s.serviceHeard h).takeService b (serviceData payload)).close s) →
      (s.serviceHeard h).takeService b (serviceData payload) = ((s.serviceHeard h).onCfg f).answer st →
      answers c s fun t => t.cfg = { f s.cfg with status := st } ∧ t.rpt.due = true
        ∧ reachesOnly (.rxc :: .ptb :: .tkm :: .cfg :: settlingBlocks) s t ∧ motionKept s t := fun c b st f hexec htake => by
    obtain ⟨h1, h2, h3, h4, hclose⟩ := answered_event (h := h) harr.1 htake
    rw [hclose] at hexec
    exact answers_of_exec hexec ⟨h1, h2, h3, h4⟩
  refine ⟨fun hother => ?op, fun h1 h3 hmotion => ?motion, fun h1 h3 hstop hctx hbusy => ?busy, fun h1 hstop hctx hfree hrange => ?range⟩
  case op =>
    rw [frameRow_other hother] at hrow
    refine answered _ _ .refusedOp id hrow ?_
    rw [State.takeService, if_pos (by simpa [hop] using hother)]
    rfl
  case motion =>
    refine answered _ _ .refusedMotion id hrow ?_
    rw [State.takeService, if_neg (by rw [hop]; omega), if_pos]
    · rfl
    · rw [hspr, hhead, ← Bool.not_eq_true (contextAllows _ _), contextAllows_iff, hop]
      tauto
  case busy =>
    refine answered _ _ .busy (fun c => { c with restartPending := c.restartPending || decide (serviceOp payload = 3) }) hrow ?_
    have hsome : (s.serviceHeard h).cfg.writing.isSome = true := by
      rw [hcfg]
      exact Option.isSome_iff_ne_none.2 hbusy
    rw [State.takeService, if_neg (by rw [hop]; omega), if_neg, if_pos hsome]
    · rfl
    · rw [hspr, hhead, ← Bool.not_eq_true (contextAllows _ _), contextAllows_iff, hop]
      simp [hstop, hctx]
  case range =>
    obtain ⟨-, hwrite⟩ | ⟨h2, -⟩ | ⟨h3, -⟩ := frameRow_service (payload := payload) (crc := crc) (ans := ans) (by omega) (by omega)
    · rw [hwrite] at hrow
      refine answered _ _ .refusedRange id hrow ?_
      rw [State.takeService, if_neg (by rw [hop]; omega), if_neg, if_neg, if_pos ⟨hop.trans h1, rangeFails_iff.2 hrange⟩]
      · rfl
      · simp [hcfg, hfree]
      · rw [hspr, hhead, ← Bool.not_eq_true (contextAllows _ _), contextAllows_iff]
        simp [hstop, hctx]
    · omega
    · omega

/-- A SERVICE operation that passes the four tests is carried out (R170). -/
theorem takeService_accepted {s : State} {d : ServiceData} {b : Bool} (h1 : 1 ≤ d.op) (h3 : d.op ≤ 3) (hstop : s.spr.stopped = true)
    (hctx : d.op = 2 ∨ s.head = .parked ∨ s.head = .driver) (hfree : s.cfg.writing = none)
    (hrange : d.op = 1 → 1 ≤ d.count ∧ d.count ≤ 16 ∧ d.offset + d.count ≤ 510) : s.takeService b d = s.acceptService b d := by
  rw [State.takeService, if_neg (by omega), if_neg, if_neg (by simp [hfree]), if_neg]
  · rw [rangeFails_iff]
    rintro ⟨hop, hno⟩
    obtain ⟨hpos, h16, h510⟩ := hrange hop
    omega
  · rw [← Bool.not_eq_true (contextAllows _ _), contextAllows_iff]
    simp [hstop, hctx]

/-- Settles O32: the three operations carried out. -/
theorem acceptedServiceActs : Obligations.AcceptedServiceActs := by
  refine ⟨fun s h payload crc harr hdest hop hstop hctx hfree h1 h16 h510 => ?write, fun s h payload crc harr hdest hop hstop hfree => ?clear,
    fun s h payload crc answered harr hdest hop hstop hctx hfree => ?restart⟩
  all_goals
    obtain ⟨hcfg, hspr, hmrg, haut, heeprom, hpower, hreachMrg, hreach⟩ := serviceHeard_kept s h
    have hhead := serviceHeard_head s h
    have hdop : (serviceData payload).op = serviceOp payload := rfl
  case write =>
    have hrow := exec_service (ans := false) harr hdest
    rw [show frameRow 5 payload crc false = .serviceWrite payload crc by simp only [frameRow, hop],
      takeService_accepted (by omega) (by omega) (by rw [hspr]; exact hstop) (.inr (by rw [hhead]; exact hctx)) (by rw [hcfg]; exact hfree)
        (fun _ => ⟨h1, h16, h510⟩)] at hrow
    have haccept : ∀ b, (s.serviceHeard h).acceptService b (serviceData payload) = (s.serviceHeard h).beginWrite (serviceData payload) :=
      fun b => by simp only [State.acceptService, hdop, hop]
    rw [haccept, close_of_running (by simpa [hpower] using harr.1)] at hrow
    have hown : reachesOnly (.rxc :: .ptb :: .tkm :: .cfg :: settlingBlocks) (s.serviceHeard h)
        ((s.serviceHeard h).beginWrite (serviceData payload)) := by simp [reachesOnly_iff, settlingBlocks]
    refine answers_of_exec hrow ⟨⟨_, by simp [hcfg]; rfl, rfl, rfl, rfl, rfl, rfl, fun c hc => pageCells_page hc, ?_, ?_⟩,
      (hreach.trans hown (List.Subset.refl _)).trans (reachesOnly_settle s _) (by decide), motionKept_settle (motionKept_of_spr_eq (by simpa using hspr))⟩
    · rw [heeprom]
      rfl
    · simp [writingPage, crcPage]
  case clear =>
    have hrow := exec_service (ans := false) harr hdest
    rw [show frameRow 5 payload crc false = .serviceClearFaults payload crc by simp only [frameRow, hop],
      takeService_accepted (by omega) (by omega) (by rw [hspr]; exact hstop) (.inl (hdop.trans hop)) (by rw [hcfg]; exact hfree)
        (fun hno => by omega)] at hrow
    have haccept : ∀ b, (s.serviceHeard h).acceptService b (serviceData payload) = (s.serviceHeard h).clearFaults :=
      fun b => by simp only [State.acceptService, hdop, hop]
    rw [haccept, close_of_running (by simpa [hpower] using harr.1)] at hrow
    have hown : reachesOnly (.rxc :: .ptb :: .tkm :: .mrg :: .cfg :: settlingBlocks) (s.serviceHeard h)
        (s.serviceHeard h).clearFaults := by simp [reachesOnly_iff, settlingBlocks]
    refine answers_of_exec hrow ⟨by simp [hcfg], ?_, settle_cause_out (c := .motorFault) ?_, settle_due rfl,
      (hreachMrg.trans hown (List.Subset.refl _)).trans (reachesOnly_settle s _) (by decide),
      motionKept_settle (motionKept_of_spr_eq (by simpa using hspr))⟩
    · rw [← hmrg, ← hcfg]
      simp only [settle_frame, State.clearFaults, answer_frame, removeCause_frame, onCfg_mrg]
      split <;> rfl
    · simp only [State.clearFaults, answer_frame, removeCause_causes, causeIn_causePut]
  case restart =>
    have hrow := exec_service (ans := answered) harr hdest
    rw [show frameRow 5 payload crc answered = .serviceRestart payload crc answered by simp only [frameRow, hop],
      takeService_accepted (by omega) (by omega) (by rw [hspr]; exact hstop) (.inr (by rw [hhead]; exact hctx)) (by rw [hcfg]; exact hfree)
        (fun hno => by omega)] at hrow
    have haccept : (s.serviceHeard h).acceptService (answered && serviceOp payload == 3) (serviceData payload) =
        ((s.serviceHeard h).answer .done).beginStart answered := by
      simp [State.acceptService, hdop, hop, State.restart]
    have hsame : ((s.serviceHeard h).answer .done).beginStart answered = s.beginStart answered :=
      beginStart_congr answered (by simp [State.serviceHeard]) (by simp [State.serviceHeard]) (by simp [State.serviceHeard])
        (by simp [State.serviceHeard]) (by simp [State.serviceHeard])
    rw [haccept, hsame, close_of_start] at hrow
    rw [hrow, ← imageChoice_eq]
    rfl

end Sys2Proof.Machine
end

section
/-! Power: the brown-out, the beginning of the start and its completion (sections 11.5 and 12.2). -/

namespace Sys2Proof.Machine

section Start

variable {s : State}

/-- The part as the completed start finds it: every block at its start value, the collection and the estimate kept (R167). -/
def State.woken (s : State) : State :=
  (s.startValues .running s.image s.cfg.configInvalid).onRxc fun r =>
    { r with collecting := s.rxc.collecting, estimate := s.rxc.estimate }

theorem completeStart_eq (s : State) :
    s.completeStart = (((s.woken.startupSound).signal (.claim .parked)).functionsRefresh).entryActions .parked false := rfl

/-- What a completed start leaves, whatever PARKED's initial part asks for (R167). -/
theorem completeStart_fields (s : State) :
    s.completeStart.power = .running ∧ s.completeStart.aut = startAut ∧ s.completeStart.spr.ref = 0
      ∧ s.completeStart.spr.running = .forward ∧ s.completeStart.spr.stopped = true ∧ s.completeStart.mrg = {}
      ∧ s.completeStart.sup = {} ∧ s.completeStart.ptb = {} ∧ s.completeStart.tkm = {} ∧ s.completeStart.csu = {}
      ∧ s.completeStart.rpt.activity = .holdoff ∧ s.completeStart.rpt.credit = 0 ∧ s.completeStart.cfg.image = s.cfg.image
      ∧ s.completeStart.cfg.configInvalid = s.cfg.configInvalid ∧ s.completeStart.eeprom = s.eeprom := by
  simp [completeStart_eq, State.woken, State.startupSound, State.startValues, State.image]

theorem completeStart_functionLaw (s : State) : FunctionLaw s.completeStart :=
  (functionLaw_iff _).2 fun _ => (completeStart_ended s).1

/-- The startup sound's lookup begins at once: port and queue are free at a start (R133, R142). -/
theorem woken_startupSound (s : State) :
    s.woken.startupSound =
      { s.woken with
        snd :=
          { port := .lookup { hold := false, owner := .system, prio := s.image.sound.systemPrio, group := 4, index := 1 } false } } := by
  have hneedy : firstNeedy (List.replicate 6 {}) (roundRobin 0) = none := by decide
  have hroom : s.woken.snd.queue.length < 8 := show 0 < 8 by decide
  have hchuff : ¬(Owner.system = .chuff ∧ (s.woken.snd.queue.any fun q => q.owner == .chuff) = true) := fun h => by cases h.1
  rw [State.startupSound, State.systemRequest, State.request, if_neg hchuff, if_pos hroom]
  simp only [State.arbitrate, State.onSnd, arbitrateSnd, State.woken, State.startValues, State.onRxc, hneedy]
  rfl

/-- Lamps that are dark at their start value stay so where no rule lights them. -/
theorem relitFrom_dark (effect : Nat → LampEffect) (k : Nat) (ls : List LampState) (h : ∀ l ∈ ls, l.lit = false) :
    relitFrom (fun _ => false) effect k ls = ls := by
  induction ls generalizing k with
  | nil => rfl
  | cons l ls ih =>
    have hl : relit false (effect k) l = l := by
      have hdark := h l List.mem_cons_self
      cases l
      simp_all [relit]
    rw [relitFrom, hl, ih (k + 1) fun x hx => h x (List.mem_cons_of_mem _ hx)]

/-- Without an override, a function or an entry action PARKED's start hands on nothing (R53, R57, R155). -/
theorem functionsRefresh_of_quiet {t : State} (haut : t.aut = startAut) (hrole : t.role = .none) (hfnm : t.fnm = {}) (hlmp : t.lmp = {})
    (hfunc : t.image.ctxParked.funcMask = 0#32) (hlamp : t.image.ctxParked.lampMask = 0#8) : t.functionsRefresh = t := by
  have hhead : t.head = .parked := by rw [State.head, haut]; rfl
  have hset : t.fEff = 0#32 := by
    simp [State.fEff, State.baseSet, applyOverride, hhead, hrole, haut, startAut, Image.ctx, hfunc]
  have hlast : t.fEff = t.fnm.last ∧ t.role = t.fnm.lastRole := by rw [hset, hrole, hfnm]; exact ⟨rfl, rfl⟩
  have hdark : t.lampLit = fun _ => false := by
    funext n
    simp [State.lampLit, State.lampForced, hhead, Image.ctx, hlamp, hfnm]
  rw [State.functionsRefresh, if_pos hlast, State.lampsRefresh, hdark]
  have hlamps : relitFrom (fun _ => false) t.lampEffect 0 t.lmp.lamps = t.lmp.lamps :=
    relitFrom_dark _ _ _ fun l hl => by
      rw [hlmp] at hl
      rw [List.eq_of_mem_replicate hl]
  simp only [State.onLmp, hlamps]

theorem completeStart_of_quiet (hfunc : s.image.ctxParked.funcMask = 0#32) (hlamp : s.image.ctxParked.lampMask = 0#8)
    (hmode : s.image.ctxParked.mode = .never) : s.completeStart = (s.woken.startupSound).signal (.claim .parked) := by
  rw [completeStart_eq, functionsRefresh_of_quiet (t := (s.woken.startupSound).signal (.claim .parked)) (by rw [woken_startupSound]; rfl)
    (by rw [woken_startupSound]; rfl) (by rw [woken_startupSound]; rfl) (by rw [woken_startupSound]; rfl) hfunc hlamp]
  have hnever : (((s.woken.startupSound).signal (.claim .parked)).image.ctx .parked).mode = .never := hmode
  rw [State.entryActions, hnever, entryRuns, if_neg (by decide)]

theorem counterTakes_claim (l : Level) (c : CounterConfig) (h : c.event = 11) :
    counterTakes c (.claim l) = c.mask.getLsbD l.code := by
  simp [counterTakes, h, diagCode, qualifierBit]

/-! ### The entry test (R165) -/

theorem entryGood_eq {track store : Byte} {good : Bool}
    (htrack : s.image.identity.supplyMode = .track → good = decide (s.image.supply.trackMin + 4 ≤ track.toNat))
    (hbattery : s.image.identity.supplyMode = .battery → good = decide (s.image.supply.storeLow + 4 ≤ store.toNat)) :
    s.entryGood track store = good := by
  unfold State.entryGood
  cases hmode : s.image.identity.supplyMode with
  | track => exact (htrack hmode).symm
  | battery => exact (hbattery hmode).symm

theorem exec_supplyEvaluation_starting {track store : Byte} (hp : s.power = .starting) :
    exec (.supplyEvaluation track store) s = .next (s.entryTest track store) := by
  simp only [exec, execSupplyEvaluation, hp]

theorem exec_entryTestPassed {track store : Byte} (hp : s.power = .starting) (hgood : s.entryGood track store = true)
    (hrun : s.sup.entryRun = 9) : exec (.entryTestPassed track store) s = .next s.completeStart := by
  simp only [exec, execEntryTestPassed, hp, hgood, hrun, and_self, if_true, State.entryTest]
  rfl

end Start

/-- Settles O59: the brown-out and the beginning by the start values, the completion by its fields. -/
theorem powerGoesThroughTheStart : Obligations.PowerGoesThroughTheStart := by
  intro s
  refine ⟨fun stored memory hp hnone hsome => ?brownOut, fun answered hp => ?powerOn, fun answered hp => ?powered,
    fun track store good hp htrack hbattery => ?entry⟩
  case brownOut =>
    have hexec : exec (.brownOut stored) s = .next (s.brownOut stored) := by
      simp only [exec, execBrownOut]
      cases hpow : s.power with
      | off => exact absurd hpow hp
      | starting => rfl
      | running => rfl
    rw [hexec]
    cases hw : s.cfg.writing with
    | none =>
      rw [hnone hw]
      simp only [State.brownOut, hw]
      rfl
    | some w =>
      rw [hsome w hw]
      simp only [State.brownOut, hw]
      rfl
  case powerOn =>
    have hexec : exec (.powerOn answered) s = .next (s.beginStart answered) := by simp only [exec, execPowerOn, hp]
    rw [hexec, ← imageChoice_eq]
    rfl
  case powered =>
    simp only [exec, execPowerOn]
    cases hpow : s.power with
    | off => exact absurd hpow hp
    | starting => rfl
    | running => rfl
  case entry =>
    have hentry := entryGood_eq htrack hbattery
    refine ⟨fun hbad => ?_, fun hgood hrun => ?_, fun hgood hrun => ?_⟩
    · rw [exec_supplyEvaluation_starting hp, State.entryTest, hentry, hbad]
      rfl
    · rw [exec_supplyEvaluation_starting hp, State.entryTest, hentry, hgood, if_pos rfl, if_pos (by omega)]
      rfl
    · obtain ⟨hpow, haut, href, hdir, hstop, hmrg, hsup, hptb, htkm, hcsu, hact, hcredit, himage, hinvalid, heeprom⟩ :=
        completeStart_fields s
      refine answers_of_exec (exec_entryTestPassed hp (hentry.trans hgood) hrun) ⟨hpow, by rw [State.head, haut]; rfl, by rw [haut]; rfl,
        href, hdir, hstop, hmrg, hsup, hptb, htkm, hcsu, hact, hcredit, himage, hinvalid, heeprom, completeStart_functionLaw s,
        fun hfunc hlamp hmode => ?_⟩
      rw [completeStart_of_quiet hfunc hlamp hmode, woken_startupSound]
      exact ⟨counted_of_countEvent (counterTakes_claim .parked) rfl rfl, rfl⟩

end Sys2Proof.Machine
end

section
/-! The end of a drive phase: the current, COOL, the trips and the latch (section 7.6). -/

namespace Sys2Proof.Machine

section Phase

variable {s : State} {current : Nat}

/-- The overcurrent test that finds a phase high, in the manual's terms (R110). -/
theorem phaseHigh_iff : s.phaseHigh current = true ↔
    s.mrg.active = true ∧ s.cfg.overcurrent = false ∧ s.image.traction.iTrip < min current 4000 := by
  simp only [State.phaseHigh, State.overcurrentTested, Bool.and_eq_true, Bool.not_eq_true', decide_eq_true_eq, and_assoc]

theorem tripTest_iff : s.tripTest current = true ↔
    s.mrg.active = true ∧ s.cfg.overcurrent = false ∧ s.image.traction.iTrip < min current 4000 ∧ 2 ≤ s.mrg.overRun := by
  rw [tripTest_eq, Bool.and_eq_true, phaseHigh_iff, decide_eq_true_iff]
  tauto

theorem phaseEnd_reach : reachesOnly (.mrg :: .cfg :: settlingBlocks) s (s.phaseEnd current) := by
  simp [reachesOnly_iff, settlingBlocks]

/-- Without a trip the phase's end leaves CFG (R113). -/
theorem phaseEnd_reach_of_no_trip (h : s.tripTest current = false) : reachesOnly (.mrg :: settlingBlocks) s (s.phaseEnd current) := by
  simp [reachesOnly_iff, settlingBlocks, h]

/-- An end of a drive phase as an event (R109 to R111). -/
theorem exec_of_phaseEnd {c : Instr} (h : exec c s = whenRunningClose s (s.phaseEnd current)) (hp : s.power = .running) :
    exec c s = .next ((s.phaseEnd current).settle s) := exec_of_close h hp (by simp)

theorem currentTaken_heater_off (h : (s.currentTaken current).budgetHolds = false) : (s.currentTaken current).smk.heater = false := by
  unfold State.currentTaken State.budgetCut at h ⊢
  split
  next hholds => rw [if_pos hholds, hholds] at h; cases h
  next => rfl

/-- An average over the budget leaves the heater off through the event's end (R109, R151). -/
theorem phaseEnd_settle_heater_off (htrip : s.tripTest current = false)
    (h : s.image.smoke.iBudget < averageCurrent (s.mrg.window.tail ++ [min current 4000]) + s.image.smoke.iHeater + s.image.smoke.iBase) :
    ((s.phaseEnd current).settle s).smk.heater = false := by
  have hbudget {u : State} (hc : u.cfg.image = s.cfg.image) (hw : u.mrg.window = s.mrg.window.tail ++ [min current 4000]) :
      u.budgetHolds = false := by
    have himage : u.image = s.image := hc
    rw [State.budgetHolds, himage, hw]
    simpa using h
  have hoff : (s.phaseEnd current).smk.heater = false := by
    have hcut : (s.currentTaken current).smk.heater = false :=
      currentTaken_heater_off (hbudget (by simp) (by simp))
    have hsmk : (s.phaseEnd current).smk = (s.currentTaken current).smk := by
      rw [State.phaseEnd, htrip]
      simp
    rw [hsmk, hcut]
  have hlaw := (settle_carries (codes := []) (s.phaseEnd current) s).heater (heaterLaw_of_off hoff)
  have hno : ((s.phaseEnd current).settle s).budgetHolds = false :=
    hbudget (by simp) (by simp [phaseEnd_mrg_of_no_trip htrip])
  rw [← Bool.not_eq_true]
  intro hon
  have hallowed := hlaw hon
  simp [State.heaterAllowed, hno] at hallowed

/-- Settles O47: the phase that does not trip, at MRG field by field. -/
theorem drivePhaseEndTakesTheCurrent : Obligations.DrivePhaseEndTakesTheCurrent := by
  intro s current hp hnot
  have htrip : s.tripTest current = false := by
    rw [← Bool.not_eq_true, tripTest_iff]
    exact hnot
  have hmrg : ((s.phaseEnd current).settle s).mrg = _ := (by simp : _ = (s.phaseEnd current).mrg).trans (phaseEnd_mrg_of_no_trip htrip)
  have hreach := (phaseEnd_reach_of_no_trip htrip).trans (reachesOnly_settle s _) (by simp)
  have hkept : motionKept s ((s.phaseEnd current).settle s) := motionKept_settle (motionKept_of_spr_eq (by simp))
  refine ⟨answers_of_exec (exec_of_phaseEnd rfl hp) ?_, fun hcool hone => ?_⟩
  · rw [hmrg]
    refine ⟨rfl, if_congr phaseHigh_iff rfl rfl, fun hcool => ?_, fun hcool => ?_, rfl, rfl, rfl, phaseEnd_settle_heater_off htrip, hreach,
      hkept⟩
    · exact ⟨if_pos hcool, if_pos hcool⟩
    · exact ⟨if_neg hcool, if_neg hcool⟩
  · have hends : s.coolEnds = true := by simp [State.coolEnds, hcool, hone]
    have hexec := exec_of_phaseEnd (c := .coolEnds current) (s := s) (current := current)
      (by rw [exec, execCoolEnds, if_pos hends]) hp
    refine answers_of_exec hexec ?_
    rw [hmrg]
    exact ⟨by simp [hcool, hone], by simp [hcool, hone], rfl, hreach, hkept⟩

/-! ### Trips -/

theorem counterTakes_motorTrip (c : CounterConfig) (h : c.event = 13) : counterTakes c .motorTrip = true := by
  simp [counterTakes, h, diagCode, qualifierBit]

/-- A trip up to the choice between COOL and the latch (R110). -/
def State.tripped (s : State) : State :=
  s.onMrg fun m => { m with overRun := 0, tripCount := m.tripCount + 1, tripDecay := some 10000, integral := 0, duty := 0, stallRun := 0 }

theorem trip_of_latch (h : 4 ≤ s.mrg.tripCount + 1) : s.trip = (s.tripped.signal .motorTrip).overcurrentLatch := by
  have hlatch : 4 ≤ (s.tripped.signal .motorTrip).mrg.tripCount := by simpa [State.tripped] using h
  exact if_pos hlatch

theorem trip_of_cool (h : ¬4 ≤ s.mrg.tripCount + 1) :
    s.trip = (s.tripped.signal .motorTrip).onMrg fun m => { m with cool := 25, bridge := .cool } := by
  have hlatch : ¬4 ≤ (s.tripped.signal .motorTrip).mrg.tripCount := by simpa [State.tripped] using h
  exact if_neg hlatch

/-- One MOTOR_TRIP is counted in a phase that trips (R31, R110). -/
theorem phaseEnd_settle_counted (htrip : s.tripTest current = true) :
    counted 13 (fun _ => true) s ((s.phaseEnd current).settle s) := by
  have hbefore : Carries [] s (s.currentTaken current).tripped := by
    have htripped := onMrg_carries (codes := []) (f := fun m : Mrg =>
      { m with overRun := 0, tripCount := m.tripCount + 1, tripDecay := some 10000, integral := 0, duty := 0, stallRun := 0 }) (fun _ => rfl)
    exact (currentTaken_carries current s).trans (htripped _)
  have hafter : Carries [] ((s.currentTaken current).tripped.signal .motorTrip) (s.phaseEnd current) := by
    have hended := onMrg_carries (codes := []) (f := fun m : Mrg => { m with inDrive := false, active := false }) (fun _ => rfl)
    rw [State.phaseEnd, if_pos htrip]
    refine Carries.trans ?_ (hended _)
    by_cases hlatch : 4 ≤ (s.currentTaken current).mrg.tripCount + 1
    · rw [trip_of_latch hlatch]
      exact overcurrentLatch_carries _
    · rw [trip_of_cool hlatch]
      exact onMrg_carries (f := fun m : Mrg => { m with cool := 25, bridge := .cool }) (fun _ => rfl) _
  exact counted_of_signal counterTakes_motorTrip hbefore (hafter.trans (settle_carries (codes := []) _ s)) (by simp) (by simp)

/-- The fourth trip claims FAILSAFE for MOTOR_FAULT (R113). -/
theorem phaseEnd_alarmed (hlaw : FailsafeLaw s.aut) (htrip : s.tripTest current = true) (h : 4 ≤ s.mrg.tripCount + 1) :
    Alarmed .motorFault (s.phaseEnd current).aut := by
  have haut : (s.phaseEnd current).aut = (s.currentTaken current).trip.aut := by
    rw [State.phaseEnd, if_pos htrip]
    rfl
  rw [haut, trip_of_latch (by simpa using h)]
  exact addCause_alarmed .motorFault (s := _) (by simpa [State.tripped] using hlaw)

theorem phaseEnd_of_latch (htrip : s.tripTest current = true) (h : 4 ≤ s.mrg.tripCount + 1) :
    (s.phaseEnd current).mrg =
        { s.mrg with
          window := s.mrg.window.tail ++ [min current 4000], overRun := 0, tripCount := s.mrg.tripCount + 1, tripDecay := none
          integral := 0, duty := 0, stallRun := 0, bridge := .off, inDrive := false, active := false }
      ∧ (s.phaseEnd current).cfg = { s.cfg with overcurrent := true } := by
  rw [phaseEnd_mrg_of_trip htrip, trip_mrg_of_latch (by simpa using h), phaseEnd_cfg]
  simp [htrip, Nat.le_of_succ_le_succ h]

theorem phaseEnd_of_cool (htrip : s.tripTest current = true) (h : s.mrg.tripCount + 1 < 4) :
    (s.phaseEnd current).mrg =
        { s.mrg with
          window := s.mrg.window.tail ++ [min current 4000], overRun := 0, tripCount := s.mrg.tripCount + 1, tripDecay := some 10000
          integral := 0, duty := 0, stallRun := 0, cool := 25, bridge := .cool, inDrive := false, active := false }
      ∧ (s.phaseEnd current).cfg = s.cfg := by
  rw [phaseEnd_mrg_of_trip htrip, trip_mrg_of_cool (by simp; omega), phaseEnd_cfg, decide_eq_false (Nat.not_le.2 h)]
  simp

/-- Settles O48: the trip's two ends, and the decay timer by its guard. -/
theorem overcurrentTripsAndLatches : Obligations.OvercurrentTripsAndLatches := by
  intro s current
  refine ⟨fun hp hlaw hactive hlatched hhigh hrun => ?_, fun n hp hn hlast => ?_, fun n hn hlast => ?_⟩
  · have htrip : s.tripTest current = true := tripTest_iff.2 ⟨hactive, hlatched, hhigh, hrun⟩
    have hexec := exec_of_phaseEnd (c := .overcurrentTrip current) (s := s) (current := current)
      (by rw [exec, execOvercurrentTrip, if_pos htrip]) hp
    have hmrg : ((s.phaseEnd current).settle s).mrg = (s.phaseEnd current).mrg := by simp
    have hcfg : ((s.phaseEnd current).settle s).cfg = (s.phaseEnd current).cfg := by simp
    have hreach := (phaseEnd_reach (s := s) (current := current)).trans (reachesOnly_settle s _) (by decide)
    have hkept : motionKept s ((s.phaseEnd current).settle s) := motionKept_settle (motionKept_of_spr_eq (by simp))
    have hrest := And.intro (phaseEnd_settle_counted htrip) (And.intro hreach hkept)
    refine answers_of_exec hexec ?_
    rw [hmrg, hcfg]
    by_cases hfour : 4 ≤ s.mrg.tripCount + 1
    · obtain ⟨hstands, hhead⟩ := (phaseEnd_alarmed (current := current) hlaw htrip hfour).settle (s0 := s) (by decide)
      obtain ⟨hm, hc⟩ := phaseEnd_of_latch htrip hfour
      rw [hm, hc]
      exact ⟨rfl, rfl, rfl, rfl, rfl, rfl, fun hlow => absurd hfour (by omega), fun _ => ⟨rfl, rfl, rfl, rfl, hstands.cause, hhead⟩, hrest⟩
    · obtain ⟨hm, hc⟩ := phaseEnd_of_cool htrip (Nat.not_le.1 hfour)
      rw [hm, hc]
      exact ⟨rfl, rfl, rfl, rfl, rfl, rfl, fun _ => ⟨rfl, rfl, rfl, rfl⟩, fun hhigh => absurd hhigh hfour, hrest⟩
  · rw [exec, execTripDecayExpires, if_pos (by simp [lastMs, hn, hlast]), whenRunning_of_running hp]
    rfl
  · rw [exec, execTripDecayExpires, if_neg (by simp [lastMs_of_running hn hlast])]

end Phase

end Sys2Proof.Machine
end

section
/-! The control period and the stall (sections 6.2 to 6.7, 7.2, 7.4, 7.7). -/

namespace Sys2Proof.Machine

/-! ### A stall (R97, R115) -/

section Stall

variable {s s0 : State}

/-- A STALL that stands alone under a hold that is not over at once keeps FAILSAFE at the head: it stands on, or its hold runs (R68, R69). -/
theorem Alarmed.settle_stall (h : Alarmed .stall s.aut) (halone : causesEmpty { s.aut.causes with stall := false } = true)
    (hhold : s.image.windows.failsafeHold ≠ 0) :
    (s.settle s0).head = .failsafe ∧ ((s.settle s0).aut.causes.stall = true ∨ (s.settle s0).aut.hold ≠ none) := by
  obtain ⟨hh, hc⟩ : (s.signalTest s0.head).aut.hold = none ∧ (s.signalTest s0.head).aut.causes = s.aut.causes := by
    rw [signalTest_aut]
    split <;> exact ⟨h.hold, rfl⟩
  have himage : (s.signalTest s0.head).image = s.image := by simp [State.image]
  obtain ⟨hne, hstands⟩ : ((s.signalTest s0.head).stallTest s0.head).aut.hold ≠ some 0
      ∧ (((s.signalTest s0.head).stallTest s0.head).aut.causes.stall = true
        ∨ ((s.signalTest s0.head).stallTest s0.head).aut.hold ≠ none) := by
    rw [stallTest_aut]
    split
    · simp [halone, himage, hhold]
    · exact ⟨by rw [hh]; exact nofun, .inl (by rw [hc]; exact h.cause)⟩
  have hkept : (((s.signalTest s0.head).stallTest s0.head).holdTest).aut = ((s.signalTest s0.head).stallTest s0.head).aut := by
    rw [holdTest_aut, if_neg (fun hover => hne hover.2)]
  obtain ⟨hcauses, hholds, hclaimed, -⟩ := settle_causes s s0
  refine ⟨autHead_failsafe ?_, ?_⟩
  · rw [hclaimed, State.settleClaims]
    simp [hkept, h.claimed]
  · rw [hcauses, hholds, State.settleClaims]
    simpa [hkept] using hstands

/-- A stall's stop up to STOPPED's judging (R97, R115). -/
def State.stalled (s : State) : State :=
  (((s.addCause .stall).refStop).onMrg fun m => { m with integral := 0, duty := 0, stallRun := 0 }).mrgBridge

theorem stallStop_eq (h0 : Level) (s : State) : s.stallStop h0 = s.stalled.judgeAfterStop h0 s.spr.ref := rfl

theorem stalled_csu (s : State) : s.stalled.csu = s.csu := by simp [State.stalled]

/-- With nothing pending a stall's stop reaches no further than the end of the event does, and MRG (R97, R115). -/
theorem stallStop_reach {h0 : Level} (h : s.csu.slot = .empty) : reachesOnly (.mrg :: settlingBlocks) s (s.stallStop h0) := by
  have hstop : reachesOnly (.mrg :: settlingBlocks) s s.stalled := by simp [reachesOnly_iff, settlingBlocks, State.stalled]
  rw [stallStop_eq]
  exact hstop.trans (judgeAfterStop_reach (by rwa [stalled_csu])) (by decide)

theorem stallStop_aut {h0 : Level} (h : s.csu.slot = .empty) : (s.stallStop h0).aut = (s.addCause .stall).aut := by
  rw [stallStop_eq]
  have hjudged : (s.stalled.judgeAfterStop h0 s.spr.ref).aut = s.stalled.aut :=
    judgeAfterStop_reach (by rwa [stalled_csu]) .aut (by decide)
  rw [hjudged]
  simp [State.stalled]

/-- A cause set in which STALL is the first cause holds nothing else. -/
theorem only_stall {k : CauseSet} (h : causesEmpty k = true) : causesEmpty { causePut .stall true k with stall := false } = true := by
  simp_all [causesEmpty, causePut]

/-- Settles O46: the stop at MRG and SPR, and FAILSAFE through the end of the event. -/
theorem stallStopsTheLocomotive : Obligations.StallStopsTheLocomotive := by
  intro s hp hfound hslot hlaw hunclaimed hhold
  have hstop := controlPeriod_of_stall hfound
  have hexec : exec .stallDetected s = .next ((s.periodCompute.stallStop s.head).settle s) := by
    rw [← hstop]
    exact exec_of_close (by rw [exec, execStallDetected, if_pos hfound]) hp (by simp)
  have hslot' : s.periodCompute.csu.slot = .empty := by simpa using hslot
  have haut := stallStop_aut (h0 := s.head) hslot'
  have hnone : causesEmpty s.aut.causes = true := by
    by_contra hsome
    simpa [hunclaimed] using hlaw.1.2 (.inl (by simpa using hsome))
  have halarm : Alarmed .stall (s.periodCompute.stallStop s.head).aut := by
    rw [haut]
    exact addCause_alarmed .stall (s := s.periodCompute) (by simpa using hlaw)
  obtain ⟨hhead, hstands⟩ := halarm.settle_stall (s0 := s) (by rw [haut, addCause_causes]; exact only_stall (by simpa using hnone))
    (by simpa [State.image] using hhold)
  have hspr : ((s.periodCompute.stallStop s.head).settle s).spr.ref = 0 := by simpa using stallStop_ref s.head s.periodCompute
  have hmrg : ((s.periodCompute.stallStop s.head).settle s).mrg = _ :=
    (by simp : _ = (s.periodCompute.stallStop s.head).mrg).trans (stallStop_mrg s.head s.periodCompute)
  have hreach : reachesOnly (.mrg :: settlingBlocks) s (s.periodCompute.stallStop s.head) :=
    (show reachesOnly (.mrg :: settlingBlocks) s s.periodCompute by simp [reachesOnly_iff, settlingBlocks]).trans
      (stallStop_reach hslot') (List.Subset.refl _)
  refine answers_of_exec hexec ⟨hspr, ?_⟩
  rw [hmrg]
  exact ⟨rfl, rfl, rfl, stallBridge_not_drives _, by simp [periodCompute_mrg], hhead, hstands, hreach.trans (reachesOnly_settle s _) (by simp)⟩

end Stall

/-! ### The five stages in the manual's terms (R89 to R95) -/

section Stages

variable {s : State}

theorem stageTarget_eq (s : State) :
    s.stageTarget = if s.aut.requested = s.spr.running then targetSpeed s.image.traction.knots s.target else 0 := rfl

theorem targetSpeed_speed (knots : List Nat) (v : Nat) : targetSpeed knots (.speed v) = min v 1023 := by
  simp only [targetSpeed, clampNat, Nat.not_lt_zero, if_false]
  split <;> omega

theorem target_driver (h : s.head = .driver) : s.target = .step (if s.aut.driverLive.zeroLock then 0 else s.aut.driverLive.step) := by
  rw [State.target, h]

theorem target_consist (h : s.head = .consist) : s.target = .speed s.aut.consistLive.speed := by
  rw [State.target, h]

theorem target_other (hd : s.head ≠ .driver) (hc : s.head ≠ .consist) : s.target = .step 0 := by
  unfold State.target
  split
  next h => exact absurd h hd
  next h => exact absurd h hc
  next => rfl

/-- R94's refusal of a rise. -/
theorem riseInhibited_iff : s.riseInhibited = true ↔
    s.sup.state ≠ .normal ∨ s.head = .failsafe ∨ s.mrg.cool ≠ 0 ∨ s.aut.driverLive.zeroLock = true := by
  simp [State.riseInhibited, Nat.pos_iff_ne_zero, or_assoc]

/-- The stop branch of the law (R98, R104). -/
theorem standing_iff : s.standing = true ↔ s.spr.ref = 0 ∧ s.mrg.y ≤ s.image.traction.stopThreshold := by
  simp [State.standing]

theorem lawRuns_iff : s.lawRuns = true ↔
    ¬(s.spr.ref = 0 ∧ s.mrg.y ≤ s.image.traction.stopThreshold ∨ s.cfg.overcurrent = true ∨ s.mrg.cool ≠ 0) := by
  rw [← standing_iff]
  simp [State.lawRuns, and_assoc]

theorem lawResult_of_not_runs (h : s.lawRuns = false) : s.lawResult = { integral := 0, duty := 0 } := by
  simp [State.lawResult, h]

theorem lawResult_of_runs (h : s.lawRuns = true) :
    s.lawResult = piLaw s.image.traction s.dMaxEff s.spr.ref s.mrg.y s.mrg.integral := by
  simp [State.lawResult, h]

/-- The bridge table with its conditions as propositions (R102). -/
theorem bridgeFor_eq (latched depleted hold stop brakeAtStop : Bool) (cool duty : Nat) (d : Direction) :
    bridgeFor latched cool depleted hold stop brakeAtStop duty d =
      if latched = true then .off
      else if cool ≠ 0 then .cool
      else if depleted = true then .off
      else if hold = true then .brake
      else if stop = true then (if brakeAtStop then .brake else .off)
      else if duty = 0 then .off
      else if d = .forward then .driveFwd
      else .driveRev := by
  unfold bridgeFor
  cases d <;> simp [Nat.pos_iff_ne_zero, Nat.one_le_iff_ne_zero]

/-! ### The computation's results (R100 to R107, R115) -/

theorem sprCompute_standing_iff :
    s.sprCompute.standing = true ↔ s.nextRef = 0 ∧ s.mrg.y ≤ s.image.traction.stopThreshold := by
  rw [standing_iff]
  simp [State.image]

theorem sprCompute_lawRuns_iff : s.sprCompute.lawRuns = true ↔
    ¬(s.nextRef = 0 ∧ s.mrg.y ≤ s.image.traction.stopThreshold ∨ s.cfg.overcurrent = true ∨ s.mrg.cool ≠ 0) := by
  rw [lawRuns_iff]
  simp [State.image]

theorem sprCompute_lawResult_of_not_runs
    (h : s.nextRef = 0 ∧ s.mrg.y ≤ s.image.traction.stopThreshold ∨ s.cfg.overcurrent = true ∨ s.mrg.cool ≠ 0) :
    s.sprCompute.lawResult = { integral := 0, duty := 0 } := by
  refine lawResult_of_not_runs ?_
  rw [← Bool.not_eq_true, sprCompute_lawRuns_iff]
  exact not_not.2 h

theorem sprCompute_lawResult_of_runs
    (h : ¬(s.nextRef = 0 ∧ s.mrg.y ≤ s.image.traction.stopThreshold ∨ s.cfg.overcurrent = true ∨ s.mrg.cool ≠ 0)) :
    s.sprCompute.lawResult = piLaw s.image.traction s.dMaxEff s.nextRef s.mrg.y s.mrg.integral := by
  rw [lawResult_of_runs (sprCompute_lawRuns_iff.2 h)]
  simp [State.image, State.dMaxEff]

theorem periodBrakeHold_iff : s.periodCompute.mrg.brakeHold = true ↔
    s.mrg.brakeHold = true ∧ s.nextRef = 0 ∧ s.image.traction.stopThreshold < s.mrg.y := by
  have hstand := sprCompute_standing_iff (s := s)
  rw [periodCompute_mrg]
  cases hst : s.sprCompute.standing <;> simp_all

theorem periodBridge_eq (s : State) : s.periodBridge =
    if s.cfg.overcurrent = true then .off
    else if s.mrg.cool ≠ 0 then .cool
    else if s.sup.state = .depleted then .off
    else if s.periodCompute.mrg.brakeHold = true then .brake
    else if s.nextRef = 0 ∧ s.mrg.y ≤ s.image.traction.stopThreshold then (if s.image.traction.brakeAtStop then .brake else .off)
    else if s.periodCompute.mrg.duty = 0 then .off
    else if s.nextRunning = .forward then .driveFwd
    else .driveRev := by
  have himage : s.sprCompute.mrgLaw.image = s.image := by simp [State.image]
  rw [State.periodBridge, State.chosenBridge, bridgeFor_eq, himage, periodCompute_mrg, if_congr sprCompute_standing_iff rfl rfl]
  simp [mrgLaw_mrg]

/-- What a period's computation leaves at MRG, and the drive phase that it begins (R101). -/
theorem periodCompute_kept (s : State) :
    s.periodCompute.mrg.inDrive = true ∧ s.periodCompute.mrg.y = s.mrg.y ∧ s.periodCompute.mrg.w = s.mrg.w
      ∧ s.periodCompute.mrg.window = s.mrg.window ∧ s.periodCompute.mrg.cool = s.mrg.cool
      ∧ s.periodCompute.mrg.tripCount = s.mrg.tripCount := by
  simp [periodCompute_mrg]

theorem bridgeDrives_iff (b : Bridge) : bridgeDrives b = true ↔ b = .driveFwd ∨ b = .driveRev := by
  simp [bridgeDrives]

theorem periodStall_iff : (bridgeDrives s.periodBridge && s.sprCompute.mrgLaw.mrgBridge.stallMeets) = true ↔
    (s.periodBridge = .driveFwd ∨ s.periodBridge = .driveRev) ∧ 9 * s.dMaxEff / 10 ≤ s.periodCompute.mrg.duty
      ∧ s.mrg.y < s.image.traction.stallSpeed := by
  have himage : s.sprCompute.mrgLaw.mrgBridge.image = s.image := by simp [State.image]
  have hmax : s.sprCompute.mrgLaw.mrgBridge.dMaxEff = s.dMaxEff := by simp [State.dMaxEff, State.image]
  rw [Bool.and_eq_true, bridgeDrives_iff, State.stallMeets, Bool.and_eq_true, himage, hmax, periodCompute_mrg]
  simp [mrgBridge_mrg, mrgLaw_mrg]

/-- Stages 1 to 4 of a period from its target, limit and rates (R89 to R94). -/
theorem nextRef_eq {goal down candidate : Nat} {up : Option Nat} (hgoal : goal = 16 * min s.stageTarget s.effectiveLimit)
    (hup : up = upRate s.image.traction s.spr.shunting s.profile) (hdown : down = downRate s.image.traction s.spr.shunting s.profile)
    (hcandidate : candidate = rampStep s.spr.ref goal up down) :
    s.nextRef =
      if s.spr.ref < candidate ∧ (s.sup.state ≠ .normal ∨ s.head = .failsafe ∨ s.mrg.cool ≠ 0 ∨ s.aut.driverLive.zeroLock = true)
        then s.spr.ref else candidate := by
  subst hgoal hup hdown hcandidate
  exact if_congr (and_congr_right' riseInhibited_iff) rfl rfl

end Stages

/-- Settles O45: the stages give `ref`, the law its results, the table the bridge; the end of the event changes none of them. -/
theorem controlPeriodRampsAndRegulates : Obligations.ControlPeriodRampsAndRegulates := by
  intro s v limit goal down candidate dMax up hp hstall hv hlimit hgoal hup hdown hcandidate hmax
  have hv' : v = s.stageTarget := by
    rw [hv, stageTarget_eq]
    by_cases hdir : s.aut.requested = s.spr.running
    · rw [if_neg (not_not.2 hdir), if_pos hdir]
      cases hh : s.head with
      | driver => rw [target_driver hh]; rfl
      | consist => rw [target_consist hh, targetSpeed_speed]
      | _ => rw [target_other (by simp [hh]) (by simp [hh])]; rfl
    · rw [if_pos hdir, if_neg hdir]
  have hlimit' : limit = s.effectiveLimit := by
    rw [hlimit, State.effectiveLimit]
    refine if_congr Iff.rfl rfl ?_
    cases s.tkm.signalLimit <;> cases s.tkm.occupancyLimit <;> simp [withLimit, min_comm]
  have hup' : up = upRate s.image.traction s.spr.shunting s.profile :=
    hup.trans (by rw [State.profile]; cases (s.image.ctx s.head).profile <;> rfl)
  have hdown' : down = downRate s.image.traction s.spr.shunting s.profile :=
    hdown.trans (by rw [State.profile]; cases (s.image.ctx s.head).profile <;> rfl)
  have hnext := nextRef_eq (hv' ▸ hlimit' ▸ hgoal) hup' hdown' (hcandidate.trans (by cases up <;> rfl))
  have hmax' : dMax = s.dMaxEff := hmax
  have hexec : exec .controlPeriod s = .next (s.periodCompute.settle s) := by
    rw [← controlPeriod_of_no_stall hstall]
    exact exec_of_close rfl hp (by simp)
  obtain ⟨href, hrunning, hbraking, hstopped⟩ := motionKept_settle (s := s.periodCompute) (t := s.periodCompute) (u := s) (motionKept_of_spr_eq rfl)
  have hmrg : (s.periodCompute.settle s).mrg = s.periodCompute.mrg := by simp
  refine answers_of_exec hexec ?_
  rw [href, hrunning, hbraking, hstopped, hmrg, hmax', periodCompute_spr, sprCompute_spr]
  refine ⟨hnext, rfl, rfl, rfl, fun hrest => ?_, fun hruns => ?_, periodBrakeHold_iff, ?_, ?_, ?_⟩
  · simp [periodCompute_mrg, sprCompute_lawResult_of_not_runs hrest]
  · simp [periodCompute_mrg, sprCompute_lawResult_of_runs hruns]
  · rw [← periodBridge_eq, periodCompute_mrg]
  · have hrun : s.periodCompute.mrg.stallRun = _ := congrArg Mrg.stallRun (periodCompute_mrg s)
    have hbridge : s.periodCompute.mrg.bridge = s.periodBridge := congrArg Mrg.bridge (periodCompute_mrg s)
    rw [hrun, hbridge]
    exact if_congr periodStall_iff rfl rfl
  obtain ⟨hdrive, hy, hw, hwindow, hcool, htrips⟩ := periodCompute_kept s
  have hreach : reachesOnly (.mrg :: settlingBlocks) s s.periodCompute := by simp [reachesOnly_iff, settlingBlocks]
  exact ⟨hdrive, hy, hw, hwindow, hcool, htrips, hreach.trans (reachesOnly_settle s _) (by simp)⟩

end Sys2Proof.Machine
end

section
/-! The BEMF sample and the thermostat tick (sections 5.3, 6.9, 7.3, 8.5, 10.1). -/

namespace Sys2Proof.Machine

/-! ### A membership applied, at CSU's record and slot (R76, R77) -/

theorem memberTest_csu (s : State) : s.memberTest.csu = s.csu := by simp

theorem watchMembers_membership (always : Bool) (s : State) :
    (s.watchMembers always).csu.record = s.csu.record ∧ (s.watchMembers always).csu.slot = s.csu.slot := by
  simp only [State.watchMembers]
  split <;> simp

theorem leaveFollower_membership (s : State) :
    s.leaveFollower.csu.record = s.csu.record ∧ s.leaveFollower.csu.slot = s.csu.slot := by simp [State.leaveFollower]

theorem leaveLead_membership (s : State) : s.leaveLead.csu.record = s.csu.record ∧ s.leaveLead.csu.slot = s.csu.slot := by
  simp [State.leaveLead]

theorem joinFollower_membership (s : State) :
    s.joinFollower.csu.record = s.csu.record ∧ s.joinFollower.csu.slot = s.csu.slot := by simp [State.joinFollower]

theorem stayFollower_membership (h0 : Level) (before : Option Membership) (s : State) :
    (s.stayFollower h0 before).csu.record = s.csu.record ∧ (s.stayFollower h0 before).csu.slot = s.csu.slot := by
  unfold State.stayFollower
  (repeat' split) <;> simp

/-- The effects of a change of role leave the membership and the slot (R77 to R80). -/
theorem roleEffects_membership (h0 : Level) (before : Option Membership) (old new : ConsistRole) (s : State) :
    (s.roleEffects h0 before old new).csu.record = s.csu.record ∧ (s.roleEffects h0 before old new).csu.slot = s.csu.slot := by
  unfold State.roleEffects
  split
  · exact joinFollower_membership s
  · exact watchMembers_membership true s
  · exact leaveFollower_membership s
  · exact leaveLead_membership s
  · exact ⟨(watchMembers_membership true _).1.trans (leaveFollower_membership s).1,
      (watchMembers_membership true _).2.trans (leaveFollower_membership s).2⟩
  · exact ⟨(joinFollower_membership _).1.trans (leaveLead_membership s).1,
      (joinFollower_membership _).2.trans (leaveLead_membership s).2⟩
  · exact stayFollower_membership h0 before s
  · exact watchMembers_membership false s
  · exact ⟨rfl, rfl⟩

theorem applyMembership_membership (h0 : Level) (m : Option Membership) (s : State) :
    (s.applyMembership h0 m).csu.record = m ∧ (s.applyMembership h0 m).csu.slot = s.csu.slot := by
  have hrole := roleEffects_membership h0 s.csu.record s.role (s.onCsu fun c => { c with record := m }).role
    (s.onCsu fun c => { c with record := m })
  simp only [State.applyMembership]
  split
  · exact hrole
  · simpa using hrole

theorem applySlot_of_holds {h0 : Level} {m : Option Membership} {s : State} (h : s.csu.slot = .holds m) :
    (s.applySlot h0).csu.record = m ∧ (s.applySlot h0).csu.slot = .empty := by
  rw [State.applySlot, h]
  exact applyMembership_membership h0 m _

/-! ### STOPPED judged afresh (R98, R144, R146) -/

section Judged

variable {h0 : Level} {s : State}

/-- STOPPED begins: the timers start and the slot is applied. -/
theorem judgeStopped_of_begin (h : s.standing = true) (hs : s.spr.stopped = false) :
    s.judgeStopped h0 =
      State.applySlot h0 ((State.smokeStopBegins (s.onSpr fun r => { r with stopped := true })).onSnd fun d => { d with valve := some 20000 }) := by
  simp [State.judgeStopped, h, hs]

theorem judgeStopped_of_end (h : s.standing = false) (hs : s.spr.stopped = true) :
    s.judgeStopped h0 =
      (State.smokeStopEnds (s.onSpr fun r => { r with stopped := false })).onSnd fun d => { d with valve := none } := by
  simp [State.judgeStopped, h, hs]

theorem judgeStopped_of_same (h : s.standing = s.spr.stopped) : s.judgeStopped h0 = s.onSpr fun r => { r with stopped := s.standing } := by
  cases hs : s.spr.stopped <;> simp [State.judgeStopped, h, hs]

theorem judgeStopped_of_no_begin (h : s.spr.stopped = true ∨ s.standing = false) :
    (s.judgeStopped h0).csu = s.csu ∧ (s.judgeStopped h0).aut = s.aut ∧ (s.judgeStopped h0).tkm = s.tkm := by
  cases hs : s.spr.stopped <;> cases hst : s.standing
  · rw [judgeStopped_of_same (by rw [hs, hst])]
    exact ⟨rfl, rfl, rfl⟩
  · simp [hs, hst] at h
  · rw [judgeStopped_of_end hst hs]
    simp
  · rw [judgeStopped_of_same (by rw [hs, hst])]
    exact ⟨rfl, rfl, rfl⟩

theorem smokeStopEnds_smk (s : State) :
    s.smokeStopEnds.smk.standstill = none ∧ s.smokeStopEnds.smk.long = false
      ∧ s.smokeStopEnds.smk.state = if s.smk.state = .idleHold then (if s.tkm.noSmoke then .zoneHold else .ready) else s.smk.state := by
  simp only [State.smokeStopEnds]
  by_cases hidle : s.smk.state = .idleHold
  · simp [hidle, State.smokeReach, State.smokeEnter, State.fanRefresh, settleReady]
  · simp [hidle]

end Judged

/-! ### The synthetic chuff (R124) -/

theorem syntheticChuff_rest (s : State) :
    s.syntheticChuff.smk.standstill = s.smk.standstill ∧ s.syntheticChuff.smk.long = s.smk.long
      ∧ s.syntheticChuff.smk.state = s.smk.state ∧ s.syntheticChuff.snd.valve = s.snd.valve := by
  unfold State.syntheticChuff
  (repeat' split) <;> simp [State.chuffEvent]

theorem syntheticChuff_of_rest {s : State} (h : s.image.chuff.source = .cam ∨ s.spr.stopped = true) : s.syntheticChuff = s := by
  rw [State.syntheticChuff, if_neg]
  rcases h with h | h <;> simp [h]

theorem syntheticChuff_chg {s : State} (hsource : s.image.chuff.source = .synthetic) (hstopped : s.spr.stopped = false) :
    s.syntheticChuff.chg.phase = (s.chg.phase + s.chuffIncrement) % 65536
      ∧ s.syntheticChuff.chg.count = if s.chg.phase + s.chuffIncrement < 65536 then s.chg.count else (s.chg.count + 1) % 65536 := by
  rw [State.syntheticChuff, if_pos ⟨hsource, hstopped⟩]
  split
  next hlow => exact ⟨(Nat.mod_eq_of_lt hlow).symm, rfl⟩
  next => simp [chuffEvent_chg]

theorem squealTest_valve (s : State) : s.squealTest.snd.valve = s.snd.valve := by
  unfold State.squealTest
  split <;> simp

/-! ### The sample's event (R98, R103, R124, R143) -/

section Bemf

variable {s : State} {raw : Nat}

theorem measure_mrg (raw : Nat) (s : State) :
    (s.measure raw).mrg =
      { s.mrg with
        w := s.mrg.w - s.mrg.w / 4 + min 1023 (raw * s.image.traction.bemfCal / 256)
        y := (s.mrg.w - s.mrg.w / 4 + min 1023 (raw * s.image.traction.bemfCal / 256)) / 4 } := rfl

/-- The sample's judging of STOPPED. -/
def State.judged (raw : Nat) (s : State) : State := (s.measure raw).judgeStopped s.head

theorem bemf_eq (raw : Nat) (s : State) : s.bemf raw = (s.judged raw).syntheticChuff.squealTest := rfl

/-- The chuff and the squeal leave what STOPPED's judging settled. -/
theorem bemf_after_judged (raw : Nat) (s : State) :
    (s.bemf raw).smk.standstill = (s.judged raw).smk.standstill ∧ (s.bemf raw).smk.long = (s.judged raw).smk.long
      ∧ (s.bemf raw).smk.state = (s.judged raw).smk.state ∧ (s.bemf raw).snd.valve = (s.judged raw).snd.valve
      ∧ (s.bemf raw).csu = (s.judged raw).csu ∧ (s.bemf raw).aut = (s.judged raw).aut ∧ (s.bemf raw).tkm = (s.judged raw).tkm := by
  obtain ⟨hstand, hlong, hstate, hvalve⟩ := syntheticChuff_rest (s.judged raw)
  rw [bemf_eq]
  simp [squealTest_valve, hstand, hlong, hstate, hvalve]

theorem judged_spr (raw : Nat) (s : State) : (s.judged raw).spr = { s.spr with stopped := (s.measure raw).standing } := by
  simp [State.judged]

theorem bemf_spr (raw : Nat) (s : State) : (s.bemf raw).spr = { s.spr with stopped := (s.measure raw).standing } := by
  rw [bemf_eq]
  simp [judged_spr]

theorem judged_of_begin (h : (s.measure raw).standing = true) (hs : s.spr.stopped = false) :
    (s.judged raw).smk.standstill = some 30000 ∧ (s.judged raw).smk.long = false ∧ (s.judged raw).snd.valve = some 20000
      ∧ ∀ m, s.csu.slot = .holds m → (s.judged raw).csu.record = m ∧ (s.judged raw).csu.slot = .empty := by
  rw [State.judged, judgeStopped_of_begin h hs]
  exact ⟨by simp [State.smokeStopBegins], by simp [State.smokeStopBegins], by simp, fun m hm => applySlot_of_holds (by simpa using hm)⟩

theorem judged_of_end (h : (s.measure raw).standing = false) (hs : s.spr.stopped = true) :
    (s.judged raw).smk.standstill = none ∧ (s.judged raw).smk.long = false ∧ (s.judged raw).snd.valve = none
      ∧ (s.judged raw).smk.state = if s.smk.state = .idleHold then (if s.tkm.noSmoke then .zoneHold else .ready) else s.smk.state := by
  obtain ⟨hstand, hlong, hstate⟩ := smokeStopEnds_smk ((s.measure raw).onSpr fun r => { r with stopped := false })
  rw [State.judged, judgeStopped_of_end h hs]
  exact ⟨hstand, hlong, rfl, hstate⟩

theorem judged_of_no_begin (h : s.spr.stopped = true ∨ (s.measure raw).standing = false) :
    (s.judged raw).csu = s.csu ∧ (s.judged raw).aut = s.aut ∧ (s.judged raw).tkm = s.tkm :=
  judgeStopped_of_no_begin (s := s.measure raw) h

theorem bemf_chg (raw : Nat) (s : State) : (s.bemf raw).chg = (s.judged raw).syntheticChuff.chg := by
  rw [bemf_eq]
  simp

theorem judged_kept (raw : Nat) (s : State) :
    (s.judged raw).chg = s.chg ∧ (s.judged raw).mrg = (s.measure raw).mrg ∧ (s.judged raw).image = s.image := by
  simp [State.judged, State.measure, State.image]

theorem bemf_reach (raw : Nat) (s : State) :
    reachesOnly (.mrg :: .chg :: .csu :: .rxc :: .tkm :: settlingBlocks) s (s.bemf raw) := by
  simp [reachesOnly_iff, settlingBlocks]

/-- With nothing pending a sample leaves CSU, RXC and TKM. -/
theorem bemf_reach_of_empty (raw : Nat) (h : s.csu.slot = .empty) : reachesOnly (.mrg :: .chg :: settlingBlocks) s (s.bemf raw) := by
  have hmeasured : reachesOnly (.mrg :: .chg :: settlingBlocks) s (s.measure raw) := by
    simp [reachesOnly_iff, settlingBlocks, State.measure]
  have hjudged : reachesOnly [.spr, .smk, .snd] (s.measure raw) (s.judged raw) := judgeStopped_reach (by exact h)
  have hrest : reachesOnly (.mrg :: .chg :: settlingBlocks) (s.judged raw) (s.bemf raw) := by
    rw [bemf_eq]
    simp [reachesOnly_iff, settlingBlocks]
  exact (hmeasured.trans hjudged (by decide)).trans hrest (List.Subset.refl _)

end Bemf

/-- Settles O49: what STOPPED's judging leaves in each case, and the chuff's phase. -/
theorem bemfSampleMeasuresAndJudgesStopped : Obligations.BemfSampleMeasuresAndJudgesStopped := by
  intro s raw hp
  obtain ⟨hstand, hlong, hstate, hvalve, hcsu, haut, htkm⟩ := bemf_after_judged raw.toNat s
  have hexec : exec (.bemfSample raw) s = .next ((s.bemf raw.toNat).settle s) := exec_of_close rfl hp (by simp)
  have hmrg : ((s.bemf raw.toNat).settle s).mrg = (s.measure raw.toNat).mrg := (by simp : _ = (s.bemf raw.toNat).mrg).trans (bemf_mrg _ s)
  have hstopped : ((s.bemf raw.toNat).settle s).spr.stopped = (s.measure raw.toNat).standing := by simp [bemf_spr]
  have hsmk : ((s.bemf raw.toNat).settle s).smk.standstill = (s.judged raw.toNat).smk.standstill
      ∧ ((s.bemf raw.toNat).settle s).smk.long = (s.judged raw.toNat).smk.long
      ∧ ((s.bemf raw.toNat).settle s).snd.valve = (s.judged raw.toNat).snd.valve := by simp [hstand, hlong, hvalve]
  obtain ⟨hstand', hlong', hvalve'⟩ := hsmk
  have hcsu' : ((s.bemf raw.toNat).settle s).csu = (s.judged raw.toNat).csu := by simp [hcsu]
  have hchg : ((s.bemf raw.toNat).settle s).chg = (s.judged raw.toNat).syntheticChuff.chg := by simp [bemf_chg]
  refine answers_of_exec hexec ?_
  rw [hmrg, hstopped, hcsu', hstand', hlong', hvalve', hchg]
  refine ⟨rfl, rfl, standing_iff, fun hs h => ?_, fun m hs h hm => ?_, fun h => (judged_of_no_begin h).1, fun hsettled hs h => ?_,
    fun hs h => ?_, fun hsource h => ?_, fun h => ?_, by simp [bemf_spr], by simp [bemf_spr], rfl, rfl,
    (bemf_reach _ s).trans (reachesOnly_settle s _) (by decide), fun hslot => (bemf_reach_of_empty _ hslot).trans (reachesOnly_settle s _) (by decide)⟩
  · obtain ⟨hst, hl, hv, -⟩ := judged_of_begin h hs
    exact ⟨hst, hl, hv⟩
  · obtain ⟨-, -, -, hslot⟩ := judged_of_begin h hs
    exact hslot m hm
  · obtain ⟨-, hl, -, hst⟩ := judged_of_end h hs
    obtain ⟨hkcsu, hkaut, hktkm⟩ := judged_of_no_begin (raw := raw.toNat) (.inl hs)
    obtain ⟨hkept, -⟩ := settle_of_settled (t := s.bemf raw.toNat) hsettled hp (haut.trans hkaut) (htkm.trans hktkm)
      (.inr (by rw [bemf_spr]; exact h)) (by rw [hcsu, hkcsu]) (by simp) (by simp)
    exact ⟨hl, by rw [hkept, hstate, hst]⟩
  · obtain ⟨hst, -, hv, -⟩ := judged_of_end h hs
    exact ⟨hst, hv⟩
  · obtain ⟨hkchg, hkmrg, hkimage⟩ := judged_kept raw.toNat s
    have hchuff := syntheticChuff_chg (s := s.judged raw.toNat) (by rwa [hkimage]) (by rw [judged_spr]; exact h)
    rw [State.chuffIncrement, hkchg, hkmrg, hkimage] at hchuff
    exact hchuff
  · obtain ⟨hkchg, -, hkimage⟩ := judged_kept raw.toNat s
    rw [syntheticChuff_of_rest, hkchg]
    rwa [hkimage, judged_spr]

end Sys2Proof.Machine
end

section
/-! The thermostat tick (section 10.1). -/

namespace Sys2Proof.Machine

/-! ### The smoke unit through an evaluation and the end of an event (R122, R149) -/

section Unlit

theorem smokeEnter_heater (st : SmokeState) (s : State) : (s.smokeEnter st).smk.heater = (s.smk.heater && smokeHeats st) := rfl

theorem smokeEnter_state (st : SmokeState) (s : State) : (s.smokeEnter st).smk.state = st := rfl

theorem smokeEnabled_state (on : Bool) (s : State) :
    (s.smokeEnabled on).smk.state =
      if on = false then .off else if s.smk.state ≠ .off then s.smk.state else if s.sup.state = .normal then .warming else .shed := by
  unfold State.smokeEnabled
  cases on <;> by_cases hoff : s.smk.state = .off <;> simp [hoff, smokeEnter_state]

theorem smokeEnabled_heater (on : Bool) (s : State) (h : (s.smokeEnabled on).smk.heater = true) : s.smk.heater = true := by
  unfold State.smokeEnabled at h
  (repeat' split at h) <;> simp_all [smokeEnter_heater]

/-- An evaluation hands SMK the combined smoke enable where it changed (R122). -/
theorem evaluate_state (s : State) :
    s.evaluate.smk.state =
      if (evaluatedFnm s.image s.fEff s.role).smokeEnable = s.fnm.smokeEnable then s.smk.state
      else if (evaluatedFnm s.image s.fEff s.role).smokeEnable = false then .off
      else if s.smk.state ≠ .off then s.smk.state
      else if s.sup.state = .normal then .warming else .shed := by
  simp only [State.evaluate, ditchChange_frame]
  split
  · simp
  · rw [smokeEnabled_state]
    simp

theorem evaluate_heater (s : State) (h : s.evaluate.smk.heater = true) : s.smk.heater = true := by
  simp only [State.evaluate, ditchChange_frame] at h
  split at h
  · simpa using h
  · simpa using smokeEnabled_heater _ _ h

theorem functionsRefresh_heater (s : State) (h : s.functionsRefresh.smk.heater = true) : s.smk.heater = true := by
  unfold State.functionsRefresh at h
  split at h
  · simpa using h
  · exact evaluate_heater s (by simpa using h)

theorem entryAction_smoke (k : EntryAction) (s : State) :
    (s.entryAction k).smk.heater = s.smk.heater ∧ (s.entryAction k).smk.state = s.smk.state := by
  cases k <;> simp [State.entryAction]

theorem runActions_smoke (ks : List EntryAction) (s : State) :
    (ks.foldl State.entryAction s).smk.heater = s.smk.heater ∧ (ks.foldl State.entryAction s).smk.state = s.smk.state := by
  induction ks generalizing s with
  | nil => exact ⟨rfl, rfl⟩
  | cons k ks ih =>
    obtain ⟨hheater, hstate⟩ := entryAction_smoke k s
    exact ⟨(ih _).1.trans hheater, (ih _).2.trans hstate⟩

theorem entryActions_smoke (l : Level) (resume : Bool) (s : State) :
    (s.entryActions l resume).smk.heater = s.smk.heater ∧ (s.entryActions l resume).smk.state = s.smk.state := by
  unfold State.entryActions
  split
  · exact runActions_smoke _ s
  · exact ⟨rfl, rfl⟩

theorem activate_heater (h0 l : Level) (s : State) (h : (s.activate h0 l).smk.heater = true) : s.smk.heater = true := by
  have hafter : (s.activate h0 l).smk.heater =
      (State.entryActions l (autCtx s.aut l).started
        (State.functionsRefresh (s.onAut fun a => markStarted l (loadSaved h0 l a)))).smk.heater := by
    simp only [State.activate]
    split <;> simp
  rw [hafter, (entryActions_smoke ..).1] at h
  exact functionsRefresh_heater (s.onAut fun a => markStarted l (loadSaved h0 l a)) h

/-- A change of head switches no heater on (R53, R149). -/
theorem changeHead_heater (h0 : Level) (s : State) (h : (s.changeHead h0).smk.heater = true) : s.smk.heater = true := by
  unfold State.changeHead at h
  split at h
  · exact functionsRefresh_heater s h
  · have hlit := activate_heater _ _ _ h
    split at hlit <;> simpa using hlit

theorem settle_heater (s s0 : State) (h : (s.settle s0).smk.heater = true) : s.smk.heater = true := by
  have hlit : ((s.settleClaims s0.head).changeHead s0.head).smk.heater = true := by simpa [State.settle] using h
  simpa using changeHead_heater _ _ hlit

end Unlit

/-! ### One tick (R147 to R151) -/

section Tick

variable {s : State} {raw : Nat}

theorem dryTest_state (s : State) :
    s.dryTest.smk.state =
      if s.image.smoke.tDry < s.smk.temp ∧ (smokeHeats s.smk.state = true ∨ s.smk.state = .shed) then .dry else s.smk.state := by
  unfold State.dryTest
  split <;> rfl

theorem dryTest_heater (s : State) :
    s.dryTest.smk.heater = if s.image.smoke.tDry < s.smk.temp ∧ (smokeHeats s.smk.state = true ∨ s.smk.state = .shed) then false
      else s.smk.heater := by
  unfold State.dryTest
  split
  · simp [smokeEnter_heater, smokeHeats]
  · rfl

theorem smokeHeats_settleReady (noSmoke long : Bool) : smokeHeats (settleReady noSmoke long) = true := by
  cases noSmoke <;> cases long <;> rfl

theorem warmTest_state (s : State) :
    s.warmTest.smk.state =
      if s.smk.state = .warming ∧ s.image.smoke.tRun ≤ s.smk.temp + 5 then settleReady s.tkm.noSmoke s.smk.long else s.smk.state := by
  unfold State.warmTest
  split <;> rfl

theorem warmTest_heater (s : State) : s.warmTest.smk.heater = s.smk.heater := by
  unfold State.warmTest
  split
  · simp [State.smokeReach, smokeEnter_heater, smokeHeats_settleReady]
  · rfl

theorem dryTest_rest (s : State) :
    s.dryTest.smk.temp = s.smk.temp ∧ s.dryTest.smk.long = s.smk.long ∧ s.dryTest.smk.standstill = s.smk.standstill := by
  unfold State.dryTest
  split <;> exact ⟨rfl, rfl, rfl⟩

theorem warmTest_rest (s : State) :
    s.warmTest.smk.temp = s.smk.temp ∧ s.warmTest.smk.long = s.smk.long ∧ s.warmTest.smk.standstill = s.smk.standstill := by
  unfold State.warmTest
  split <;> exact ⟨rfl, rfl, rfl⟩

/-- A tick's temperature taken and judged for the latch (R147, R148). -/
def State.tickTaken (raw : Nat) (s : State) : State :=
  State.overtempTest (s.onSmk fun k => { k with temp := temperature s.image.smoke raw })

/-- A tick up to the heater's decision. -/
def State.tickMoved (raw : Nat) (s : State) : State := (s.tickTaken raw).dryTest.warmTest

theorem thermostat_eq (raw : Nat) (s : State) : s.thermostat raw = (s.tickMoved raw).heaterDecision := rfl

theorem tickTaken_smk (raw : Nat) (s : State) :
    (s.tickTaken raw).smk =
      { s.smk with
        temp := temperature s.image.smoke raw, heater := s.smk.heater && !decide (350 ≤ temperature s.image.smoke raw) } := by
  rw [State.tickTaken, overtempTest_smk]
  by_cases hot : 350 ≤ temperature s.image.smoke raw <;> simp [hot]

/-- An enabled state above T_dry (R149). -/
abbrev State.driesAt (raw : Nat) (s : State) : Prop :=
  s.image.smoke.tDry < temperature s.image.smoke raw ∧ (smokeHeats s.smk.state = true ∨ s.smk.state = .shed)

theorem tickTaken_blocks (raw : Nat) (s : State) :
    (s.tickTaken raw).image = s.image ∧ (s.tickTaken raw).tkm = s.tkm := by simp [State.tickTaken, State.image]

theorem tickMoved_of_dry (h : s.driesAt raw) : (s.tickMoved raw).smk.state = .dry ∧ (s.tickMoved raw).smk.heater = false := by
  have hdry : (s.tickTaken raw).image.smoke.tDry < (s.tickTaken raw).smk.temp
      ∧ (smokeHeats (s.tickTaken raw).smk.state = true ∨ (s.tickTaken raw).smk.state = .shed) := by
    rw [tickTaken_smk, (tickTaken_blocks raw s).1]
    exact h
  rw [State.tickMoved, warmTest_state, warmTest_heater, dryTest_state, dryTest_heater, if_pos hdry, if_pos hdry]
  exact ⟨rfl, rfl⟩

theorem tickMoved_of_no_dry (h : ¬s.driesAt raw) :
    (s.tickMoved raw).smk.state =
        (if s.smk.state = .warming ∧ s.image.smoke.tRun ≤ temperature s.image.smoke raw + 5
          then settleReady s.tkm.noSmoke s.smk.long else s.smk.state)
      ∧ (s.tickMoved raw).smk.heater = (s.smk.heater && !decide (350 ≤ temperature s.image.smoke raw)) := by
  have hdry : ¬((s.tickTaken raw).image.smoke.tDry < (s.tickTaken raw).smk.temp
      ∧ (smokeHeats (s.tickTaken raw).smk.state = true ∨ (s.tickTaken raw).smk.state = .shed)) := by
    rw [tickTaken_smk, (tickTaken_blocks raw s).1]
    exact h
  have hkept : (s.tickTaken raw).dryTest = s.tickTaken raw := if_neg hdry
  rw [State.tickMoved, hkept, warmTest_state, warmTest_heater, (tickTaken_blocks raw s).1, (tickTaken_blocks raw s).2, tickTaken_smk]
  exact ⟨rfl, rfl⟩

theorem tickMoved_state : (s.tickMoved raw).smk.state =
    if s.driesAt raw then .dry
    else if s.smk.state = .warming ∧ s.image.smoke.tRun ≤ temperature s.image.smoke raw + 5 then settleReady s.tkm.noSmoke s.smk.long
    else s.smk.state := by
  by_cases hdry : s.driesAt raw
  · rw [if_pos hdry, (tickMoved_of_dry hdry).1]
  · rw [if_neg hdry, (tickMoved_of_no_dry hdry).1]

theorem driesAt_iff : s.driesAt raw ↔ s.image.smoke.tDry < temperature s.image.smoke raw
    ∧ s.smk.state ∈ [SmokeState.warming, .ready, .idleHold, .zoneHold, .shed] := by
  rw [State.driesAt, smokeHeats_iff]
  simp [or_assoc]

theorem tickMoved_rest (raw : Nat) (s : State) :
    (s.tickMoved raw).smk.temp = temperature s.image.smoke raw ∧ (s.tickMoved raw).smk.long = s.smk.long
      ∧ (s.tickMoved raw).smk.standstill = s.smk.standstill := by
  obtain ⟨ht, hl, hs⟩ := dryTest_rest (s.tickTaken raw)
  obtain ⟨ht', hl', hs'⟩ := warmTest_rest (s.tickTaken raw).dryTest
  rw [State.tickMoved, ht', hl', hs', ht, hl, hs, tickTaken_smk]
  exact ⟨rfl, rfl, rfl⟩

theorem tickMoved_blocks (raw : Nat) (s : State) :
    (s.tickMoved raw).image = s.image ∧ (s.tickMoved raw).sup = s.sup ∧ (s.tickMoved raw).mrg = s.mrg
      ∧ (s.tickMoved raw).cfg.overtemp = (s.cfg.overtemp || decide (350 ≤ temperature s.image.smoke raw)) := by
  refine ⟨by simp [State.tickMoved, State.tickTaken, State.image], by simp [State.tickMoved, State.tickTaken],
    by simp [State.tickMoved, State.tickTaken], ?_⟩
  simp [State.tickMoved, State.tickTaken]
  rfl

/-- The heater's conditions at the decision (R151). -/
theorem tickMoved_allowed_iff : (s.tickMoved raw).heaterAllowed = true ↔
    s.sup.state = .normal ∧ smokeHeats (s.tickMoved raw).smk.state = true
      ∧ (s.cfg.overtemp || decide (350 ≤ temperature s.image.smoke raw)) = false
      ∧ averageCurrent s.mrg.window + s.image.smoke.iHeater + s.image.smoke.iBase ≤ s.image.smoke.iBudget := by
  obtain ⟨himage, hsup, hmrg, hover⟩ := tickMoved_blocks raw s
  rw [State.heaterAllowed, State.budgetHolds, himage, hsup, hmrg, hover]
  simp [and_assoc]

theorem thermostat_smk (raw : Nat) (s : State) :
    (s.thermostat raw).smk.temp = temperature s.image.smoke raw ∧ (s.thermostat raw).smk.long = s.smk.long
      ∧ (s.thermostat raw).smk.standstill = s.smk.standstill ∧ (s.thermostat raw).smk.state = (s.tickMoved raw).smk.state := by
  obtain ⟨ht, hl, hs⟩ := tickMoved_rest raw s
  rw [thermostat_eq]
  exact ⟨ht, hl, hs, rfl⟩

theorem tickMoved_setpoint (raw : Nat) (s : State) : (s.tickMoved raw).setpoint =
    if (s.tickMoved raw).smk.state = .zoneHold ∨ s.smk.long = true then s.image.smoke.tIdle else s.image.smoke.tRun := by
  rw [State.setpoint, (tickMoved_blocks raw s).1, (tickMoved_rest raw s).2.1]

theorem thermostat_allowed (h : (s.thermostat raw).smk.heater = true) : (s.tickMoved raw).heaterAllowed = true := by
  by_contra hno
  simp [thermostat_eq, State.heaterDecision, hno] at h

/-- The heater after the decision: a setpoint less 5 lights it, below the setpoint it stays, from there on it is off (R151). -/
theorem thermostat_heater_iff : (s.thermostat raw).smk.heater = true ↔
    (s.tickMoved raw).heaterAllowed = true
      ∧ (temperature s.image.smoke raw + 5 < (s.tickMoved raw).setpoint
        ∨ temperature s.image.smoke raw < (s.tickMoved raw).setpoint ∧ s.smk.heater = true) := by
  obtain ⟨ht, -, -⟩ := tickMoved_rest raw s
  have hlit : (s.tickMoved raw).heaterAllowed = true → (s.tickMoved raw).smk.heater = s.smk.heater := fun hallowed => by
    obtain ⟨-, hheats, hcool, -⟩ := tickMoved_allowed_iff.1 hallowed
    have hdry : ¬s.driesAt raw := fun hdry => by
      rw [(tickMoved_of_dry hdry).1] at hheats
      cases hheats
    rw [(tickMoved_of_no_dry hdry).2, (Bool.or_eq_false_iff.1 hcool).2]
    simp
  have hdecided : (s.thermostat raw).smk.heater =
      if (s.tickMoved raw).heaterAllowed then
        (if temperature s.image.smoke raw + 5 < (s.tickMoved raw).setpoint then true
          else if temperature s.image.smoke raw < (s.tickMoved raw).setpoint then (s.tickMoved raw).smk.heater else false)
      else false := by
    rw [← ht]
    rfl
  rw [hdecided]
  by_cases hallowed : (s.tickMoved raw).heaterAllowed = true
  · rw [hlit hallowed, if_pos hallowed]
    split
    · simp_all
    · split <;> simp_all
  · simp [hallowed]

end Tick

/-- Settles O55: the temperature, the states and the heater of the tick, through the end of the event. -/
theorem thermostatTickDecidesTheHeater : Obligations.ThermostatTickDecidesTheHeater := by
  intro s raw hp
  have hexec : exec (.thermostatTick raw) s = .next ((s.thermostat raw.toNat).settle s) := exec_of_close rfl hp (by simp)
  obtain ⟨htemp, hlong, hstand, hstate⟩ := thermostat_smk raw.toNat s
  have hsmk : ((s.thermostat raw.toNat).settle s).smk.temp = temperature s.image.smoke raw.toNat
      ∧ ((s.thermostat raw.toNat).settle s).smk.long = s.smk.long
      ∧ ((s.thermostat raw.toNat).settle s).smk.standstill = s.smk.standstill := by simp [htemp, hlong, hstand]
  obtain ⟨htemp', hlong', hstand'⟩ := hsmk
  have hcfg : ((s.thermostat raw.toNat).settle s).cfg =
      { s.cfg with overtemp := s.cfg.overtemp || decide (350 ≤ temperature s.image.smoke raw.toNat) } := by simp
  have hallowed (h : ((s.thermostat raw.toNat).settle s).smk.heater = true) := tickMoved_allowed_iff.1 (thermostat_allowed (settle_heater _ _ h))
  refine answers_of_exec hexec ?_
  rw [htemp', hlong', hstand', hcfg]
  refine ⟨?_, rfl, fun hdry henabled => ?_, fun hhot => ?_, fun hlit => ?_, fun hsettled => ?_, rfl, rfl, ?_, motionKept_settle (motionKept_of_spr_eq (by simp))⟩
  · rw [temperature, clampInt_eq _ _ _ (by decide), Int.toNat_of_nonneg (le_max_left ..), min_comm]
    rfl
  · have hoff := (tickMoved_of_dry (raw := raw.toNat) ⟨hdry, henabled⟩).1
    rw [← Bool.not_eq_true]
    intro hlit
    obtain ⟨-, hheats, -⟩ := hallowed hlit
    rw [hoff] at hheats
    cases hheats
  · rw [← Bool.not_eq_true]
    intro hlit
    obtain ⟨-, -, hcool, -⟩ := hallowed hlit
    simp [hhot] at hcool
  · obtain ⟨hsup, -, hcool, -⟩ := hallowed hlit
    exact ⟨hsup, hcool⟩
  · obtain ⟨hkept, -⟩ := settle_of_settled (t := s.thermostat raw.toNat) hsettled hp (by simp) (by simp) (.inl (by simp)) (by simp)
      (by simp) (by simp)
    rw [hkept, hstate, thermostat_heater_iff, tickMoved_allowed_iff, smokeHeats_iff, tickMoved_setpoint]
    refine ⟨tickMoved_state.trans (if_congr driesAt_iff rfl rfl), ?_⟩
    simp only [and_assoc]
  · have hreach : reachesOnly (.cfg :: settlingBlocks) s (s.thermostat raw.toNat) := by simp [reachesOnly_iff, settlingBlocks]
    exact hreach.trans (reachesOnly_settle s _) (by simp)

end Sys2Proof.Machine
end

section
/-! DRIVER through the end of an event (sections 4.3, 4.7), and the throttle frames that bind, rebind and release it. -/

namespace Sys2Proof.Machine

/-! ### DRIVER's records through a change of head (R53, R54, R64) -/

section DriverChange

variable {h0 l : Level} {a : Aut}

theorem preempt_driverLive (h0 : Level) (a : Aut) :
    (preempt h0 a).driverLive =
      if h0 = .driver ∧ a.driver.claimed = true then { a.driverLive with zeroLock := false } else a.driverLive := by
  unfold preempt
  split
  next hc =>
    cases h0 with
    | driver => exact (if_pos ⟨rfl, hc⟩).symm
    | _ => exact (if_neg (by simp)).symm
  next hc =>
    rw [if_neg]
    rintro ⟨rfl, hd⟩
    exact hc hd

theorem preempt_driver (h0 : Level) (a : Aut) :
    (preempt h0 a).driver =
      if h0 = .driver ∧ a.driver.claimed = true then { a.driver with saved := savedOf .driver a } else a.driver := by
  unfold preempt
  split
  next hc =>
    cases h0 with
    | driver => exact (if_pos ⟨rfl, hc⟩).symm
    | _ => exact (if_neg (by simp)).symm
  next hc =>
    rw [if_neg]
    rintro ⟨rfl, hd⟩
    exact hc hd

theorem loadSaved_of_other (hl : l ≠ .driver) : (loadSaved h0 l a).driverLive = a.driverLive ∧ (loadSaved h0 l a).driver = a.driver := by
  cases l <;> first | exact absurd rfl hl | exact ⟨rfl, rfl⟩

theorem markStarted_driver (l : Level) (a : Aut) :
    (markStarted l a).driverLive = a.driverLive
      ∧ (markStarted l a).driver = if l = .driver then { a.driver with started := true } else a.driver := by
  cases l <;> exact ⟨rfl, rfl⟩

/-- DRIVER that becomes the head takes its live data from its saved part; its zero-lock is set too where FAILSAFE or CONSIST was the
head (R53, R64). -/
theorem headChanged_to_driver (h : h0 ≠ .driver) :
    (headChanged h0 .driver a).driverLive =
        { a.driverLive with
          step := a.driver.saved.target
          dir := a.driver.saved.dir
          zeroLock := a.driver.saved.zeroLock || h0 == .failsafe || h0 == .consist }
      ∧ (headChanged h0 .driver a).driver.started = true := by
  have hlive := preempt_driverLive h0 a
  have hctx := preempt_driver h0 a
  rw [if_neg (by simp [h])] at hlive hctx
  rw [headChanged, (markStarted_driver ..).1, (markStarted_driver ..).2]
  simp [loadSaved, hlive, hctx]

/-- DRIVER that loses the head keeps its live step and direction, and its zero-lock moves into its saved part (R54, R64). -/
theorem headChanged_from_driver (hl : l ≠ .driver) (hc : a.driver.claimed = true) :
    (headChanged .driver l a).driverLive = { a.driverLive with zeroLock := false }
      ∧ (headChanged .driver l a).driver.saved.zeroLock = a.driverLive.zeroLock := by
  have hlive := preempt_driverLive .driver a
  have hctx := preempt_driver .driver a
  rw [if_pos ⟨rfl, hc⟩] at hlive hctx
  rw [headChanged, (markStarted_driver ..).1, (markStarted_driver ..).2, if_neg hl, (loadSaved_of_other hl).1, (loadSaved_of_other hl).2,
    hlive, hctx]
  exact ⟨rfl, rfl⟩

/-- A change of head between other levels, or from a DRIVER that is released, leaves DRIVER's records (R54). -/
theorem headChanged_driver_kept (h : h0 ≠ .driver ∨ a.driver.claimed = false) (hl : l ≠ .driver) :
    (headChanged h0 l a).driver = a.driver ∧ (headChanged h0 l a).driverLive = a.driverLive := by
  have hno : ¬(h0 = .driver ∧ a.driver.claimed = true) := by
    rintro ⟨hd, hc⟩
    exact h.elim (· hd) fun hu => by simp [hu] at hc
  have hlive := preempt_driverLive h0 a
  have hctx := preempt_driver h0 a
  rw [if_neg hno] at hlive hctx
  rw [headChanged, (markStarted_driver ..).1, (markStarted_driver ..).2, if_neg hl, (loadSaved_of_other hl).1, (loadSaved_of_other hl).2,
    hlive, hctx]
  exact ⟨rfl, rfl⟩

end DriverChange

/-! ### DRIVER through the end of an event -/

section DriverSettled

variable {s s0 : State}

theorem settle_driver_records (s s0 : State) :
    (s.settle s0).aut.driver = (settledAut s s0).driver ∧ (s.settle s0).aut.driverLive = (settledAut s s0).driverLive := by
  obtain ⟨-, -, -, hd, -, hl, -⟩ := settle_aut_records s s0
  exact ⟨hd, hl⟩

/-- Where the head stays, DRIVER's records stay. -/
theorem settle_driver_of_same (h : (s.settle s0).head = s0.head) :
    (s.settle s0).aut.driver = s.aut.driver ∧ (s.settle s0).aut.driverLive = s.aut.driverLive := by
  obtain ⟨hd, hl⟩ := settle_driver_records s s0
  rw [settle_head] at h
  rw [hd, hl, settledAut_eq, if_pos h]
  simp

theorem settle_driver_of_head (h : (s.settle s0).head = .driver) (h0 : s0.head ≠ .driver) :
    (s.settle s0).aut.driverLive =
        { s.aut.driverLive with
          step := s.aut.driver.saved.target
          dir := s.aut.driver.saved.dir
          zeroLock := s.aut.driver.saved.zeroLock || s0.head == .failsafe || s0.head == .consist }
      ∧ (s.settle s0).aut.driver.started = true := by
  obtain ⟨hd, hl⟩ := settle_driver_records s s0
  rw [settle_head] at h
  rw [hd, hl, settledAut_eq, if_neg (by rw [h]; exact h0.symm), h]
  obtain ⟨hlive, hstarted⟩ := headChanged_to_driver (a := (s.settleClaims s0.head).aut) h0
  exact ⟨by simpa using hlive, hstarted⟩

theorem settle_driver_of_preempted (h : (s.settle s0).head ≠ .driver) (h0 : s0.head = .driver) (hc : s.aut.driver.claimed = true) :
    (s.settle s0).aut.driverLive = { s.aut.driverLive with zeroLock := false }
      ∧ (s.settle s0).aut.driver.saved.zeroLock = s.aut.driverLive.zeroLock := by
  obtain ⟨hd, hl⟩ := settle_driver_records s s0
  rw [settle_head] at h
  rw [h0] at h
  rw [hd, hl, settledAut_eq, if_neg (by rw [h0]; exact h), h0]
  obtain ⟨hlive, hlock⟩ := headChanged_from_driver (a := (s.settleClaims .driver).aut) h (by simpa using hc)
  exact ⟨by simpa using hlive, by simpa using hlock⟩

theorem settle_driver_kept (h : (s.settle s0).head ≠ .driver) (h0 : s0.head ≠ .driver ∨ s.aut.driver.claimed = false) :
    (s.settle s0).aut.driver = s.aut.driver ∧ (s.settle s0).aut.driverLive = s.aut.driverLive := by
  obtain ⟨hd, hl⟩ := settle_driver_records s s0
  rw [settle_head] at h
  rw [hd, hl, settledAut_eq]
  split
  · simp
  · simpa using headChanged_driver_kept (a := (s.settleClaims s0.head).aut) (h0 := s0.head) (by simpa using h0) h

/-- DRIVER's live data holds a step and a direction, and so does its saved part while it waits (R54, R60). -/
def DriverHolds (h0 : Level) (d : ThrottleData) (a : Aut) : Prop :=
  a.driverLive.step = d.step ∧ a.driverLive.dir = d.dir ∧ a.driverLive.funcs = d.funcs
    ∧ (h0 ≠ .driver → a.driver.saved.target = d.step ∧ a.driver.saved.dir = d.dir)

theorem DriverHolds.settle {d : ThrottleData} (h : DriverHolds s0.head d s.aut) (hc : s.aut.driver.claimed = true) :
    (s.settle s0).aut.driverLive.step = d.step ∧ (s.settle s0).aut.driverLive.dir = d.dir
      ∧ (s.settle s0).aut.driverLive.funcs = d.funcs := by
  obtain ⟨hstep, hdir, hfuncs, hsaved⟩ := h
  refine ⟨?_, ?_, by simpa using hfuncs⟩
  all_goals
    by_cases hnew : (s.settle s0).head = .driver <;> by_cases hold : s0.head = .driver
    · rw [(settle_driver_of_same (hnew.trans hold.symm)).2]
      assumption
    · rw [(settle_driver_of_head hnew hold).1]
      simp [hsaved hold]
    · rw [(settle_driver_of_preempted hnew hold hc).1]
      assumption
    · rw [(settle_driver_kept hnew (.inl hold)).2]
      assumption

/-- DRIVER's zero-lock, once set, is set after the end of the event, wherever it then stands (R64). -/
theorem settle_zeroLock (hc : s.aut.driver.claimed = true) (h : zeroLockNow s0.head s.aut = true) :
    zeroLockNow (s.settle s0).head (s.settle s0).aut = true := by
  by_cases hnew : (s.settle s0).head = .driver <;> by_cases hold : s0.head = .driver
  · rw [zeroLockNow, if_pos hold] at h
    rw [zeroLockNow, if_pos hnew, (settle_driver_of_same (hnew.trans hold.symm)).2, h]
  · rw [zeroLockNow, if_neg hold] at h
    rw [zeroLockNow, if_pos hnew, (settle_driver_of_head hnew hold).1, h]
    rfl
  · rw [zeroLockNow, if_pos hold] at h
    rw [zeroLockNow, if_neg hnew, (settle_driver_of_preempted hnew hold hc).2, h]
  · rw [zeroLockNow, if_neg hold] at h
    rw [zeroLockNow, if_neg hnew, (settle_driver_kept hnew (.inl hold)).1, h]

/-- With neither FAILSAFE nor SIGNAL claimed the head stays what the claims make it. -/
theorem settle_head_quiet (hf : s.aut.failsafe.claimed = false) (hs : s.aut.signal.claimed = false) : (s.settle s0).head = s.head := by
  rw [settle_head, settleClaims_head _ _ hf hs]

end DriverSettled

/-! ### An accepted throttle frame (R13, R14, R16) -/

section Throttle

variable {s : State} {h : Collected} {payload : List Byte} {crc : BitVec 16}

/-- The part after PTB has heard an accepted THROTTLE frame. -/
def State.throttleHeard (s : State) (h : Collected) : State := (s.accepted 1).hear (frameInfo h) .throttle none

theorem throttleHeard_kept (s : State) (h : Collected) :
    (s.throttleHeard h).cfg = s.cfg ∧ (s.throttleHeard h).spr = s.spr ∧ (s.throttleHeard h).mrg = s.mrg
      ∧ (s.throttleHeard h).aut = s.aut ∧ (s.throttleHeard h).csu = s.csu ∧ (s.throttleHeard h).sup = s.sup
      ∧ (s.throttleHeard h).fnm = s.fnm ∧ (s.throttleHeard h).snd = s.snd ∧ (s.throttleHeard h).smk = s.smk
      ∧ (s.throttleHeard h).power = s.power ∧ (s.throttleHeard h).rxc.driverLink = s.rxc.driverLink
      ∧ (s.throttleHeard h).rxc.rssi = s.rxc.rssi := by
  simp [State.throttleHeard]

theorem throttleHeard_reach (s : State) (h : Collected) :
    reachesOnly (.rxc :: .ptb :: .tkm :: settlingBlocks) s (s.throttleHeard h) := by
  simp [State.throttleHeard, reachesOnly_iff, settlingBlocks]

theorem throttleHeard_role (s : State) (h : Collected) : (s.throttleHeard h).role = s.role ∧ (s.throttleHeard h).ownId = s.ownId := by
  obtain ⟨hcfg, -, -, -, hcsu, -⟩ := throttleHeard_kept s h
  exact ⟨role_congr (by rw [hcsu]) (by rw [hcfg]), by simp only [State.ownId, hcfg]⟩

theorem exec_throttle (ha : arrives 1 s h payload crc)
    (hdest : headerDest h.bytes = s.ownId ∨ (s.consistId ≠ 0 ∧ headerDest h.bytes = s.consistId)) :
    exec (.throttleFrame payload crc) s =
      .next (((s.throttleHeard h).takeThrottle s.head (frameInfo h) (throttleData payload)).settle s) := by
  have hp : s.power = .running := ha.1
  have hconcerns : (frameInfo h).dest = (s.accepted 1).ownId
      ∨ ((s.accepted 1).consistId ≠ 0 ∧ (frameInfo h).dest = (s.accepted 1).consistId) := by
    simpa [State.ownId, State.consistId, State.image, frameInfo] using hdest
  have hhead : (s.accepted 1).head = s.head := by simp [State.head]
  rw [exec_throttleFrame ha, State.dispatchThrottle, if_pos hconcerns, hhead, close_of_running (by simpa using hp)]
  rfl

/-- A frame for DRIVER reaches it (R58). -/
theorem exec_driverFrame (ha : arrives 1 s h payload crc) (hd : forDriver s h) :
    exec (.throttleFrame payload crc) s =
      .next ((((s.throttleHeard h).driverHeard (frameInfo h)).driverFrame s.head (frameInfo h) (throttleData payload)).settle s) := by
  obtain ⟨hrole, hown⟩ := throttleHeard_role s h
  have hdest : headerDest h.bytes = s.ownId ∨ (s.consistId ≠ 0 ∧ headerDest h.bytes = s.consistId) :=
    hd.imp_right fun ⟨hne, heq, _⟩ => ⟨hne, heq⟩
  have hmine : ¬((s.throttleHeard h).role = .follower ∧ (frameInfo h).dest ≠ (s.throttleHeard h).ownId) := by
    rw [hrole, hown]
    rintro ⟨hf, hne⟩
    exact hd.elim hne fun ⟨_, _, hnf⟩ => hnf hf
  rw [exec_throttle ha hdest, State.takeThrottle, if_neg hmine]

theorem removeCause_aut_congr {c : Cause} {s t : State} (ha : t.aut = s.aut) (hc : t.cfg = s.cfg) :
    (t.removeCause c).aut = (s.removeCause c).aut := by
  unfold State.removeCause State.image
  rw [ha, hc]
  split
  · simp only [onAut_aut, ha]
  · exact ha

/-- What a valid frame of the DRIVER link leaves of AUT (R17, R18): only LINK_LOST goes, and with it the hold may begin. -/
theorem driverHeard_aut (info : FrameInfo) (s : State) :
    (s.driverHeard info).aut = s.aut ∨ (s.driverHeard info).aut = (s.removeCause .linkLost).aut := by
  unfold State.driverHeard
  split
  · rcases validFrame_cases .driver s with ⟨-, h⟩ | ⟨-, h⟩ | ⟨-, h⟩
    · exact .inl (by simp [State.setRssi, h])
    · exact .inl (by simp [State.setRssi, h])
    · refine .inr ?_
      rw [h]
      exact removeCause_aut_congr rfl rfl
  · exact .inl rfl

theorem driverHeard_records (info : FrameInfo) (s : State) :
    (s.driverHeard info).aut.driver = s.aut.driver ∧ (s.driverHeard info).aut.driverLive = s.aut.driverLive
      ∧ (s.driverHeard info).aut.failsafe = s.aut.failsafe ∧ (s.driverHeard info).aut.signal = s.aut.signal
      ∧ (s.driverHeard info).aut.consist = s.aut.consist := by
  rcases driverHeard_aut info s with h | h <;> rw [h] <;> simp

theorem driverHeard_of_other {info : FrameInfo} (hs : s.rxc.driverLink.source ≠ some info.source) : s.driverHeard info = s := if_neg hs

/-- A valid frame of the bound throttle at the DRIVER link (R17). -/
theorem driverHeard_link {info : FrameInfo} (hs : s.rxc.driverLink.source = some info.source) :
    (s.driverHeard info).rxc.driverLink =
        { source := some info.source, state := if s.rxc.driverLink.state = .lost then .regaining else .up, age := 0 }
      ∧ (s.driverHeard info).rxc.rssi = info.rssi := by
  rw [State.driverHeard, if_pos hs]
  refine ⟨?_, rfl⟩
  rcases validFrame_cases .driver s with ⟨hst, h⟩ | ⟨hst, h⟩ | ⟨hst, h⟩ <;>
  · have hst' : s.rxc.driverLink.state = _ := hst
    rw [h]
    simp [State.setRssi, hst', linkRecord, hs]

end Throttle

end Sys2Proof.Machine
end

section
/-! The throttle frames that bind, contend, rebind and release (section 4.3), and a follower's throttle frames (section 4.4). -/

namespace Sys2Proof.Machine

/-! ### The part that a frame for DRIVER finds -/

section Found

variable {s : State} {h : Collected}

/-- The part after PTB and the DRIVER link have heard a throttle frame. -/
def State.driverFound (s : State) (h : Collected) : State := (s.throttleHeard h).driverHeard (frameInfo h)

theorem driverFound_records (s : State) (h : Collected) :
    (s.driverFound h).aut.driver = s.aut.driver ∧ (s.driverFound h).aut.driverLive = s.aut.driverLive
      ∧ (s.driverFound h).aut.failsafe = s.aut.failsafe ∧ (s.driverFound h).aut.signal = s.aut.signal
      ∧ (s.driverFound h).aut.consist = s.aut.consist := by
  have hrecords := driverHeard_records (frameInfo h) (s.throttleHeard h)
  rwa [(throttleHeard_kept s h).2.2.2.1] at hrecords

theorem driverFound_kept (s : State) (h : Collected) :
    (s.driverFound h).cfg = s.cfg ∧ (s.driverFound h).spr = s.spr ∧ (s.driverFound h).mrg = s.mrg
      ∧ (s.driverFound h).csu = s.csu ∧ (s.driverFound h).sup = s.sup ∧ (s.driverFound h).fnm = s.fnm
      ∧ (s.driverFound h).snd = s.snd ∧ (s.driverFound h).smk = s.smk ∧ (s.driverFound h).power = s.power := by
  simp [State.driverFound, State.throttleHeard]

theorem driverFound_reach (s : State) (h : Collected) :
    reachesOnly (.rxc :: .ptb :: .tkm :: settlingBlocks) s (s.driverFound h) := by
  have hheard : reachesOnly (.rxc :: settlingBlocks) (s.throttleHeard h) (s.driverFound h) := by
    simp [State.driverFound, reachesOnly_iff, settlingBlocks]
  exact (throttleHeard_reach s h).trans hheard (by decide)

/-- A frame for DRIVER as an event that leaves SPR. -/
theorem throttle_event {t : State} (ht : t.spr = (s.driverFound h).spr)
    (hreach : reachesOnly (.rxc :: settlingBlocks) (s.driverFound h) t) :
    reachesOnly (.rxc :: .ptb :: .tkm :: settlingBlocks) s (t.settle s) ∧ motionKept s (t.settle s) :=
  ⟨((driverFound_reach s h).trans hreach (by decide)).trans (reachesOnly_settle s t) (by decide),
    motionKept_settle (motionKept_of_spr_eq (ht.trans (driverFound_kept s h).2.1))⟩

end Found

/-! ### Binding (R59) -/

section Bind

variable {info : FrameInfo} {d : ThrottleData} {s : State}

theorem putDriverData_of_waiting {h0 : Level} (h : h0 ≠ .driver) (a : Aut) :
    putDriverData h0 d a =
      { a with
        driverLive := { a.driverLive with funcs := d.funcs, step := d.step, dir := d.dir }
        driver := { a.driver with saved := { a.driver.saved with dir := d.dir, target := d.step } } } := by
  rw [putDriverData, if_neg h]

theorem putDriverData_driver (h0 : Level) (a : Aut) :
    (putDriverData h0 d a).driver.claimed = a.driver.claimed ∧ (putDriverData h0 d a).driver.source = a.driver.source
      ∧ (putDriverData h0 d a).failsafe = a.failsafe ∧ (putDriverData h0 d a).signal = a.signal
      ∧ (putDriverData h0 d a).consist = a.consist ∧ (putDriverData h0 d a).causes = a.causes
      ∧ (putDriverData h0 d a).hold = a.hold := by
  unfold putDriverData
  simp only []
  split <;> simp

theorem putZeroLock_driver (h0 : Level) (v : Bool) (a : Aut) :
    (putZeroLock h0 v a).driver.claimed = a.driver.claimed ∧ (putZeroLock h0 v a).driver.source = a.driver.source
      ∧ (putZeroLock h0 v a).failsafe = a.failsafe ∧ (putZeroLock h0 v a).signal = a.signal
      ∧ (putZeroLock h0 v a).consist = a.consist ∧ (putZeroLock h0 v a).causes = a.causes
      ∧ (putZeroLock h0 v a).hold = a.hold := by
  unfold putZeroLock
  split <;> simp

theorem putDriverData_holds (h0 : Level) (a : Aut) : DriverHolds h0 d (putDriverData h0 d a) :=
  ⟨rfl, rfl, rfl, fun h => by rw [putDriverData_of_waiting h]; exact ⟨rfl, rfl⟩⟩

theorem putZeroLock_holds {h0 : Level} {v : Bool} {a : Aut} (h : DriverHolds h0 d a) : DriverHolds h0 d (putZeroLock h0 v a) := by
  unfold putZeroLock
  split <;> exact h

theorem putZeroLock_now (h0 : Level) (v : Bool) (a : Aut) : zeroLockNow h0 (putZeroLock h0 v a) = v := by
  unfold putZeroLock zeroLockNow
  split <;> rfl

/-- AUT and RXC after a binding under another head that carries no EMERGENCY. -/
theorem bindDriver_of_plain {h0 : Level} (he : d.emergency = false) :
    (s.bindDriver h0 info d).aut = putZeroLock h0 (d.step != 0) (putDriverData h0 d (s.claim .driver (some info.source)).aut)
      ∧ (s.bindDriver h0 info d).rxc = { s.rxc with
          driverLink := { source := some info.source, state := .up, age := 0 }, rssi := info.rssi }
      ∧ (s.bindDriver h0 info d).spr = s.spr ∧ reachesOnly (.rxc :: settlingBlocks) s (s.bindDriver h0 info d) := by
  simp [State.bindDriver, he, State.setRssi, State.setLink, setLinkRecord, reachesOnly_iff, settlingBlocks]

end Bind

/-- Settles O20: the claim with its saved part, loaded as DRIVER becomes the head. -/
theorem throttleBindsUnderParked : Obligations.ThrottleBindsUnderParked := by
  intro s h payload crc ha hdest hhead hrelease hemergency
  obtain ⟨hf, hs, hc, hd⟩ := autHead_parked.1 hhead
  obtain ⟨hdriver, -, hf', hs', hc'⟩ := driverFound_records s h
  have hexec := exec_driverFrame ha (.inl hdest)
  have hfound : ((s.throttleHeard h).driverHeard (frameInfo h)) = s.driverFound h := rfl
  rw [hfound, State.driverFrame, if_neg (by simp [hdriver, hd]), if_neg (by simp [hrelease])] at hexec
  obtain ⟨haut, hrxc, hspr, hreach⟩ := bindDriver_of_plain (s := s.driverFound h) (info := frameInfo h) (h0 := s.head) hemergency
  generalize hb : (s.driverFound h).bindDriver s.head (frameInfo h) (throttleData payload) = b at hexec haut hrxc hspr hreach
  have hholds : DriverHolds s.head (throttleData payload) b.aut := by
    rw [haut]
    exact putZeroLock_holds (putDriverData_holds ..)
  have hlock : b.aut.driver.saved.zeroLock = ((throttleData payload).step != 0) := by
    have hnow := putZeroLock_now s.head ((throttleData payload).step != 0)
      (putDriverData s.head (throttleData payload) ((s.driverFound h).claim .driver (some (frameInfo h).source)).aut)
    rwa [← haut, zeroLockNow, if_neg (by rw [hhead]; decide)] at hnow
  have hclaims : b.aut.failsafe.claimed = false ∧ b.aut.signal.claimed = false ∧ b.aut.consist.claimed = false
      ∧ b.aut.driver.claimed = true ∧ b.aut.driver.source = some (headerSource h.bytes) := by
    rw [haut]
    simp [putZeroLock_driver, putDriverData_driver, hf', hs', hc', hf, hs, hc, frameInfo]
  obtain ⟨hbf, hbs, hbc, hbd, hbsource⟩ := hclaims
  have hnew : (b.settle s).head = .driver := (settle_head_quiet hbf hbs).trans (autHead_driver.2 ⟨hbf, hbs, hbc, hbd⟩)
  obtain ⟨hlive, hstarted⟩ := settle_driver_of_head hnew (by rw [hhead]; decide)
  obtain ⟨hstep, hdir, hfuncs⟩ := hholds.settle hbd
  have hrequested := settle_requested b s
  rw [hnew] at hrequested
  obtain ⟨hreached, hkept⟩ := throttle_event hspr hreach
  have hrxc' : (b.settle s).rxc = _ := (by simp : _ = b.rxc).trans hrxc
  refine answers_of_exec hexec ⟨hnew, by simp [hbd], hstarted, by simp [hbsource], hstep, hdir, hfuncs, ?_, by rw [hrxc']; rfl,
    by rw [hrxc']; rfl, hrequested.trans hdir, hreached, hkept⟩
  rw [hlive, hhead]
  simp [hlock]

/-! ### Contention and rebinding (R61, R62) -/

section Contend

variable {s : State} {h : Collected} {info : FrameInfo} {d : ThrottleData}

/-- The part with an accepted frame's count taken, before RX_ACCEPT is counted. -/
def State.countedIn (s : State) : State := s.hunting.onRxc fun x => { x with accepted := satAdd x.accepted 1 255 }

theorem accepted_carries (kind : Nat) (s : State) : Carries [1] s.countedIn (s.accepted kind) := signal_carries (by simp [diagCode]) _

theorem throttleHeard_carries (s : State) (h : Collected) : Carries [1, 7] s.countedIn (s.throttleHeard h) :=
  (signal_carries (by simp [diagCode]) _).trans (hear_carries (by simp) _ _ _ (s.accepted 1))

theorem counterTakes_contention (c : CounterConfig) (h : c.event = 14) : counterTakes c .contention = true := by
  simp [counterTakes, h, diagCode, qualifierBit]

theorem contention_counted (s : State) (h : Collected) :
    counted 14 (fun _ => true) s (((s.throttleHeard h).signal .contention).settle s) :=
  counted_of_signal (s := s.countedIn) (code := 14) (takes := fun _ => true) counterTakes_contention (throttleHeard_carries s h)
    (settle_carries (codes := []) ((s.throttleHeard h).signal .contention) s) (by simp) (by simp)

theorem driverFound_of_other (hs : s.rxc.driverLink.source ≠ some (headerSource h.bytes)) : s.driverFound h = s.throttleHeard h :=
  driverHeard_of_other (by rw [(throttleHeard_kept s h).2.2.2.2.2.2.2.2.2.2.1]; exact hs)

theorem rebindDriver_of_plain {h0 : Level} (he : d.emergency = false) :
    (s.rebindDriver h0 info d).aut =
        putZeroLock h0 true (putDriverData h0 d { s.aut with driver := { s.aut.driver with source := some info.source } })
      ∧ (s.rebindDriver h0 info d).rxc.driverLink = { source := some info.source, state := .regaining, age := 0 }
      ∧ (s.rebindDriver h0 info d).spr = s.spr ∧ reachesOnly (.rxc :: settlingBlocks) s (s.rebindDriver h0 info d) := by
  simp [State.rebindDriver, he, reachesOnly_iff, settlingBlocks]

/-- LINK_LOST that stands without a hold stands through the end of an event (R67). -/
theorem settle_linkLost {s0 : State} (hc : s.aut.causes.linkLost = true) (hh : s.aut.hold = none) :
    (s.settle s0).aut.causes.linkLost = true := by
  obtain ⟨-, -, hkept, -⟩ := settleClaims_standing s0.head s hh (causesEmpty_without_stall (c := .linkLost) (by decide) hc)
  rw [(settle_causes s s0).1, hkept, hc]

end Contend

/-- Settles O22: the contention counted alone, and the rebinding with its saved part. -/
theorem otherThrottlesContendOrRebind : Obligations.OtherThrottlesContendOrRebind := by
  refine ⟨fun s h payload crc bound ha hfor hbound hne hup hhead => ?_,
    fun s h payload crc bound ha hfor hbound hne hlost hcause hhold hrelease hemergency => ?_⟩
  all_goals
    obtain ⟨hclaimed, hsource, hwatched⟩ := hbound
    have hfound : s.driverFound h = s.throttleHeard h := driverFound_of_other (by simpa [hwatched] using hne)
    obtain ⟨hcfg, hspr, -, haut, -, -, -, -, -, -, hlink, hrssi⟩ := throttleHeard_kept s h
    have hother : ¬((s.driverFound h).aut.driver.source = some (frameInfo h).source) := by
      rw [hfound, haut, hsource]
      simpa [frameInfo] using hne
    have hexec := exec_driverFrame ha hfor
    have hread : (s.throttleHeard h).driverHeard (frameInfo h) = s.driverFound h := rfl
    rw [hread, State.driverFrame, if_pos (by rw [hfound, haut]; exact hclaimed), if_neg hother] at hexec
  · rw [if_neg (by rw [hfound, hlink]; exact hup), hfound] at hexec
    obtain ⟨hf, hs, -, -⟩ := autHead_driver.1 hhead
    have hnew : (((s.throttleHeard h).signal .contention).settle s).head = .driver := by
      rw [settle_head_quiet (by simpa [haut] using hf) (by simpa [haut] using hs)]
      simpa [State.head, haut] using hhead
    obtain ⟨hdriver, hlive⟩ := settle_driver_of_same (hnew.trans hhead.symm)
    have hreach : reachesOnly (.rxc :: settlingBlocks) (s.driverFound h) ((s.throttleHeard h).signal .contention) := by
      rw [hfound]
      simp [reachesOnly_iff, settlingBlocks]
    obtain ⟨hreached, hkept⟩ := throttle_event (by rw [hfound]; simp) hreach
    exact answers_of_exec hexec ⟨by simpa [haut] using hdriver, by simpa [haut] using hlive, hnew, by simpa using hlink,
      by simpa using hrssi, contention_counted s h, hreached, hkept⟩
  · rw [if_pos (by rw [hfound, hlink]; exact hlost), if_neg (by simp [hrelease])] at hexec
    obtain ⟨hbaut, hblink, hbspr, hbreach⟩ := rebindDriver_of_plain (s := s.driverFound h) (info := frameInfo h) (h0 := s.head) hemergency
    generalize (s.driverFound h).rebindDriver s.head (frameInfo h) (throttleData payload) = b at hexec hbaut hblink hbspr hbreach
    rw [hfound, haut] at hbaut
    have hclaims : b.aut.driver.claimed = true ∧ b.aut.driver.source = some (headerSource h.bytes)
        ∧ b.aut.causes.linkLost = true ∧ b.aut.hold = none := by
      rw [hbaut]
      simp [putZeroLock_driver, putDriverData_driver, hclaimed, hcause, hhold, frameInfo]
    obtain ⟨hbd, hbsource, hbcause, hbhold⟩ := hclaims
    have hholds : DriverHolds s.head (throttleData payload) b.aut := by
      rw [hbaut]
      exact putZeroLock_holds (putDriverData_holds ..)
    obtain ⟨hstep, hdir, hfuncs⟩ := hholds.settle hbd
    obtain ⟨hreached, hkept⟩ := throttle_event hbspr hbreach
    exact answers_of_exec hexec ⟨by simp [hbsource], by simp [hbd], hstep, hdir, hfuncs,
      settle_zeroLock hbd (by rw [hbaut]; exact putZeroLock_now ..), by simpa [frameInfo] using hblink, settle_linkLost hbcause hbhold,
      hreached, hkept⟩

/-! ### Release (R63) -/

section Release

variable {s : State} {h : Collected} {d : ThrottleData}

theorem release_driver_of_claimed (hc : s.aut.driver.claimed = true) :
    (s.release .driver).aut = { s.aut with driver := {}, driverLive := {} } := by
  rw [State.release, if_neg (by simp [autCtx, hc])]
  rfl

theorem releaseDriver_of_plain {h0 : Level} (he : d.emergency = false) (hc : s.aut.driver.claimed = true) :
    (s.releaseDriver h0 d).aut.driver = {} ∧ (s.releaseDriver h0 d).aut.driverLive = {}
      ∧ (s.releaseDriver h0 d).aut.causes.linkLost = false
      ∧ (s.releaseDriver h0 d).rxc.driverLink = { source := none, state := .up, age := 0 } ∧ (s.releaseDriver h0 d).rxc.rssi = 255
      ∧ (s.releaseDriver h0 d).spr = s.spr ∧ reachesOnly (.rxc :: settlingBlocks) s (s.releaseDriver h0 d) := by
  have heq : s.releaseDriver h0 d = (((s.release .driver).setLink .driver none .up).removeCause .linkLost).setRssi 255 := by
    simp [State.releaseDriver, he]
  have hcause : (((s.release .driver).setLink .driver none .up).removeCause .linkLost).aut.causes.linkLost = false := by
    rw [removeCause_causes]
    rfl
  rw [heq]
  exact ⟨by simp [State.setRssi, release_driver_of_claimed hc], by simp [State.setRssi, release_driver_of_claimed hc],
    by simpa [State.setRssi] using hcause, by simp [State.setRssi], by simp [State.setRssi], by simp,
    by simp [reachesOnly_iff, settlingBlocks]⟩

end Release

/-- Settles O23: the released records, which no change of head writes again. -/
theorem releaseFreesTheLocomotive : Obligations.ReleaseFreesTheLocomotive := by
  intro s h payload crc ha hfor hbound hrelease hemergency
  obtain ⟨hclaimed, hsource, -⟩ := hbound
  obtain ⟨hdriver, -⟩ := driverFound_records s h
  have hexec := exec_driverFrame ha hfor
  have hread : (s.throttleHeard h).driverHeard (frameInfo h) = s.driverFound h := rfl
  rw [hread, State.driverFrame, if_pos (by rw [hdriver]; exact hclaimed), if_pos (by rw [hdriver]; exact hsource), State.boundFrame,
    if_pos hrelease] at hexec
  obtain ⟨hbd, hbl, hbcause, hblink, hbrssi, hbspr, hbreach⟩ :=
    releaseDriver_of_plain (s := s.driverFound h) (h0 := s.head) hemergency (by rw [hdriver]; exact hclaimed)
  generalize (s.driverFound h).releaseDriver s.head (throttleData payload) = b at hexec hbd hbl hbcause hblink hbrssi hbspr hbreach
  have hnew : (b.settle s).head ≠ .driver := by
    intro hhead
    obtain ⟨-, -, -, hstill⟩ := autHead_driver.1 hhead
    simp [hbd] at hstill
  obtain ⟨hkd, hkl⟩ := settle_driver_kept (s := b) (s0 := s) hnew (.inr (by rw [hbd]))
  obtain ⟨hreached, hkept⟩ := throttle_event hbspr hbreach
  exact answers_of_exec hexec ⟨hkd.trans hbd, hkl.trans hbl, hnew, by simpa using hblink, by simpa using hbrssi,
    settle_cause_out (c := .linkLost) hbcause, hreached, hkept⟩

/-! ### A follower's frames (R66) -/

/-- Settles O25: CONSIST's function set alone, and no head that DRIVER loses or takes. -/
theorem followerTakesTheConsistFunctions : Obligations.FollowerTakesTheConsistFunctions := by
  intro s h payload crc ha hrole hconsist hdest hother
  obtain ⟨hdriver, hlive, -, -, hctx⟩ := driverFound_records s h
  obtain ⟨hrole', hown⟩ := throttleHeard_role s h
  have hexec := exec_throttle ha (.inr ⟨hconsist, hdest⟩)
  rw [State.takeThrottle, if_pos ⟨hrole'.trans hrole, by rw [hown]; exact hother⟩] at hexec
  have hread : (s.throttleHeard h).driverHeard (frameInfo h) = s.driverFound h := rfl
  simp only [hread] at hexec
  have hfunctions : Carries [1, 7] (s.driverFound h) ((s.driverFound h).consistFunctions (throttleData payload).funcs) := .of_eq (by simp)
  have hcarries : Carries [1, 7] s.countedIn (((s.driverFound h).consistFunctions (throttleData payload).funcs).settle s) :=
    (((throttleHeard_carries s h).trans (driverHeard_carries (frameInfo h) _)).trans hfunctions).trans (settle_carries (codes := [1, 7]) _ s)
  have hreach : reachesOnly (.rxc :: settlingBlocks) (s.driverFound h) ((s.driverFound h).consistFunctions (throttleData payload).funcs) := by
    simp [reachesOnly_iff, settlingBlocks]
  obtain ⟨hreached, hkept⟩ := throttle_event (by simp) hreach
  refine answers_of_exec hexec ⟨by simp [State.consistFunctions], by simp [State.consistFunctions, hdriver],
    by simp [State.consistFunctions, hdriver], by simp [State.consistFunctions, hlive], fun hlaw => ?_,
    counted_none (s := s.countedIn) (code := 14) hcarries (by simp), hreached, hkept⟩
  obtain ⟨-, hfollows, -⟩ := hlaw
  have hclaimed := hfollows.2 hrole
  have hold : s.head ≠ .driver := fun hh => by
    obtain ⟨-, -, hno, -⟩ := autHead_driver.1 hh
    rw [hclaimed] at hno
    cases hno
  have hnew : (((s.driverFound h).consistFunctions (throttleData payload).funcs).settle s).head ≠ .driver := fun hh => by
    obtain ⟨-, -, hno, -⟩ := autHead_driver.1 hh
    simp [State.consistFunctions, hctx, hclaimed] at hno
  obtain ⟨hkd, hkl⟩ := settle_driver_kept hnew (.inl hold)
  exact ⟨hkd.trans hdriver, hkl.trans hlive⟩

end Sys2Proof.Machine
end

section
/-! EMERGENCY of the bound throttle (sections 4.3, 6.8, 7.5). -/

namespace Sys2Proof.Machine

theorem reachesOnly.mono {bs cs : List Block} {s t : State} (h : reachesOnly cs s t) (hsub : cs ⊆ bs) : reachesOnly bs s t :=
  fun b hb => h b fun hc => hb (hsub hc)

/-! ### A membership applied leaves DRIVER (R77 to R80) -/

section Membership

variable {s : State}

/-- DRIVER's context and live data stand as they did. -/
def SameDriver (s t : State) : Prop := t.aut.driver = s.aut.driver ∧ t.aut.driverLive = s.aut.driverLive

theorem SameDriver.trans {s t u : State} (h : SameDriver s t) (h' : SameDriver t u) : SameDriver s u :=
  ⟨h'.1.trans h.1, h'.2.trans h.2⟩

theorem SameDriver.of_aut {s t : State} (h : t.aut = s.aut) : SameDriver s t := by simp [SameDriver, h]

theorem release_driverLive {l : Level} (hl : l ≠ .driver) (s : State) : (s.release l).aut.driverLive = s.aut.driverLive := by
  rcases release_cases l s with h | h <;> rw [h]
  cases l with
  | driver => exact absurd rfl hl
  | _ => rfl

theorem watchMembers_driver (always : Bool) (s : State) : SameDriver s (s.watchMembers always) := by
  simp only [State.watchMembers, State.memberTest]
  (repeat' split) <;> simp [SameDriver]

theorem leaveFollower_driver (s : State) : SameDriver s s.leaveFollower := by
  simp [SameDriver, State.leaveFollower, release_driverLive]

theorem joinFollower_driver (s : State) : SameDriver s s.joinFollower := by
  simp [SameDriver, State.joinFollower, release_driverLive]

theorem stayFollower_driver (h0 : Level) (before : Option Membership) (s : State) : SameDriver s (s.stayFollower h0 before) := by
  unfold State.stayFollower State.putFollow
  (repeat' split) <;> simp [SameDriver]

theorem leaveLead_driver (s : State) : SameDriver s s.leaveLead := by simp [SameDriver, State.leaveLead]

theorem roleEffects_driver (h0 : Level) (before : Option Membership) (old new : ConsistRole) (s : State) :
    SameDriver s (s.roleEffects h0 before old new) := by
  unfold State.roleEffects
  split
  · exact joinFollower_driver s
  · exact watchMembers_driver true s
  · exact leaveFollower_driver s
  · exact leaveLead_driver s
  · exact (leaveFollower_driver s).trans (watchMembers_driver true _)
  · exact (leaveLead_driver s).trans (joinFollower_driver _)
  · exact stayFollower_driver h0 before s
  · exact watchMembers_driver false s
  · exact ⟨rfl, rfl⟩

theorem applyMembership_driver (h0 : Level) (m : Option Membership) (s : State) : SameDriver s (s.applyMembership h0 m) := by
  have hrole := roleEffects_driver h0 s.csu.record s.role (s.onCsu fun c => { c with record := m }).role (s.onCsu fun c => { c with record := m })
  simp only [State.applyMembership]
  split
  · exact hrole
  · exact hrole.trans (.of_aut (by simp))

theorem applySlot_driver (h0 : Level) (s : State) : SameDriver s (s.applySlot h0) := by
  unfold State.applySlot
  split
  · exact ⟨rfl, rfl⟩
  · exact applyMembership_driver h0 _ (s.onCsu fun c => { c with slot := .empty })

theorem judgeStopped_driver (h0 : Level) (s : State) : SameDriver s (s.judgeStopped h0) := by
  unfold State.judgeStopped
  simp only []
  split
  · exact (SameDriver.of_aut (by simp)).trans (applySlot_driver h0 _)
  · split <;> exact .of_aut (by simp)

end Membership

/-! ### EMERGENCY at the head (R65, R96, R107) -/

section Emergency

variable {s : State} {h : Collected} {d : ThrottleData}

theorem driverFound_head (s : State) (h : Collected) : (s.driverFound h).head = s.head := by
  obtain ⟨hdriver, -, hf, hs, hc⟩ := driverFound_records s h
  exact autHead_congr (congrArg Context.claimed hf) (congrArg Context.claimed hs) (congrArg Context.claimed hc)
    (congrArg Context.claimed hdriver)

theorem emergencyStop_driver (h0 : Level) (s : State) : SameDriver s (s.emergencyStop h0) :=
  (SameDriver.of_aut (by simp)).trans (judgeStopped_driver h0 _)

theorem emergencyStop_spr (h0 : Level) (s : State) :
    (s.emergencyStop h0).spr =
      { s.spr with
        ref := 0
        braking := s.spr.braking || decide (0 < s.spr.ref)
        stopped := decide (s.mrg.y ≤ s.image.traction.stopThreshold) } := by
  simp [State.emergencyStop, State.standing, State.image]
  rfl

/-- The data of an EMERGENCY frame at the head, before the stop (R60, R65). -/
def State.locked (d : ThrottleData) (s : State) : State := (s.onAut (putDriverData .driver d)).onAut (putZeroLock .driver true)

theorem locked_aut (d : ThrottleData) (s : State) :
    (s.locked d).aut =
      { s.aut with driverLive := { s.aut.driverLive with funcs := d.funcs, step := d.step, dir := d.dir, zeroLock := true } } := rfl

theorem boundFrame_of_emergency (hr : d.release = false) (he : d.emergency = true) (hh : s.head = .driver) :
    s.boundFrame .driver d = (s.locked d).emergencyStop .driver := by
  have hhead : (s.onAut (putDriverData .driver d)).head = .driver := by
    simpa [State.head, putDriverData, autHead_driver] using hh
  rw [State.boundFrame, if_neg (by simp [hr])]
  simp only [he, if_true, State.emergency, hhead]
  rfl

theorem emergencyStop_reach (s : State) : reachesOnly (.rxc :: .tkm :: .mrg :: .csu :: settlingBlocks) s (s.emergencyStop .driver) := by
  simp [reachesOnly_iff, settlingBlocks]

/-- With nothing pending the stop leaves AUT and CSU (R76). -/
theorem emergencyStop_of_empty (hs : s.csu.slot = .empty) :
    (s.emergencyStop .driver).aut = s.aut ∧ (s.emergencyStop .driver).csu = s.csu := by
  obtain ⟨u, hu, haut, hcsu⟩ : ∃ u : State, s.emergencyStop .driver = u.judgeStopped .driver ∧ u.aut = s.aut ∧ u.csu = s.csu :=
    ⟨_, rfl, by simp, by simp⟩
  have hreach : reachesOnly [.spr, .smk, .snd] u (u.judgeStopped .driver) := judgeStopped_reach (by rw [hcsu]; exact hs)
  have hkaut : (u.judgeStopped .driver).aut = u.aut := hreach .aut (by decide)
  have hkcsu : (u.judgeStopped .driver).csu = u.csu := hreach .csu (by decide)
  rw [hu]
  exact ⟨hkaut.trans haut, hkcsu.trans hcsu⟩

end Emergency

/-- Settles O24: the stop at SPR and MRG, DRIVER's records through it, and the requested direction by the new head. -/
theorem emergencyStopsInItsEvent : Obligations.EmergencyStopsInItsEvent := by
  intro s h payload crc ha hfor hbound hhead hrelease hemergency
  obtain ⟨hclaimed, hsource, -⟩ := hbound
  obtain ⟨hdriver, hlive, hf, hs, hc⟩ := driverFound_records s h
  obtain ⟨hcfg, hspr, hmrg, hcsu, hsup, -⟩ := driverFound_kept s h
  have hhead' : (s.driverFound h).head = .driver := (driverFound_head s h).trans hhead
  have hexec := exec_driverFrame ha hfor
  have hread : (s.throttleHeard h).driverHeard (frameInfo h) = s.driverFound h := rfl
  rw [hread, State.driverFrame, if_pos (by rw [hdriver]; exact hclaimed), if_pos (by rw [hdriver]; exact hsource), hhead,
    boundFrame_of_emergency hrelease hemergency hhead'] at hexec
  obtain ⟨hsd, hsl⟩ := emergencyStop_driver .driver ((s.driverFound h).locked (throttleData payload))
  have hlspr : ((s.driverFound h).locked (throttleData payload)).spr = s.spr := hspr
  have hlmrg : ((s.driverFound h).locked (throttleData payload)).mrg = s.mrg := hmrg
  have hlimage : ((s.driverFound h).locked (throttleData payload)).image = s.image := congrArg Cfg.image hcfg
  have hbspr := emergencyStop_spr .driver ((s.driverFound h).locked (throttleData payload))
  rw [hlspr, hlmrg, hlimage] at hbspr
  have hbmrg := (emergencyStop_mrg .driver ((s.driverFound h).locked (throttleData payload))).trans
    (emergencyMotor_congr (s := s) hlmrg hcfg hsup)
  have hreach := emergencyStop_reach ((s.driverFound h).locked (throttleData payload))
  have hempty := emergencyStop_of_empty (s := (s.driverFound h).locked (throttleData payload))
  rw [locked_aut] at hsd hsl hempty
  have hlreach : reachesOnly settlingBlocks (s.driverFound h) ((s.driverFound h).locked (throttleData payload)) := by
    simp [reachesOnly_iff, settlingBlocks, State.locked]
  generalize State.emergencyStop .driver ((s.driverFound h).locked (throttleData payload)) = b at *
  have hbclaimed : b.aut.driver.claimed = true := by rw [hsd, ← hclaimed, ← hdriver]
  have hholds : DriverHolds s.head (throttleData payload) b.aut := by
    rw [DriverHolds, hsl]
    exact ⟨rfl, rfl, rfl, fun hne => absurd hhead hne⟩
  have hlock : zeroLockNow s.head b.aut = true := by rw [zeroLockNow, if_pos hhead, hsl]
  obtain ⟨hstep, hdir, -⟩ := hholds.settle hbclaimed
  obtain ⟨href, hrunning, hbraking, hstopped⟩ := motionKept_settle (s := b) (t := b) (u := s) (motionKept_of_spr_eq rfl)
  have hmrg' : (b.settle s).mrg = s.emergencyMotor := (by simp : _ = b.mrg).trans hbmrg
  refine answers_of_exec hexec ?_
  rw [href, hrunning, hbraking, hstopped, hbspr, hmrg']
  refine ⟨rfl, rfl, rfl, rfl, rfl, rfl, rfl, rfl, ?_, settle_zeroLock hbclaimed hlock, hstep, ?_, ?_, fun hslot => ⟨?_, ?_⟩⟩
  · simp only [State.emergencyMotor, State.emergencyGoverns, Bool.and_eq_true, Bool.not_eq_true', beq_iff_eq, bne_iff_ne, and_assoc]
    split <;> exact ⟨rfl, rfl⟩
  · have hpreempted {l : Level} (hl : l ≠ s.head) : l ≠ s.head ∧ (autCtx (b.settleClaims s.head).aut s.head).claimed = true :=
      ⟨hl, by rw [hhead]; simpa [autCtx] using hbclaimed⟩
    have hown : requestedBy s.head b.aut = (throttleData payload).dir := by
      rw [hhead, requestedBy, hsl]
    rw [settle_requested]
    cases hh : (b.settle s).head with
    | driver => exact hdir
    | consist => rfl
    | _ => exact (if_pos (hpreempted (by rw [hhead]; decide))).trans hown
  · have hfound : reachesOnly (.rxc :: .ptb :: .tkm :: .mrg :: .csu :: settlingBlocks) s (s.driverFound h) :=
      (driverFound_reach s h).mono (by decide)
    exact ((hfound.trans hlreach (by decide)).trans hreach (by decide)).trans (reachesOnly_settle s b) (by decide)
  · obtain ⟨haut, -⟩ := hempty (by simpa [State.locked, hcsu] using hslot)
    obtain ⟨hfu, hsu, hcu, hdu⟩ := autHead_driver.1 hhead
    rw [settle_head_quiet (by rw [haut]; simpa [hf] using hfu) (by rw [haut]; simpa [hs] using hsu)]
    refine autHead_driver.2 ⟨?_, ?_, ?_, hbclaimed⟩ <;> rw [haut]
    · simpa [hf] using hfu
    · simpa [hs] using hsu
    · simpa [hc] using hcu
  · obtain ⟨-, hkcsu⟩ := hempty (by simpa [State.locked, hcsu] using hslot)
    have hall : (b.settle s).csu = s.csu := (by simp : _ = b.csu).trans (hkcsu.trans hcsu)
    exact hall

end Sys2Proof.Machine
end

section
/-! A frame of the bound throttle, and the evaluation of the function map in its event (sections 4.3, 8.1 to 8.4). -/

namespace Sys2Proof.Machine

/-! ### The requests of one evaluation (R119 to R121) -/

section Asks

variable {im : Image} {role : ConsistRole} {before after : FuncSet}

/-- A sound entry that is active in its scope. -/
def soundActive (im : Image) (role : ConsistRole) (n : Nat) : Bool :=
  (mapEntry im n).action == .sound && ((mapEntry im n).scope == .all || role != .follower)

theorem takenAsLevel_of_sound {e : MapEntry} (h : e.action = .sound) : takenAsLevel e = (e.mode == .level) := by
  rw [takenAsLevel, h]
  cases e.mode <;> rfl

theorem levelHeld_of_sound {e : MapEntry} (h : e.action = .sound) (role : ConsistRole) (on : Bool) :
    levelHeld e role on = (entryActive e role && on && e.mode == .level) := by
  rw [levelHeld, takenAsLevel_of_sound h, h]
  exact Bool.and_true _

/-- An entry's change where FNM's last evaluation was of the same role. -/
theorem entryChange_evaluated {n : Nat} (hn : n < 32) :
    entryChange im (evaluatedFnm im before role) after role n =
      { entry := mapEntry im n
        heldBefore := levelHeld (mapEntry im n) role (before.getLsbD n)
        heldAfter := levelHeld (mapEntry im n) role (after.getLsbD n)
        onBefore := before.getLsbD n
        onAfter := after.getLsbD n
        activeThroughout := entryActive (mapEntry im n) role } := by
  simp [entryChange, evaluatedFnm, heldFlags_bit _ _ _ hn]

/-- What entry n's going off asks of SND, by its mode. -/
def offAsk (im : Image) (n : Nat) : Option SoundAsk :=
  if (mapEntry im n).mode = .level then some (.stop (.function n))
  else if (mapEntry im n).mode = .both then some (functionPlay im false n)
  else none

theorem goingOff_eq {n : Nat} (hn : n < 32) :
    goingOff n (entryChange im (evaluatedFnm im before role) after role n) =
      if soundActive im role n then (if before.getLsbD n && !after.getLsbD n then offAsk im n else none) else none := by
  rw [entryChange_evaluated hn, goingOff]
  by_cases hsound : (mapEntry im n).action = .sound
  · have hactive : soundActive im role n = entryActive (mapEntry im n) role := by rw [soundActive, hsound]; rfl
    simp only [hsound, levelHeld_of_sound hsound, takenAsLevel_of_sound hsound, offAsk, hactive, if_true]
    cases (mapEntry im n).mode <;> cases entryActive (mapEntry im n) role <;> cases before.getLsbD n <;> cases after.getLsbD n <;> rfl
  · simp [soundActive, hsound]

theorem goingOn_eq {n : Nat} (hn : n < 32) :
    goingOn n (entryChange im (evaluatedFnm im before role) after role n) =
      if soundActive im role n then
        (if !before.getLsbD n && after.getLsbD n then some (functionPlay im ((mapEntry im n).mode == .level) n) else none)
      else none := by
  rw [entryChange_evaluated hn, goingOn]
  by_cases hsound : (mapEntry im n).action = .sound
  · have hactive : soundActive im role n = entryActive (mapEntry im n) role := by rw [soundActive, hsound]; rfl
    simp only [hsound, levelHeld_of_sound hsound, takenAsLevel_of_sound hsound, hactive, if_true]
    cases (mapEntry im n).mode <;> cases entryActive (mapEntry im n) role <;> cases before.getLsbD n <;> cases after.getLsbD n <;> rfl
  · simp [soundActive, hsound]

theorem evaluationAsks_eq (im : Image) (role : ConsistRole) (before after : FuncSet) :
    evaluationAsks im (evaluatedFnm im before role) after role = functionAsks im role before after := by
  have hoff : (List.range 32).filterMap (fun n => goingOff n (entryChange im (evaluatedFnm im before role) after role n)) =
      (((List.range 32).filter (soundActive im role)).filter fun n => before.getLsbD n && !after.getLsbD n).filterMap (offAsk im) := by
    rw [List.filterMap_filter, List.filterMap_filter]
    refine List.filterMap_congr fun n hn => ?_
    rw [goingOff_eq (List.mem_range.1 hn)]
  have hon : (List.range 32).filterMap (fun n => goingOn n (entryChange im (evaluatedFnm im before role) after role n)) =
      (((List.range 32).filter (soundActive im role)).filter fun n => !before.getLsbD n && after.getLsbD n).map fun n =>
        functionPlay im ((mapEntry im n).mode == .level) n := by
    rw [← List.filterMap_eq_map, List.filterMap_filter, List.filterMap_filter]
    refine List.filterMap_congr fun n hn => ?_
    rw [goingOn_eq (List.mem_range.1 hn)]
    rfl
  rw [evaluationAsks, hoff, hon]
  refine congrArg₂ (· ++ ·) (List.filterMap_congr fun n _ => ?_) rfl
  rw [offAsk]
  cases (mapEntry im n).mode <;> rfl

theorem functionAsks_of_same (im : Image) (role : ConsistRole) (f : FuncSet) : functionAsks im role f f = [] := by
  simp [functionAsks]

theorem ask_snd_congr {s t : State} (k : SoundAsk) (h : t.snd = s.snd) : (t.ask k).snd = (s.ask k).snd := by
  cases k with
  | stop o => simp [State.ask, State.stopOwner, h]
  | play r => exact request_snd_congr r h

theorem askAll_snd_congr (ks : List SoundAsk) {s t : State} (h : t.snd = s.snd) :
    (ks.foldl State.ask t).snd = (ks.foldl State.ask s).snd := by
  induction ks generalizing s t with
  | nil => exact h
  | cons k ks ih => exact ih (ask_snd_congr k h)

end Asks

/-! ### The refresh where FNM stood handed on (R119, R122) -/

section Refresh

variable {s u : State}

theorem evaluate_snd (s : State) : s.evaluate.snd = ((evaluationAsks s.image s.fnm s.fEff s.role).foldl State.ask s).snd := by
  simp only [State.evaluate, ditchChange_frame]
  split <;> simp

/-- The refresh of functions whose set may have changed since FNM was handed on: the requests of the change, FNM's new state, and the smoke
enable where it changed. -/
theorem functionsRefresh_after (hs : HandedOn s) (hf : u.fnm = s.fnm) (hi : u.cfg.image = s.cfg.image) (hr : u.role = s.role)
    (hd : u.snd = s.snd) (hk : u.smk = s.smk) (hp : u.sup = s.sup) (hsh : u.spr.shunting = s.spr.shunting) :
    u.functionsRefresh.snd = ((functionAsks s.image s.role s.fEff u.fEff).foldl State.ask s).snd
      ∧ u.functionsRefresh.fnm = evaluatedFnm s.image u.fEff s.role ∧ u.functionsRefresh.spr.shunting = u.functionsRefresh.fnm.shunting
      ∧ u.functionsRefresh.smk.state =
          if u.functionsRefresh.fnm.smokeEnable = s.fnm.smokeEnable then s.smk.state
          else if u.functionsRefresh.fnm.smokeEnable = false then .off
          else if s.smk.state ≠ .off then s.smk.state
          else if s.sup.state = .normal then .warming else .shed := by
  obtain ⟨hfnm, hshunt⟩ := hs
  have himage : u.image = s.image := hi
  unfold State.functionsRefresh
  split
  next hsame =>
    obtain ⟨hset, -⟩ := hsame
    have hkept : u.fEff = s.fEff := by rw [hset, hf, hfnm]; rfl
    rw [hkept, functionAsks_of_same]
    refine ⟨by simp [hd], by simp [hf, ← hfnm], by simp [hf, hsh, hshunt], ?_⟩
    rw [if_pos (by simp [hf])]
    simp [hk]
  next =>
    have hasks : evaluationAsks u.image u.fnm u.fEff u.role = functionAsks s.image s.role s.fEff u.fEff := by
      rw [himage, hf, hr, hfnm, evaluationAsks_eq]
    refine ⟨?_, by simp [himage, hr], by simp, ?_⟩
    · have hkept : u.evaluate.lampsRefresh.snd = u.evaluate.snd := by simp
      rw [hkept, evaluate_snd, hasks]
      exact askAll_snd_congr _ hd
    · have hstate := evaluate_state u
      rw [hf, hk, hp] at hstate
      simpa using hstate

end Refresh

/-- With the head unchanged an event's end hands on by the refresh alone (R55, R57). -/
theorem settle_of_same_head {s s0 : State} (h : (s.settleClaims s0.head).head = s0.head) :
    (s.settle s0).snd = (s.settleClaims s0.head).functionsRefresh.snd ∧ (s.settle s0).smk = (s.settleClaims s0.head).functionsRefresh.smk
      ∧ (s.settle s0).spr = (s.settleClaims s0.head).functionsRefresh.spr ∧ (s.settle s0).fnm = (s.settleClaims s0.head).functionsRefresh.fnm
      ∧ SameInputs (s.settleClaims s0.head) (s.settle s0) := by
  have hchange : (s.settleClaims s0.head).changeHead s0.head = (s.settleClaims s0.head).functionsRefresh := by
    rw [State.changeHead, if_pos h]
  refine ⟨?_, ?_, ?_, ?_, ⟨settle_head s s0, by simp, by simp, by simp, by simp, by simp, by simp⟩⟩
  all_goals
    rw [State.settle, hchange]
    simp

/-- A DRIVER at the head stays there where an event leaves the claims above it. -/
theorem settle_stays_driver {s s0 : State} (hh : s0.head = .driver) (hf : s.aut.failsafe = s0.aut.failsafe)
    (hs : s.aut.signal = s0.aut.signal) (hc : s.aut.consist = s0.aut.consist) (hd : s.aut.driver.claimed = true) :
    (s.settle s0).head = .driver := by
  obtain ⟨hfu, hsu, hcu, -⟩ := autHead_driver.1 hh
  rw [settle_head_quiet (by rw [hf, hfu]) (by rw [hs, hsu])]
  exact autHead_driver.2 ⟨by rw [hf, hfu], by rw [hs, hsu], by rw [hc, hcu], hd⟩

/-! ### The bound throttle's frame (R60, R64) -/

section Bound

variable {s : State} {d : ThrottleData} {h0 : Level}

theorem boundFrame_of_plain (hr : d.release = false) (he : d.emergency = false) :
    (s.boundFrame h0 d).aut =
        (if d.step = 0 then putZeroLock h0 false (putDriverData h0 d s.aut) else putDriverData h0 d s.aut)
      ∧ (s.boundFrame h0 d).spr = s.spr ∧ (s.boundFrame h0 d).rxc = s.rxc ∧ (s.boundFrame h0 d).csu = s.csu
      ∧ (s.boundFrame h0 d).snd = s.snd ∧ (s.boundFrame h0 d).smk = s.smk
      ∧ reachesOnly settlingBlocks s (s.boundFrame h0 d) := by
  have heq : s.boundFrame h0 d =
      if d.step = 0 then (s.onAut (putDriverData h0 d)).onAut (putZeroLock h0 false) else s.onAut (putDriverData h0 d) := by
    simp [State.boundFrame, hr, he]
  rw [heq]
  split <;> simp [reachesOnly_iff, settlingBlocks]

end Bound

/-- Settles O21: DRIVER's data in every case; at the head the refresh of the functions from where they stood handed on. -/
theorem boundThrottleUpdatesDriver : Obligations.BoundThrottleUpdatesDriver := by
  intro s h payload crc ha hfor hbound hrelease hemergency
  obtain ⟨hclaimed, hsource, hwatched⟩ := hbound
  obtain ⟨hdriver, hlive, hf, hs, hc⟩ := driverFound_records s h
  obtain ⟨hcfg, hspr, -, hcsu, hsup, hfnm, hsnd, hsmk, -⟩ := driverFound_kept s h
  obtain ⟨-, -, -, -, -, -, -, -, -, -, hwatch, -⟩ := throttleHeard_kept s h
  obtain ⟨hlink, hrssi⟩ := driverHeard_link (s := s.throttleHeard h) (info := frameInfo h) (by rw [hwatch]; exact hwatched)
  have hexec := exec_driverFrame ha hfor
  have hread : (s.throttleHeard h).driverHeard (frameInfo h) = s.driverFound h := rfl
  rw [hread] at hlink hrssi
  rw [hwatch] at hlink
  rw [hread, State.driverFrame, if_pos (by rw [hdriver]; exact hclaimed), if_pos (by rw [hdriver]; exact hsource)] at hexec
  obtain ⟨hbaut, hbspr, hbrxc, hbcsu, hbsnd, hbsmk, hbreach⟩ := boundFrame_of_plain (s := s.driverFound h) (h0 := s.head) hrelease hemergency
  have hbkeep : (State.boundFrame s.head (throttleData payload) (s.driverFound h)).fnm = (s.driverFound h).fnm
      ∧ (State.boundFrame s.head (throttleData payload) (s.driverFound h)).cfg = (s.driverFound h).cfg
      ∧ (State.boundFrame s.head (throttleData payload) (s.driverFound h)).sup = (s.driverFound h).sup := by simp
  obtain ⟨hbfnm, hbcfg, hbsup⟩ := hbkeep
  generalize State.boundFrame s.head (throttleData payload) (s.driverFound h) = b at *
  have hclaims : b.aut.failsafe = s.aut.failsafe ∧ b.aut.signal = s.aut.signal ∧ b.aut.consist = s.aut.consist
      ∧ b.aut.driver.claimed = true ∧ b.aut.driver.source = some (headerSource h.bytes) := by
    rw [hbaut]
    split <;> simp [putZeroLock_driver, putDriverData_driver, hf, hs, hc, hdriver, hclaimed, hsource]
  obtain ⟨hbf, hbs, hbc, hbd, hbsource⟩ := hclaims
  have hholds : DriverHolds s.head (throttleData payload) b.aut := by
    rw [hbaut]
    split
    · exact putZeroLock_holds (putDriverData_holds ..)
    · exact putDriverData_holds ..
  obtain ⟨hstep, hdir, hfuncs⟩ := hholds.settle hbd
  obtain ⟨hreached, hkept⟩ := throttle_event hbspr (hbreach.mono (by decide))
  have hrxc : (b.settle s).rxc = (s.driverFound h).rxc := (by simp : _ = b.rxc).trans hbrxc
  refine answers_of_exec hexec ⟨by simp [hbd], by simp [hbsource], hstep, hdir, hfuncs, fun hhead => ?_, fun hhead hlaw => ?_, by rw [hrxc, hlink]; rfl,
    by rw [hrxc, hlink], by rw [hrxc, hlink], by rw [hrxc, hrssi]; rfl, hreached, hkept⟩
  · have hnew := settle_stays_driver hhead hbf hbs hbc hbd
    have hrequested := settle_requested b s
    rw [hnew] at hrequested
    refine ⟨hnew, hrequested.trans hdir, ?_⟩
    rw [(settle_driver_of_same (hnew.trans hhead.symm)).2, hbaut, hhead]
    by_cases hz : (throttleData payload).step = 0
    · rw [if_pos hz, hz]
      simp [putZeroLock]
    · rw [if_neg hz]
      simp [putDriverData, hlive, hz]
  · have hnew := settle_stays_driver hhead hbf hbs hbc hbd
    have hclaims : (b.settleClaims s.head).head = s.head := by rw [← settle_head, hnew, hhead]
    obtain ⟨hsnd', hsmk', hspr', hfnm', hin⟩ := settle_of_same_head hclaims
    have hhanded : HandedOn s := (functionLaw_iff s).1 hlaw ha.1
    have hrole : (b.settleClaims s.head).role = s.role := role_congr (by simp [hbcsu, hcsu]) (by simp [hbcfg, hcfg])
    obtain ⟨hasks, hfinal, hshunt, hstate⟩ := functionsRefresh_after (u := b.settleClaims s.head) hhanded (by simp [hbfnm, hfnm])
      (by simp [hbcfg, hcfg]) hrole (by simp [hbsnd, hsnd]) (by simp [hbsmk, hsmk]) (by simp [hbsup, hsup]) (by simp [hbspr, hspr])
    refine ⟨?_, (functionLaw_iff _).2 fun _ => ⟨?_, ?_⟩, ?_⟩
    · rw [hsnd', hasks, hin.fEff]
    · rw [hfnm', hfinal, hin.fEff, hin.role, hrole]
      simp [State.image, hbcfg, hcfg]
    · rw [hspr', hfnm', hshunt]
    · rw [hsmk', hfnm', hstate]

end Sys2Proof.Machine
end

section
/-! CONSIST frames (sections 5.2, 5.3): a change that waits, a locomotive that joins, takes the lead, or leaves. -/

namespace Sys2Proof.Machine

/-! ### An accepted CONSIST frame (R14, R75, R76) -/

section Frame

variable {s : State} {h : Collected} {payload : List Byte} {crc : BitVec 16}

theorem exec_consist (ha : arrives 2 s h payload crc) :
    exec (.consistFrame payload crc) s = .next (((s.accepted 2).takeConsist s.head (consistData payload)).settle s) := by
  have hhead : (s.accepted 2).head = s.head := by simp [State.head]
  have hp : s.power = .running := ha.1
  rw [exec_consistFrame ha, State.dispatchConsist, hhead, close_of_running (by simpa using hp)]

/-- A frame that concerns the locomotive gives it its resulting membership (R75). -/
theorem takeConsist_of_concerns {h0 : Level} {d : ConsistData} (hlo : 4000 ≤ d.consistId) (hhi : d.consistId ≤ 4094)
    (hc : s.consistConcerns d.consistId (normalMembers d.members) = true) :
    s.takeConsist h0 d = s.takeMembership h0 (s.resulting d.consistId (normalMembers d.members)) := if_pos ⟨hlo, hhi, hc⟩

/-- A frame that lists the own ID makes its list the resulting membership (R75). -/
theorem takeConsist_of_listed {h0 : Level} {d : ConsistData} (hlo : 4000 ≤ d.consistId) (hhi : d.consistId ≤ 4094)
    (hown : (memberIndex s.ownId (normalMembers d.members)).isSome = true) :
    s.takeConsist h0 d = s.takeMembership h0 (some ⟨d.consistId, normalMembers d.members⟩) := by
  rw [takeConsist_of_concerns hlo hhi (by rw [State.consistConcerns, hown]; rfl), State.resulting, if_pos hown]

/-- A frame of the own consist that lists the own ID no more ends the membership (R75). -/
theorem takeConsist_of_unlisted {h0 : Level} {d : ConsistData} (hlo : 4000 ≤ s.consistId) (hhi : s.consistId ≤ 4094)
    (hid : d.consistId = s.consistId) (hown : memberIndex s.ownId (normalMembers d.members) = none) :
    s.takeConsist h0 d = s.takeMembership h0 none := by
  have hne : s.consistId ≠ 0 := by omega
  rw [takeConsist_of_concerns (by omega) (by omega) (by simp [State.consistConcerns, hid, hne]), State.resulting,
    if_neg (by simp [hown]), if_pos hid]

theorem takeMembership_of_moving {h0 : Level} {m : Option Membership} (hm : m ≠ s.csu.record) (hs : s.spr.stopped = false) :
    s.takeMembership h0 m = s.onCsu fun c => { c with slot := .holds m } := by
  simp [State.takeMembership, hm, hs]

/-- The locomotive with its slot emptied and a membership in force, before the role's effects (R76, R77). -/
def State.enrolled (m : Option Membership) (s : State) : State := s.onCsu fun c => { c with slot := .empty, record := m }

theorem takeMembership_of_standing {h0 : Level} {m : Option Membership} (hm : m ≠ s.csu.record) (hs : s.spr.stopped = true) :
    s.takeMembership h0 m =
      if s.consistId = (s.enrolled m).consistId
        then (s.enrolled m).roleEffects h0 s.csu.record s.role (s.enrolled m).role
        else ((s.enrolled m).roleEffects h0 s.csu.record s.role (s.enrolled m).role).occupancyTest := by
  rw [State.takeMembership, if_neg hm, if_pos hs]
  rfl

end Frame

/-- Settles O26: the slot takes the membership; nothing else of CSU moves. -/
theorem consistChangeWaitsWhileMoving : Obligations.ConsistChangeWaitsWhileMoving := by
  intro s h payload crc ha hmoving hlo hhi hown hother
  have hexec := exec_consist ha
  rw [takeConsist_of_listed (s := s.accepted 2) hlo hhi (by simpa [State.ownId] using hown),
    takeMembership_of_moving (by simpa using hother.symm) (by simpa using hmoving)] at hexec
  have hreach : reachesOnly (.rxc :: .csu :: settlingBlocks) s
      ((s.accepted 2).onCsu fun c =>
        { c with slot := .holds (some ⟨(consistData payload).consistId, normalMembers (consistData payload).members⟩) }) := by
    simp [reachesOnly_iff, settlingBlocks]
  exact answers_of_exec hexec ⟨by simp, hreach.trans (reachesOnly_settle s _) (by decide), motionKept_settle (motionKept_of_spr_eq (by simp))⟩

/-! ### A standing locomotive takes its place (R77 to R80) -/

section Place

variable {s : State} {h0 : Level}

theorem enrolled_role {m : Membership} {p : Option Nat} (hm : memberIndex s.ownId m.members = p) :
    (s.enrolled (some m)).role = roleOfPosition p := by
  subst hm
  rfl

theorem role_of_no_record (h : s.csu.record = none) : s.role = .none ∧ s.consistId = 0 := by
  simp [State.role, State.position, State.consistId, h, positionIn, roleOfPosition, consistIdOf]

/-- CONSIST that becomes the head takes its follow speed and direction from its saved part (R54). -/
theorem headChanged_to_consist {l : Level} (h : l ≠ .consist) (a : Aut) :
    (headChanged l .consist a).consistLive.speed = a.consist.saved.target
      ∧ (headChanged l .consist a).consistLive.dir = a.consist.saved.dir := by
  have hctx : (preempt l a).consist = a.consist := by
    unfold preempt
    split
    · cases l with
      | consist => exact absurd rfl h
      | _ => rfl
    · rfl
  have hloaded : (headChanged l .consist a).consistLive = (loadSaved l .consist (preempt l a)).consistLive := by
    simp [headChanged, markStarted, autSetCtx]
  rw [hloaded, loadSaved, hctx]
  exact ⟨rfl, rfl⟩

theorem settle_consist_of_head {t s0 : State} (h : (t.settle s0).head = .consist) (h0 : s0.head ≠ .consist) :
    (t.settle s0).aut.consistLive.speed = t.aut.consist.saved.target
      ∧ (t.settle s0).aut.consistLive.dir = t.aut.consist.saved.dir := by
  obtain ⟨-, -, -, -, -, -, hlive, -⟩ := settle_aut_records t s0
  rw [settle_head] at h
  rw [hlive, settledAut_eq, if_neg (by rw [h]; exact h0.symm), h]
  simpa using headChanged_to_consist h0 (t.settleClaims s0.head).aut

/-- What a locomotive that joins as follower stands with (R78). -/
theorem joinFollower_fields (s : State) :
    s.joinFollower.csu = { s.csu with lastReported := none } ∧ s.joinFollower.aut.consist.claimed = true
      ∧ s.joinFollower.aut.consist.source = leadOf s.csu.record ∧ s.joinFollower.aut.consist.saved.target = 0
      ∧ s.joinFollower.aut.consist.saved.dir = s.spr.running ∧ s.joinFollower.aut.signal.claimed = false
      ∧ s.joinFollower.aut.failsafe = s.aut.failsafe
      ∧ s.joinFollower.rxc.leadLink = { source := leadOf s.csu.record, state := .regaining, age := 0 } := by
  simp [State.joinFollower]

/-- What a locomotive that leaves its lead stands with (R80, R20). -/
theorem leaveFollower_fields (s : State) :
    s.leaveFollower.csu = { s.csu with lastReported := none } ∧ s.leaveFollower.aut.consist.claimed = false
      ∧ s.leaveFollower.rxc.leadLink = { source := none, state := .up, age := 0 }
      ∧ s.leaveFollower.aut.causes.leadLost = false ∧ s.leaveFollower.aut.causes.member = false
      ∧ s.leaveFollower.aut.failsafe = s.aut.failsafe ∧ s.leaveFollower.aut.signal = s.aut.signal := by
  simp [State.leaveFollower, removeCause_causes, causePut]

theorem leaveLead_fields (s : State) :
    s.leaveLead.csu = { s.csu with watches := [] } ∧ s.leaveLead.aut.causes.member = false
      ∧ s.leaveLead.aut.consist = s.aut.consist := by
  simp [State.leaveLead, removeCause_causes, causePut]

theorem memberTest_consist (s : State) : s.memberTest.aut.consist = s.aut.consist := by
  unfold State.memberTest
  (repeat' split) <;> simp

/-- A lead's first watches (R79, R82). -/
theorem watchMembers_of_none (hw : s.csu.watches = []) :
    (s.watchMembers true).csu =
        { s.csu with watches := (otherMembers s.ownId s.csu.record).map fun m => ⟨m.id, some s.image.windows.consistWindow⟩ }
      ∧ (s.watchMembers true).aut.consist = s.aut.consist := by
  simp [State.watchMembers, hw, watchFor, memberTest_consist]

end Place

/-- The part after an accepted CONSIST frame, with a membership in force (R76, R77). -/
def State.frameEnrolled (s : State) (m : Option Membership) : State := (s.accepted 2).enrolled m

section Enrolled

variable {s : State} {h : Collected} {payload : List Byte} {crc : BitVec 16}

theorem frameEnrolled_kept (s : State) (m : Option Membership) :
    (s.frameEnrolled m).aut = s.aut ∧ (s.frameEnrolled m).spr = s.spr ∧ (s.frameEnrolled m).cfg = s.cfg
      ∧ (s.frameEnrolled m).csu = { s.csu with slot := .empty, record := m }
      ∧ (s.frameEnrolled m).rxc.leadLink = s.rxc.leadLink := by
  simp [State.frameEnrolled, State.enrolled]

/-- A change of role in a CONSIST frame's event (R77). -/
theorem consist_event {m : Option Membership} {t : State} (hspr : t.spr = s.spr)
    (hreach : reachesOnly (.rxc :: .csu :: .tkm :: settlingBlocks) (s.frameEnrolled m) t) :
    reachesOnly (.rxc :: .csu :: .tkm :: settlingBlocks) s (t.settle s) ∧ motionKept s (t.settle s) := by
  have henrolled : reachesOnly (.rxc :: .csu :: .tkm :: settlingBlocks) s (s.frameEnrolled m) := by
    simp [reachesOnly_iff, settlingBlocks, State.frameEnrolled, State.enrolled]
  exact ⟨(henrolled.trans hreach (List.Subset.refl _)).trans (reachesOnly_settle s t) (by decide),
    motionKept_settle (motionKept_of_spr_eq hspr)⟩

/-- A standing locomotive in no consist takes the place a frame lists it at (R76, R77). -/
theorem exec_consist_of_new {k : Nat} (ha : arrives 2 s h payload crc) (hstop : s.spr.stopped = true) (hrecord : s.csu.record = none)
    (hlo : 4000 ≤ (consistData payload).consistId) (hhi : (consistData payload).consistId ≤ 4094)
    (hown : memberIndex s.ownId (normalMembers (consistData payload).members) = some k) :
    exec (.consistFrame payload crc) s =
      .next (((((s.frameEnrolled (some ⟨(consistData payload).consistId, normalMembers (consistData payload).members⟩)).roleEffects s.head none
        .none (roleOfPosition (some k))).occupancyTest).settle s)) := by
  have hexec := exec_consist ha
  have hown' : memberIndex (s.accepted 2).ownId (normalMembers (consistData payload).members) = some k := by simpa [State.ownId] using hown
  have hrecord' : (s.accepted 2).csu.record = none := by simpa using hrecord
  obtain ⟨hrole, hzero⟩ := role_of_no_record hrecord'
  have hdiffers : ¬(s.accepted 2).consistId
      = ((s.accepted 2).enrolled (some ⟨(consistData payload).consistId, normalMembers (consistData payload).members⟩)).consistId := by
    rw [hzero]
    change ¬0 = (consistData payload).consistId
    omega
  rw [takeConsist_of_listed hlo hhi (by rw [hown']; rfl), takeMembership_of_standing (by simp [hrecord]) (by simpa using hstop),
    if_neg hdiffers, hrecord', hrole, enrolled_role hown'] at hexec
  exact hexec

/-- A standing member that a frame of its own consist lists no more leaves it (R75, R76, R80). -/
theorem exec_consist_of_leaving (ha : arrives 2 s h payload crc) (hstop : s.spr.stopped = true) (hlo : 4000 ≤ s.consistId)
    (hhi : s.consistId ≤ 4094) (hid : (consistData payload).consistId = s.consistId)
    (hown : memberIndex s.ownId (normalMembers (consistData payload).members) = none) :
    exec (.consistFrame payload crc) s =
      .next (((((s.frameEnrolled none).roleEffects s.head s.csu.record s.role .none).occupancyTest).settle s)) := by
  have hexec := exec_consist ha
  have hid' : (s.accepted 2).consistId = s.consistId := by simp [State.consistId]
  have hrole : (s.accepted 2).role = s.role := role_congr (by simp) (by simp)
  have hcsu : (s.accepted 2).csu = s.csu := by simp
  have hmember : (none : Option Membership) ≠ (s.accepted 2).csu.record := by
    intro hnone
    rw [hcsu] at hnone
    rw [State.consistId, ← hnone] at hlo
    simp [consistIdOf] at hlo
  have hdiffers : ¬(s.accepted 2).consistId = ((s.accepted 2).enrolled none).consistId := by
    rw [hid']
    change ¬s.consistId = 0
    omega
  rw [takeConsist_of_unlisted (by rwa [hid']) (by rwa [hid']) (by rwa [hid']) (by simpa [State.ownId] using hown),
    takeMembership_of_standing hmember (by simpa using hstop), if_neg hdiffers, hrole, hcsu] at hexec
  exact hexec

theorem role_of_membership {t : State} {m : Membership} {p : Option Nat} (hm : t.csu.record = some m) (hc : t.cfg = s.cfg)
    (hp : memberIndex s.ownId m.members = p) : t.role = roleOfPosition p := by
  rw [State.role, State.position, State.ownId, hm, hc]
  exact congrArg roleOfPosition hp

theorem settle_signal_unclaimed {t s0 : State} (hs : t.aut.signal.claimed = false) : (t.settle s0).aut.signal.claimed = false := by
  rw [(settle_causes t s0).2.2.2]
  exact settleClaims_signal_of_unclaimed s0.head hs

end Enrolled

/-- Settles O27: each change of role by its effects, with CONSIST or DRIVER loaded where it becomes the head. -/
theorem standingLocomotiveTakesItsPlace : Obligations.StandingLocomotiveTakesItsPlace := by
  refine ⟨fun s h payload crc lead k ha hstop hrecord hfree hlo hhi hlead hown => ?_,
    fun s h payload crc ha hstop hrecord hwatches hlo hhi hown => ?_,
    fun s h payload crc ha hstop hlo hhi hid hown => ?_⟩
  · have hexec := exec_consist_of_new ha hstop hrecord hlo hhi hown
    generalize hmm : (⟨(consistData payload).consistId, normalMembers (consistData payload).members⟩ : Membership) = mm at hexec ⊢
    have hmembers : mm.members = normalMembers (consistData payload).members := by rw [← hmm]
    obtain ⟨haut, hspr, hcfg, hcsu, -⟩ := frameEnrolled_kept s (some mm)
    have hlead' : leadOf (s.frameEnrolled (some mm)).csu.record = some lead.id := by
      rw [hcsu]
      simp [leadOf, hmembers, hlead]
    obtain ⟨hjcsu, hjclaimed, hjsource, hjtarget, hjdir, hjsignal, hjfailsafe, hjlink⟩ := joinFollower_fields (s.frameEnrolled (some mm))
    have hjkept : (s.frameEnrolled (some mm)).joinFollower.spr = s.spr ∧ (s.frameEnrolled (some mm)).joinFollower.cfg = s.cfg := by
      simp [hspr, hcfg]
    obtain ⟨hjspr, hjcfg⟩ := hjkept
    have hreach : reachesOnly (.rxc :: .csu :: .tkm :: settlingBlocks) (s.frameEnrolled (some mm))
        ((s.frameEnrolled (some mm)).joinFollower.occupancyTest) := by
      simp [reachesOnly_iff, settlingBlocks]
    obtain ⟨hreached, hkept⟩ := consist_event (by simp [hspr]) hreach
    change exec _ s = .next (((s.frameEnrolled (some mm)).joinFollower.occupancyTest).settle s) at hexec
    generalize (s.frameEnrolled (some mm)).joinFollower = j at *
    rw [hlead'] at hjsource hjlink
    rw [hcsu] at hjcsu
    rw [hspr] at hjdir
    rw [haut] at hjfailsafe
    have hquiet : s.aut.failsafe.claimed = false → (j.occupancyTest.settle s).head = .consist := fun hf => by
      rw [settle_head_quiet (by simp [hjfailsafe, hf]) (by simp [hjsignal])]
      exact autHead_consist.2 (by simp [hjfailsafe, hf, hjsignal, hjclaimed])
    have hold : s.head ≠ .consist := fun hh => by simp [(autHead_consist.1 hh).2.2] at hfree
    refine answers_of_exec hexec ⟨by simp [hjcsu], by simp [hjcsu], by simp [hjcsu], ?_, by simp [hjclaimed], by simp [hjsource], ?_,
      fun hf => ⟨hquiet hf, ?_, ?_⟩, by simp [hjlink], hreached, hkept⟩
    · exact role_of_membership (s := s) (m := mm) (p := some (k + 1)) (by simp [hjcsu]) (by simp [hjcfg]) (by rw [hmembers]; exact hown)
    · exact settle_signal_unclaimed (by simp [hjsignal])
    · obtain ⟨hspeed, -⟩ := settle_consist_of_head (hquiet hf) hold
      rw [target_consist (hquiet hf), hspeed]
      simp [hjtarget]
    · obtain ⟨-, hdir⟩ := settle_consist_of_head (hquiet hf) hold
      have hrequested := settle_requested j.occupancyTest s
      rw [hquiet hf] at hrequested
      exact (hrequested.trans hdir).trans (by simp [hjdir])
  · have hexec := exec_consist_of_new ha hstop hrecord hlo hhi hown
    generalize hmm : (⟨(consistData payload).consistId, normalMembers (consistData payload).members⟩ : Membership) = mm at hexec ⊢
    have hmembers : mm.members = normalMembers (consistData payload).members := by rw [← hmm]
    obtain ⟨haut, hspr, hcfg, hcsu, hlink⟩ := frameEnrolled_kept s (some mm)
    obtain ⟨hwcsu, hwconsist⟩ := watchMembers_of_none (s := s.frameEnrolled (some mm)) (by rw [hcsu]; exact hwatches)
    have hwkept : ((s.frameEnrolled (some mm)).watchMembers true).cfg = s.cfg
        ∧ ((s.frameEnrolled (some mm)).watchMembers true).rxc.leadLink = s.rxc.leadLink := by simp [hcfg, hlink]
    obtain ⟨hwcfg, hwlink⟩ := hwkept
    have hreach : reachesOnly (.rxc :: .csu :: .tkm :: settlingBlocks) (s.frameEnrolled (some mm))
        (((s.frameEnrolled (some mm)).watchMembers true).occupancyTest) := by
      simp [reachesOnly_iff, settlingBlocks]
    obtain ⟨hreached, hkept⟩ := consist_event (by simp [hspr]) hreach
    change exec _ s = .next ((((s.frameEnrolled (some mm)).watchMembers true).occupancyTest).settle s) at hexec
    have hwatched : otherMembers (s.frameEnrolled (some mm)).ownId (s.frameEnrolled (some mm)).csu.record =
        (normalMembers (consistData payload).members).filter fun m => m.id != s.ownId := by
      rw [hcsu, State.ownId, hcfg]
      simp only [otherMembers, hmembers]
      rfl
    have himage : (s.frameEnrolled (some mm)).image = s.image := by rw [State.image, hcfg]; rfl
    rw [hwatched, himage, hcsu] at hwcsu
    generalize (s.frameEnrolled (some mm)).watchMembers true = w at *
    refine answers_of_exec hexec ⟨by simp [hwcsu], ?_, by simp [hwcsu], by simp [hwcsu], by simp [hwconsist, haut], by simp [hwlink],
      hreached, hkept⟩
    exact role_of_membership (s := s) (m := mm) (p := some 0) (by simp [hwcsu]) (by simp [hwcfg]) (by rw [hmembers]; exact hown)
  · have hexec := exec_consist_of_leaving ha hstop hlo hhi hid hown
    obtain ⟨haut, hspr, hcfg, hcsu, hlink⟩ := frameEnrolled_kept s none
    obtain ⟨hrecord, hslot⟩ := roleEffects_membership s.head s.csu.record s.role .none (s.frameEnrolled none)
    have hreach : reachesOnly (.rxc :: .csu :: .tkm :: settlingBlocks) (s.frameEnrolled none)
        (((s.frameEnrolled none).roleEffects s.head s.csu.record s.role .none).occupancyTest) := by
      simp [reachesOnly_iff, settlingBlocks]
    obtain ⟨hreached, hkept⟩ := consist_event (by simp [hspr]) hreach
    have hleft : ((((s.frameEnrolled none).roleEffects s.head s.csu.record s.role .none).occupancyTest).settle s).csu.record = none := by
      simp [hrecord, hcsu]
    refine answers_of_exec hexec ⟨hleft, by simp [hslot, hcsu], (role_of_no_record hleft).1, fun hrole => ?_, fun hrole => ?_, hreached,
      hkept⟩
    · have hfollower : (s.frameEnrolled none).roleEffects s.head s.csu.record s.role .none = (s.frameEnrolled none).leaveFollower := by
        rw [hrole]
        rfl
      obtain ⟨hlcsu, hlconsist, hllink, hllost, hlmember, hlfailsafe, hlsignal⟩ := leaveFollower_fields (s.frameEnrolled none)
      obtain ⟨hldriver, -⟩ := leaveFollower_driver (s.frameEnrolled none)
      rw [hfollower]
      rw [haut] at hlfailsafe hlsignal hldriver
      generalize (s.frameEnrolled none).leaveFollower = l at *
      refine ⟨by simp [hlconsist], by simp [hlcsu, hcsu], by simp [hlcsu], by simp [hllink],
        settle_cause_out (c := .leadLost) (by simp [causeIn, hllost]), settle_cause_out (c := .member) (by simp [causeIn, hlmember]),
        fun hhead hdriver => ?_⟩
      obtain ⟨hf, hs, -⟩ := autHead_consist.1 hhead
      have hnew : (l.occupancyTest.settle s).head = .driver := by
        rw [settle_head_quiet (by simp [hlfailsafe, hf]) (by simp [hlsignal, hs])]
        exact autHead_driver.2 (by simp [hlfailsafe, hf, hlsignal, hs, hlconsist, hldriver, hdriver])
      obtain ⟨hlive, -⟩ := settle_driver_of_head hnew (by rw [hhead]; decide)
      rw [hlive, hhead]
      exact ⟨hnew, by simp, by simp [hldriver]⟩
    · have hlead : (s.frameEnrolled none).roleEffects s.head s.csu.record s.role .none = (s.frameEnrolled none).leaveLead := by
        rw [hrole]
        rfl
      obtain ⟨hlcsu, hlmember, hlconsist⟩ := leaveLead_fields (s.frameEnrolled none)
      have hllink : (s.frameEnrolled none).leaveLead.rxc.leadLink = s.rxc.leadLink := by simp [hlink]
      rw [hlead]
      exact ⟨by simp [hlcsu], settle_cause_out (c := .member) (by simp [causeIn, hlmember]), by simpa using hllink,
        by simp [hlconsist, haut]⟩

end Sys2Proof.Machine
end

section
/-! LOCO frames (sections 3.1, 3.2, 5.4): the peer table's entry, the eviction, the occupancy limit, and the lead's report at a follower. -/

namespace Sys2Proof.Machine

/-! ### The station's entry (R36, R37) -/

section Entry

variable {es : List (Option Peer)} {p : Peer} {i id : Nat}

/-- A refreshed entry is the one its station then has. -/
theorem peerOf_set_entry (h : entryOf p.station es = some i) : peerOf p.station (es.set i (some p)) = some p := by
  induction es generalizing i with
  | nil => simp [entryOf] at h
  | cons e es ih =>
    have htail (hrest : (entryOf p.station es).map (· + 1) = some i) : ∃ j, i = j + 1 ∧ peerOf p.station (es.set j (some p)) = some p := by
      obtain ⟨j, hj, rfl⟩ := Option.map_eq_some_iff.1 hrest
      exact ⟨j, rfl, ih hj⟩
    cases e with
    | none =>
      obtain ⟨j, rfl, hj⟩ := htail h
      exact hj
    | some q =>
      by_cases hq : q.station = p.station
      · simp only [entryOf, hq, if_true, Option.some.injEq] at h
        subst h
        simp [peerOf]
      · simp only [entryOf, hq, if_false] at h
        obtain ⟨j, rfl, hj⟩ := htail h
        simpa [peerOf, hq] using hj

/-- An entry inserted where none was is the one its station then has. -/
theorem peerOf_set_empty (hno : entryOf p.station es = none) (h : firstEmpty es = some i) :
    peerOf p.station (es.set i (some p)) = some p := by
  induction es generalizing i with
  | nil => simp [firstEmpty] at h
  | cons e es ih =>
    cases e with
    | none =>
      simp only [firstEmpty, Option.some.injEq] at h
      subst h
      simp [peerOf]
    | some q =>
      have hq : q.station ≠ p.station := fun hq => by simp [entryOf, hq] at hno
      simp only [entryOf, hq, if_false, Option.map_eq_none_iff] at hno
      obtain ⟨j, hj, rfl⟩ := Option.map_eq_some_iff.1 h
      simpa [peerOf, hq] using ih hno hj

/-- An entry set where no station or its own stood leaves every other station's entry. -/
theorem peerOf_set_other (hid : id ≠ p.station) (hat : ∀ q, es[i]? = some (some q) → q.station = p.station) :
    peerOf id (es.set i (some p)) = peerOf id es := by
  induction es generalizing i with
  | nil => rfl
  | cons e es ih =>
    cases i with
    | zero =>
      cases e with
      | none => simp [peerOf, hid.symm]
      | some q =>
        have hq : q.station ≠ id := fun hq => hid (hq.symm.trans (hat q rfl))
        simp [peerOf, hid.symm, hq]
    | succ i =>
      have hrest := ih (i := i) (by simpa using hat)
      cases e with
      | none => simpa [peerOf] using hrest
      | some q => simp [peerOf, hrest]

/-- Where the table has the station or has room, the frame's entry is in and the others stand (R36, R37). -/
theorem takenEntries_of_room {pinned : Nat → Bool}
    (h : (entryOf p.station es).isSome = true ∨ (firstEmpty es).isSome = true) :
    peerOf p.station (takenEntries pinned p es) = some p
      ∧ ∀ id, id ≠ p.station → peerOf id (takenEntries pinned p es) = peerOf id es := by
  unfold takenEntries slotFor
  cases he : entryOf p.station es with
  | some i =>
    obtain ⟨q, hq, hstation⟩ := entryOf_spec he
    refine ⟨peerOf_set_entry he, fun id hid => peerOf_set_other hid fun r hr => ?_⟩
    obtain rfl : q = r := by simpa [hq] using hr
    exact hstation
  | none =>
    obtain ⟨i, hi⟩ := Option.isSome_iff_exists.1 (h.resolve_left (by simp [he]))
    rw [hi]
    exact ⟨peerOf_set_empty he hi, fun id hid => peerOf_set_other hid fun r hr => by simp [firstEmpty_spec hi] at hr⟩

end Entry

/-! ### The entry that gives way (R37) -/

section Evict

variable {es : List (Option Peer)} {p : Peer} {i : Nat} {pinned : Nat → Bool} {stale : Bool}

theorem oldest_of (hat : es[i]? = some (some p)) (hev : evictable pinned stale p)
    (hmin : ∀ j q, es[j]? = some (some q) → evictable pinned stale q → q.age < p.age ∨ q.age = p.age ∧ i ≤ j) :
    ∃ age, oldest pinned stale es = some (i, age) := by
  cases ho : oldest pinned stale es with
  | none => exact absurd hev (oldest_none_iff.1 ho p (List.mem_of_getElem? hat))
  | some x =>
    obtain ⟨k, age⟩ := x
    obtain ⟨⟨q, hq, hqev, hqage⟩, hall⟩ := oldest_spec ho
    obtain ⟨hle, hfirst⟩ := hall i p hat hev
    have hki : k = i := by
      have := hmin k q hq hqev
      by_cases heq : p.age = age
      · have := hfirst heq
        omega
      · omega
    exact ⟨age, by rw [hki]⟩

/-- The unpinned entry that is STALE before HEARD, the older first, the lower index among equals, is the one to evict. -/
theorem evictIndex_of (hat : es[i]? = some (some p)) (hfree : pinned p.station = false)
    (hmin : ∀ (j : Nat) (q : Peer), es[j]? = some (some q) → pinned q.station = false →
      (p.stale = true ∧ q.stale = false) ∨ (p.stale = q.stale ∧ (q.age < p.age ∨ q.age = p.age ∧ i ≤ j))) :
    evictIndex pinned es = some i := by
  obtain ⟨age, ho⟩ := oldest_of (stale := p.stale) hat ⟨rfl, hfree⟩ fun j q hq ⟨hst, hqfree⟩ => by
    rcases hmin j q hq hqfree with ⟨hp, hq⟩ | ⟨-, h⟩
    · simp [hst, hp] at hq
    · exact h
  cases hst : p.stale with
  | true =>
    rw [hst] at ho
    simp [evictIndex, ho]
  | false =>
    have hnone : oldest pinned true es = none := oldest_none_iff.2 fun q hq ⟨hqst, hqfree⟩ => by
      obtain ⟨j, hj⟩ := List.mem_iff_getElem?.1 hq
      rcases hmin j q hj hqfree with ⟨hp, -⟩ | ⟨hsame, -⟩
      · simp [hst] at hp
      · simp [hst, hqst] at hsame
    rw [hst] at ho
    simp [evictIndex, hnone, ho]

end Evict

/-! ### The occupancy test (R46) -/

theorem occupies_some {next consist : Nat} {p : Peer} :
    occupies next consist (some p) = true ↔
      p.stale = false ∧ p.role = .loco ∧
        ∃ r, p.record = some r ∧ next ≠ 0 ∧ r.sect = next ∧ (consist = 0 ∨ r.consistId ≠ consist) := by
  cases hr : p.record with
  | none => simp [occupies, hr]
  | some r =>
    simp only [occupies, hr, Option.some.injEq, exists_eq_left']
    simp
    tauto

theorem occupies_iff {next consist : Nat} {es : List (Option Peer)} : es.any (occupies next consist) = true ↔ occupied next consist es := by
  simp only [List.any_eq_true, occupied]
  constructor
  · rintro ⟨e, he, ho⟩
    cases e with
    | none => cases ho
    | some p =>
      obtain ⟨hstale, hrole, r, hr, hnext, hsect, hconsist⟩ := occupies_some.1 ho
      exact ⟨p, r, he, hstale, hrole, hr, hnext, hsect, hconsist⟩
  · rintro ⟨p, r, hp, hstale, hrole, hr, hnext, hsect, hconsist⟩
    exact ⟨some p, hp, occupies_some.2 ⟨hstale, hrole, r, hr, hnext, hsect, hconsist⟩⟩

/-- A limit that the test gave on the table and the section as they end an event (R46). -/
theorem occupancyTested_of_test {s t u : State} (hptb : t.ptb = u.ptb) (hrecord : t.tkm.record = u.tkm.record)
    (htest : t.tkm.occupancyLimit = u.occupancyTest.tkm.occupancyLimit) (hcsu : u.csu.record = s.csu.record) (himage : u.image = s.image) :
    occupancyTested s t := by
  have hnext : t.publishedNext = u.publishedNext := by simp [State.publishedNext, hrecord]
  have hid : s.consistId = u.consistId := by simp [State.consistId, hcsu]
  have hlimit : t.tkm.occupancyLimit =
      if u.ptb.entries.any (occupies u.publishedNext u.consistId) then some u.image.windows.occupancyStep else none := htest
  unfold occupancyTested
  rw [hnext, hid, hptb, hlimit, ← himage, ← occupies_iff]
  exact ⟨fun h => if_pos h, fun h => if_neg h⟩

/-! ### An accepted LOCO frame (R13) -/

section Frame

variable {s : State} {h : Collected} {payload : List Byte} {crc : BitVec 16}

/-- The part after PTB has taken an accepted LOCO frame. -/
def State.locoHeard (s : State) (h : Collected) (payload : List Byte) : State :=
  (s.accepted 4).hear (frameInfo h) .loco (some (locoRecordOf (locoData payload)))

/-- The part after PTB, TKM and RXC's supervision have taken it. -/
def State.locoTested (s : State) (h : Collected) (payload : List Byte) : State :=
  ((s.locoHeard h payload).occupancyTest).leadHeard (frameInfo h)

theorem exec_loco (ha : arrives 4 s h payload crc) :
    exec (.locoFrame payload crc) s =
      .next (((s.locoTested h payload).consistReport s.head (frameInfo h) (locoData payload)).settle s) := by
  have hhead : (s.accepted 4).head = s.head := by simp [State.head]
  have hp : s.power = .running := ha.1
  rw [exec_locoFrame ha, close_of_running (by simpa using hp), State.dispatchLoco, hhead]
  rfl

/-- A frame heard changes the occupancy limit alone of TKM (R46). -/
theorem hear_track (info : FrameInfo) (role : PeerRole) (rec : Option LocoRecord) (s : State) :
    (s.hear info role rec).tkm.record = s.tkm.record ∧ (s.hear info role rec).tkm.signalLimit = s.tkm.signalLimit
      ∧ (s.hear info role rec).tkm.noSmoke = s.tkm.noSmoke ∧ (s.hear info role rec).tkm.bellZone = s.tkm.bellZone
      ∧ (s.hear info role rec).tkm.quiet = s.tkm.quiet := by
  unfold State.hear
  split <;> simp [State.occupancyTest]

theorem locoHeard_entries (s : State) (h : Collected) (payload : List Byte) :
    (s.locoHeard h payload).ptb.entries =
      takenEntries s.pinned (freshPeer (frameInfo h) .loco (some (locoRecordOf (locoData payload)))) s.ptb.entries := by
  simp [State.locoHeard, hear_entries]

theorem locoHeard_kept (s : State) (h : Collected) (payload : List Byte) :
    (s.locoHeard h payload).csu = s.csu ∧ (s.locoHeard h payload).cfg = s.cfg ∧ (s.locoHeard h payload).aut = s.aut
      ∧ (s.locoHeard h payload).tkm.record = s.tkm.record ∧ (s.locoHeard h payload).rxc.leadLink = s.rxc.leadLink := by
  simp [State.locoHeard, hear_track]

theorem loco_occupancyTested (s : State) (h : Collected) (payload : List Byte) (l : Level) :
    occupancyTested s (((s.locoTested h payload).consistReport l (frameInfo h) (locoData payload)).settle s) := by
  obtain ⟨hcsu, hcfg, -⟩ := locoHeard_kept s h payload
  refine occupancyTested_of_test (u := s.locoHeard h payload) ?_ ?_ ?_ (by rw [hcsu]) (by simp [State.image, hcfg]) <;>
    simp [State.locoTested, State.occupancyTest]

theorem loco_event (s : State) (h : Collected) (payload : List Byte) (l : Level) :
    reachesOnly (.rxc :: .ptb :: .tkm :: .csu :: settlingBlocks) s
        (((s.locoTested h payload).consistReport l (frameInfo h) (locoData payload)).settle s)
      ∧ motionKept s (((s.locoTested h payload).consistReport l (frameInfo h) (locoData payload)).settle s) := by
  have hreach : reachesOnly (.rxc :: .ptb :: .tkm :: .csu :: settlingBlocks) s
      ((s.locoTested h payload).consistReport l (frameInfo h) (locoData payload)) := by
    simp [reachesOnly_iff, settlingBlocks, State.locoTested, State.locoHeard]
  exact ⟨hreach.trans (reachesOnly_settle s _) (by decide),
    motionKept_settle (motionKept_of_spr_eq (by simp [State.locoTested, State.locoHeard]))⟩

theorem loco_kept (s : State) (h : Collected) (payload : List Byte) (l : Level) :
    (((s.locoTested h payload).consistReport l (frameInfo h) (locoData payload)).settle s).ptb = (s.locoHeard h payload).ptb
      ∧ (((s.locoTested h payload).consistReport l (frameInfo h) (locoData payload)).settle s).tkm =
        (s.locoHeard h payload).occupancyTest.tkm := by
  simp [State.locoTested]

/-! ### The table after it -/

theorem locoHeard_limit (s : State) (h : Collected) (payload : List Byte) :
    (s.locoHeard h payload).occupancyTest.tkm.occupancyLimit =
      if (s.locoHeard h payload).ptb.entries.any (occupies s.publishedNext s.consistId) then some s.image.windows.occupancyStep else none := by
  obtain ⟨hcsu, hcfg, -, hrec, -⟩ := locoHeard_kept s h payload
  simp [State.occupancyTest, State.publishedNext, State.consistId, State.image, hcsu, hcfg, hrec]

theorem counterTakes_peerEvict {c : CounterConfig} (h : c.event = 7) (role : PeerRole) :
    counterTakes c (.peerEvict role) = c.mask.getLsbD (peerRoleBit role) := by
  simp [counterTakes, h, diagCode, qualifierBit]

/-- An insert that evicts an entry is one PEER_EVICT of the entry's role (R37). -/
theorem takePeer_evicts {info : FrameInfo} {role : PeerRole} {rec : Option LocoRecord} {i : Nat} {p : Peer}
    (hno : entryOf info.source s.ptb.entries = none) (hfull : firstEmpty s.ptb.entries = none)
    (hevict : evictIndex s.pinned s.ptb.entries = some i) (hat : s.ptb.entries.getD i none = some p) :
    s.takePeer info role rec =
      (s.signal (.peerEvict p.role)).onPtb fun t => { t with entries := t.entries.set i (some (freshPeer info role rec)) } := by
  simp only [State.takePeer, hno, hfull, hevict, hat]

theorem loco_evict_counted {i : Nat} {p : Peer} (hno : entryOf (headerSource h.bytes) s.ptb.entries = none)
    (hfull : firstEmpty s.ptb.entries = none) (hevict : evictIndex s.pinned s.ptb.entries = some i)
    (hat : s.ptb.entries.getD i none = some p) (l : Level) :
    counted 7 (fun mask => mask.getLsbD (peerRoleBit p.role)) s
      (((s.locoTested h payload).consistReport l (frameInfo h) (locoData payload)).settle s) := by
  have hptb : (s.accepted 4).ptb = s.ptb := by simp
  have htaken := takePeer_evicts (s := s.accepted 4) (info := frameInfo h) (role := .loco) (rec := some (locoRecordOf (locoData payload)))
    (by rw [hptb]; exact hno) (by rw [hptb]; exact hfull) (by rw [hptb, accepted_pinned]; exact hevict) (by rw [hptb]; exact hat)
  have hheard : Carries [] ((s.accepted 4).signal (.peerEvict p.role)) (s.locoHeard h payload) := by
    rw [State.locoHeard, State.hear, htaken]
    exact .ite (fun _ => (onPtb_carries _ _).trans (occupancyTest_carries _)) fun _ => onPtb_carries _ _
  have htested : Carries [] (s.locoHeard h payload) (s.locoTested h payload) :=
    (occupancyTest_carries _).trans (leadHeard_carries _ _)
  exact counted_of_signal (s := s.countedIn) (code := 7) (takes := fun mask => mask.getLsbD (peerRoleBit p.role))
    (fun c hc => counterTakes_peerEvict hc _) (accepted_carries 4 s)
    (((hheard.trans htested).trans (consistReport_carries _ _ _ _)).trans (settle_carries _ s)) (by simp) (by simp)

end Frame

/-- Settles O30: PTB's insert on the table, then TKM's test on the table as it stands. -/
theorem locoReportFillsTheTable : Obligations.LocoReportFillsTheTable := by
  refine ⟨fun s h payload crc ha hroom => ?_, fun s h payload crc i p ha hno hfull hat hfree hmin => ?_⟩
  · obtain ⟨hptb, htkm⟩ := loco_kept s h payload s.head
    obtain ⟨hreach, hmotion⟩ := loco_event s h payload s.head
    have hentries := locoHeard_entries s h payload
    obtain ⟨hown, hothers⟩ := takenEntries_of_room
      (p := freshPeer (frameInfo h) .loco (some (locoRecordOf (locoData payload)))) (pinned := s.pinned) hroom
    exact answers_of_exec (exec_loco ha)
      ⟨by rw [hptb, hentries]; exact hown, fun id hid => by rw [hptb, hentries]; exact hothers id hid,
        by rw [hptb, htkm]; exact locoHeard_limit s h payload, loco_occupancyTested s h payload _, hreach, hmotion⟩
  · obtain ⟨hptb, -⟩ := loco_kept s h payload s.head
    obtain ⟨hreach, hmotion⟩ := loco_event s h payload s.head
    have hnone : firstEmpty s.ptb.entries = none := firstEmpty_none_iff.2 fun hmem => by
      obtain ⟨j, hj⟩ := List.mem_iff_getElem?.1 hmem
      exact hfull j (List.getElem?_eq_some_iff.1 hj).1 (by simp [List.getD, hj])
    have hget {j : Nat} {q : Peer} : s.ptb.entries.getD j none = some q ↔ s.ptb.entries[j]? = some (some q) := by
      simp only [List.getD]
      cases s.ptb.entries[j]? <;> simp
    have hevict : evictIndex s.pinned s.ptb.entries = some i :=
      evictIndex_of (hget.1 hat) hfree fun j q hq => hmin j q (hget.2 hq)
    refine answers_of_exec (exec_loco ha)
      ⟨?_, ?_, loco_occupancyTested s h payload _, hreach, hmotion⟩
    · rw [hptb, locoHeard_entries, takenEntries, slotFor]
      have hno' : entryOf (freshPeer (frameInfo h) .loco (some (locoRecordOf (locoData payload)))).station s.ptb.entries = none := hno
      rw [hno', hnone, hevict]
      rfl
    · have hcounted := loco_evict_counted (payload := payload) hno hnone hevict hat s.head
      exact hcounted

/-! ### The lead's report at a follower (R81) -/

section Follow

variable {s : State} {h : Collected} {payload : List Byte} {crc : BitVec 16}

theorem leadHeard_link {info : FrameInfo} (hs : s.rxc.leadLink.source = some info.source) :
    (s.leadHeard info).rxc.leadLink =
      { source := some info.source, state := if s.rxc.leadLink.state = .lost then .regaining else .up, age := 0 } := by
  rw [State.leadHeard, if_pos hs]
  rcases validFrame_cases .lead s with ⟨hst, h⟩ | ⟨hst, h⟩ | ⟨hst, h⟩ <;>
  · have hst' : s.rxc.leadLink.state = _ := hst
    rw [h]
    simp [hst', linkRecord, hs]

theorem settle_consist_of_same {t s0 : State} (h : (t.settle s0).head = s0.head) : (t.settle s0).aut.consistLive = t.aut.consistLive := by
  obtain ⟨-, -, -, -, -, -, hlive, -⟩ := settle_aut_records t s0
  rw [settle_head] at h
  rw [hlive, settledAut_eq, if_pos h]
  simp

theorem followReport_of_active {d : LocoData} :
    (s.followReport .consist d).aut =
        { s.aut with consistLive := { s.aut.consistLive with speed := d.refSpeed, dir := s.followDirection d.dir } }
      ∧ (s.followReport .consist d).csu = { s.csu with lastReported := some d.dir } ∧ (s.followReport .consist d).rxc = s.rxc := by
  refine ⟨?_, rfl, rfl⟩
  simp [State.followReport, State.putFollow, State.onAut, State.onCsu]

theorem leadHeard_kept (info : FrameInfo) (s : State) :
    (s.leadHeard info).aut.failsafe = s.aut.failsafe ∧ (s.leadHeard info).aut.signal = s.aut.signal
      ∧ (s.leadHeard info).aut.consist = s.aut.consist := by
  unfold State.leadHeard State.validFrame
  (repeat' split) <;> simp

theorem locoTested_kept (s : State) (h : Collected) (payload : List Byte) :
    (s.locoTested h payload).csu = s.csu ∧ (s.locoTested h payload).cfg = s.cfg
      ∧ (s.locoTested h payload).aut.failsafe = s.aut.failsafe ∧ (s.locoTested h payload).aut.signal = s.aut.signal
      ∧ (s.locoTested h payload).aut.consist = s.aut.consist := by
  simp [State.locoTested, State.locoHeard, leadHeard_kept]

end Follow

/-- Settles O31: the report is handed on to AUT's live part of CONSIST, which stays the head. -/
theorem followerTakesTheLeadsSpeed : Obligations.FollowerTakesTheLeadsSpeed := by
  intro s h payload crc ha hrole hhead hlead hsource
  obtain ⟨hcsu, hcfg, hfailsafe, hsignal, hconsist⟩ := locoTested_kept s h payload
  obtain ⟨hreach, hmotion⟩ := loco_event s h payload s.head
  have hexec := exec_loco ha
  have hreport : (s.locoTested h payload).consistReport s.head (frameInfo h) (locoData payload) =
      (s.locoTested h payload).followReport .consist (locoData payload) := by
    rw [State.consistReport, role_congr (s := s) (by rw [hcsu]) (by rw [hcfg]), hrole, hhead]
    exact if_pos (by rw [hcsu]; exact hlead)
  rw [hreport] at hexec hreach hmotion
  obtain ⟨haut, hreported, hrxc⟩ := followReport_of_active (s := s.locoTested h payload) (d := locoData payload)
  obtain ⟨hf, hs, hc⟩ := autHead_consist.1 hhead
  have hlink : (s.locoTested h payload).rxc.leadLink = _ :=
    leadHeard_link (s := (s.locoHeard h payload).occupancyTest) (info := frameInfo h)
      (by rw [(occupancyTest_frame _).2.2.1, (locoHeard_kept s h payload).2.2.2.2]; exact hsource)
  generalize hu : (s.locoTested h payload).followReport .consist (locoData payload) = u at *
  have hstays : (u.settle s).head = .consist := by
    rw [settle_head_quiet (by simp [haut, hfailsafe, hf]) (by simp [haut, hsignal, hs])]
    exact autHead_consist.2 (by simp [haut, hfailsafe, hsignal, hconsist, hf, hs, hc])
  have hlive := settle_consist_of_same (t := u) (s0 := s) (hstays.trans hhead.symm)
  refine answers_of_exec hexec ⟨hstays, ?_, ?_, ?_, ?_, hreach, hmotion⟩
  · rw [target_consist hstays, hlive, haut]
  · rw [settle_requested, hstays, hlive, haut]
    simp only [State.followDirection, State.ownId, hcsu, hcfg]
    rfl
  · simp [hreported]
  · simp [hrxc, hlink, (locoHeard_kept s h payload).2.2.2.2]
    rfl

end Sys2Proof.Machine
end

section
/-! BEACON frames (sections 3.2, 4.6): the last-passed beacon's update, and the passing of another. -/

namespace Sys2Proof.Machine

/-! ### Zones (R47) -/

section Zone

variable {s : State} {f : ZoneFlags} {passing : Bool}

/-- The sounds a change of zone requests: the horn at a passing, then the bell that begins (R47). -/
def zonePlays (im : Image) (bell passing : Bool) (f : ZoneFlags) : List Trigger :=
  (if passing && f.hornPoint then [⟨false, .zone, im.sound.zonePrio, im.sound.hornGroup, im.sound.hornIndex⟩] else [])
    ++ (if !bell && f.bellZone then [⟨true, .zone, im.sound.zonePrio, im.sound.bellGroup, im.sound.bellIndex⟩] else [])

/-- What a change of zone asks of SND: the bell that ends, then the sounds that begin (R47). -/
def zoneAsks (im : Image) (bell passing : Bool) (f : ZoneFlags) : List SoundAsk :=
  (if bell && !f.bellZone then [.stop .zone] else []) ++ (zonePlays im bell passing f).map .play

/-- TKM's zone flags as a frame has them (R47). -/
def State.zoneFlagged (f : ZoneFlags) (s : State) : State :=
  s.onTkm fun t => { t with noSmoke := f.noSmoke, bellZone := f.bellZone, quiet := f.quiet }

theorem setZone_eq (passing : Bool) (f : ZoneFlags) (s : State) :
    s.setZone passing f = (((zoneAsks s.image s.tkm.bellZone passing f).foldl State.ask (s.zoneFlagged f)).smokeZone) := by
  have himage (t : State) (r : Trigger) : (t.request r).image = t.image := by simp [State.image]
  have hask (hold : Bool) (group index : Nat) (t : State) :
      t.zoneRequest hold group index = t.ask (.play ⟨hold, .zone, t.image.sound.zonePrio, group, index⟩) := rfl
  simp only [State.setZone, zoneAsks, zonePlays, List.map_append, List.foldl_append, hask]
  split <;> split <;> split <;> simp only [State.ask, List.map_cons, List.map_nil, List.foldl_cons, List.foldl_nil, himage] <;> rfl

theorem setZone_track (passing : Bool) (f : ZoneFlags) (s : State) :
    (s.setZone passing f).tkm = { s.tkm with noSmoke := f.noSmoke, bellZone := f.bellZone, quiet := f.quiet } := by
  unfold State.setZone
  (repeat' split) <;> simp

end Zone

/-! ### An accepted BEACON frame (R13, R41) -/

section Frame

variable {s : State} {h : Collected} {payload : List Byte} {crc : BitVec 16}

/-- The part after PTB has taken an accepted BEACON frame. -/
def State.beaconHeard (s : State) (h : Collected) : State := (s.accepted 3).hear (frameInfo h) .beacon none

theorem exec_beacon (ha : arrives 3 s h payload crc) :
    exec (.beaconFrame payload crc) s =
      .next (((s.beaconHeard h).takeBeacon s.head (frameInfo h) (beaconData payload)).settle s) := by
  have hhead : (s.accepted 3).head = s.head := by simp [State.head]
  have hp : s.power = .running := ha.1
  rw [exec_beaconFrame ha, close_of_running (by simpa using hp), State.dispatchBeacon, hhead]
  rfl

theorem beaconHeard_kept (s : State) (h : Collected) :
    (s.beaconHeard h).aut = s.aut ∧ (s.beaconHeard h).cfg = s.cfg ∧ (s.beaconHeard h).csu = s.csu ∧ (s.beaconHeard h).spr = s.spr
      ∧ (s.beaconHeard h).snd = s.snd ∧ (s.beaconHeard h).smk = s.smk ∧ (s.beaconHeard h).fnm = s.fnm ∧ (s.beaconHeard h).sup = s.sup := by
  simp [State.beaconHeard]

theorem beaconHeard_track (s : State) (h : Collected) :
    (s.beaconHeard h).tkm.record = s.tkm.record ∧ (s.beaconHeard h).tkm.signalLimit = s.tkm.signalLimit
      ∧ (s.beaconHeard h).tkm.noSmoke = s.tkm.noSmoke ∧ (s.beaconHeard h).tkm.bellZone = s.tkm.bellZone
      ∧ (s.beaconHeard h).tkm.quiet = s.tkm.quiet := by
  simp [State.beaconHeard, hear_track]

/-- A change of the track records, the zones and the claims in a BEACON frame's event. -/
theorem beacon_event {t : State} (hspr : t.spr = s.spr)
    (hreach : reachesOnly (.rxc :: .ptb :: .tkm :: settlingBlocks) (s.beaconHeard h) t) :
    reachesOnly (.rxc :: .ptb :: .tkm :: settlingBlocks) s (t.settle s) ∧ motionKept s (t.settle s) := by
  have hheard : reachesOnly (.rxc :: .ptb :: .tkm :: settlingBlocks) s (s.beaconHeard h) := by
    simp [reachesOnly_iff, settlingBlocks, State.beaconHeard]
  exact ⟨(hheard.trans hreach (List.Subset.refl _)).trans (reachesOnly_settle s t) (by decide),
    motionKept_settle (motionKept_of_spr_eq hspr)⟩

theorem takeBeacon_reaches (l : Level) (info : FrameInfo) (d : BeaconData) (s : State) :
    reachesOnly (.rxc :: .ptb :: .tkm :: settlingBlocks) s (s.takeBeacon l info d) := by
  simp [reachesOnly_iff, settlingBlocks]

theorem setRecord_track (r : BeaconRecord) (s : State) :
    (s.setRecord r).tkm.record = some r
      ∧ (s.setRecord r).tkm.signalLimit = signalLimitOf s.image.windows.restrictedStep r
      ∧ (s.setRecord r).tkm.bellZone = s.tkm.bellZone
      ∧ (s.setRecord r).occupancyTest.tkm.occupancyLimit = (s.setRecord r).tkm.occupancyLimit := ⟨rfl, rfl, rfl, rfl⟩

/-- TKM's record, limits and zone flags once a record and its zones are set (R44, R46, R47). -/
theorem setRecord_setZone_track {t : State} {r : BeaconRecord} {f : ZoneFlags} {passing : Bool}
    (htkm : t.tkm = (((s.beaconHeard h).setRecord r).setZone passing f).tkm) (hptb : t.ptb = (s.beaconHeard h).ptb) :
    t.tkm.record = some r ∧ t.tkm.signalLimit = signalLimitOf s.image.windows.restrictedStep r ∧ t.tkm.noSmoke = f.noSmoke
      ∧ t.tkm.bellZone = f.bellZone ∧ t.tkm.quiet = f.quiet ∧ occupancyTested s t := by
  obtain ⟨-, hcfg, hcsu, -⟩ := beaconHeard_kept s h
  obtain ⟨hrecord, hlimit, -, hoccupancy⟩ := setRecord_track r (s.beaconHeard h)
  rw [setZone_track] at htkm
  have himage : (s.beaconHeard h).image = s.image := congrArg Cfg.image hcfg
  rw [himage] at hlimit
  have htested : occupancyTested s t :=
    occupancyTested_of_test (u := (s.beaconHeard h).setRecord r) (by rw [hptb]; simp) (by rw [htkm]) (by rw [htkm, hoccupancy])
      (by simp [hcsu]) (by simpa [State.image] using himage)
  rw [htkm] at *
  exact ⟨hrecord, hlimit, rfl, rfl, rfl, htested⟩

end Frame

theorem dwellRefresh_unclaimed {s : State} {l : Level} {r : BeaconRecord} (hs : s.aut.signal.claimed = false) : s.dwellRefresh l r = s := by
  rw [State.dwellRefresh, if_neg (by simp [hs])]

/-- Settles O29: the own beacon's frame sets record and zones anew; a weak frame of another ends with PTB. -/
theorem lastPassedBeaconIsUpdated : Obligations.LastPassedBeaconIsUpdated := by
  intro s h payload crc r ha hrecord
  obtain ⟨haut, hcfg, -, hspr, -⟩ := beaconHeard_kept s h
  obtain ⟨hheard, hlimit, -, -, hquiet⟩ := beaconHeard_track s h
  obtain ⟨hreach, hmotion⟩ := beacon_event (s := s) (h := h)
    (t := (s.beaconHeard h).takeBeacon s.head (frameInfo h) (beaconData payload)) (by simp [hspr]) (takeBeacon_reaches _ _ _ _)
  refine ⟨fun hown => ?_, fun hother hweak => ?_⟩
  · have hupdate : (s.beaconHeard h).takeBeacon s.head (frameInfo h) (beaconData payload) =
        (s.beaconHeard h).updateBeacon s.head r (beaconData payload) := by
      simp only [State.takeBeacon, hheard, hrecord]
      exact if_pos hown
    obtain ⟨hrec, -, hsmoke, -, hquiet, htested⟩ := setRecord_setZone_track (s := s) (h := h)
      (t := ((s.beaconHeard h).updateBeacon s.head r (beaconData payload)).settle s) (by simp [State.updateBeacon]; rfl) (by simp)
    refine answers_of_exec (exec_beacon ha) ?_
    rw [hupdate] at hreach hmotion ⊢
    refine ⟨hrec, hsmoke, hquiet, htested, fun hs => settle_signal_unclaimed ?_, hreach, hmotion⟩
    rw [State.updateBeacon, dwellRefresh_unclaimed (by simp [haut, hs])]
    simp [haut, hs]
  · have hkept : (s.beaconHeard h).takeBeacon s.head (frameInfo h) (beaconData payload) = s.beaconHeard h := by
      simp only [State.takeBeacon, hheard, hrecord]
      rw [if_neg (by exact hother), if_neg]
      have himage : (s.beaconHeard h).image = s.image := congrArg Cfg.image hcfg
      rw [himage]
      exact Nat.not_le.2 hweak
    refine answers_of_exec (exec_beacon ha) ?_
    rw [hkept] at hreach hmotion ⊢
    exact ⟨by simp [hheard, hrecord], by simp [hlimit], by simp [hquiet], hreach, hmotion⟩

end Sys2Proof.Machine
end

section
/-! The passing of a beacon (sections 3.2, 4.6, 9.2, 10.1): SIGNAL claimed or released, the zone's sounds and smoke. -/

namespace Sys2Proof.Machine

/-! ### SIGNAL that has not come to its end (R70 to R72) -/

section Signal

variable {s u s0 : State} {h0 : Level}

theorem stopNow_putStop (h0 : Level) (k : StopState) (a : Aut) : stopNow h0 (putStop h0 k a) = k := by
  unfold stopNow putStop
  split <;> rfl

theorem putStop_kept (h0 : Level) (k : StopState) (a : Aut) :
    (putStop h0 k a).failsafe = a.failsafe ∧ (putStop h0 k a).causes = a.causes ∧ (putStop h0 k a).hold = a.hold
      ∧ (putStop h0 k a).signal.claimed = a.signal.claimed ∧ (putStop h0 k a).signal.source = a.signal.source := by
  unfold putStop
  split <;> simp

/-- SIGNAL that becomes the head takes its stop state from its saved part (R54). -/
theorem headChanged_to_signal {l : Level} (h : l ≠ .signal) (a : Aut) :
    (headChanged l .signal a).signalLive = a.signal.saved.stop ∧ (headChanged l .signal a).signal.source = a.signal.source := by
  have hctx : (preempt l a).signal = a.signal := by
    unfold preempt
    split
    · cases l with
      | signal => exact absurd rfl h
      | _ => rfl
    · rfl
  have hloaded : (headChanged l .signal a).signalLive = (preempt l a).signal.saved.stop
      ∧ (headChanged l .signal a).signal.source = (preempt l a).signal.source := by
    simp [headChanged, markStarted, loadSaved, autSetCtx, autCtx]
  rwa [hctx] at hloaded

/-- A SIGNAL that is not done, without FAILSAFE, goes through the settling of claims with its stop state judged afresh (R71). -/
theorem settleClaims_of_open_signal (hf : u.aut.failsafe.claimed = false) (hs : u.aut.signal.claimed = true)
    (hopen : ∀ b, signalDone { stopNow h0 u.aut with reached := b } u.currentAspect = false) :
    (u.settleClaims h0).head = .signal ∧ (u.settleClaims h0).aut.signal.source = u.aut.signal.source
      ∧ stopNow h0 (u.settleClaims h0).aut =
        { stopNow h0 u.aut with reached := (stopNow h0 u.aut).reached || u.spr.stopped } := by
  have hfirst : u.signalTest h0 = u := signalTest_of_not_done (hopen (stopNow h0 u.aut).reached)
  have hhold : (u.stallTest h0).holdTest = u.stallTest h0 := by rw [State.holdTest, if_neg (by simp [hf])]
  have hstop : stopNow h0 (u.stallTest h0).aut = stopNow h0 u.aut := by simp [stopNow]
  have hhead : (u.stallTest h0).head = .signal := autHead_signal.2 (by simp [hf, hs])
  have hreached : stopNow h0 ((u.stallTest h0).stopReachedTest h0).aut =
        { stopNow h0 u.aut with reached := (stopNow h0 u.aut).reached || u.spr.stopped }
      ∧ ((u.stallTest h0).stopReachedTest h0).aut.signal.claimed = true
      ∧ ((u.stallTest h0).stopReachedTest h0).aut.failsafe.claimed = false
      ∧ ((u.stallTest h0).stopReachedTest h0).aut.signal.source = u.aut.signal.source := by
    rw [stopReachedTest_aut]
    by_cases hstopped : u.spr.stopped = true
    · obtain ⟨hkf, -, -, hkc, hks⟩ := putStop_kept h0 { stopNow h0 u.aut with reached := true } (u.stallTest h0).aut
      rw [if_pos ⟨hhead, by simpa using hstopped⟩, hstop, stopNow_putStop, hkf, hkc, hks]
      simp [hstopped, hf, hs]
    · rw [if_neg (by simp [hstopped]), hstop]
      simp [hstopped, hf, hs]
  obtain ⟨hnow, hclaimed, hfree, hsource⟩ := hreached
  have hlast : u.settleClaims h0 = (u.stallTest h0).stopReachedTest h0 := by
    rw [State.settleClaims, hfirst, hhold]
    refine signalTest_of_not_done ?_
    rw [hnow]
    simpa [State.currentAspect] using hopen _
  rw [hlast]
  exact ⟨autHead_signal.2 ⟨hfree, hclaimed⟩, hsource, hnow⟩

/-- Such a SIGNAL is the head after the event, with that stop state live (R53, R71). -/
theorem settle_open_signal (hf : u.aut.failsafe.claimed = false) (hs : u.aut.signal.claimed = true)
    (hopen : ∀ b, signalDone { stopNow s0.head u.aut with reached := b } u.currentAspect = false) :
    (u.settle s0).head = .signal ∧ (u.settle s0).aut.signal.source = u.aut.signal.source
      ∧ (u.settle s0).aut.signalLive =
        { stopNow s0.head u.aut with reached := (stopNow s0.head u.aut).reached || u.spr.stopped } := by
  obtain ⟨hhead, hsource, hnow⟩ := settleClaims_of_open_signal hf hs hopen
  obtain ⟨-, hsignal, -, -, -, -, -, hlive, -⟩ := settle_aut_records u s0
  refine ⟨by rw [settle_head, hhead], ?_⟩
  rw [hsignal, hlive, settledAut_eq]
  by_cases h : s0.head = .signal
  · rw [if_pos (hhead.trans h.symm), ← hnow, h]
    exact ⟨h ▸ hsource, rfl⟩
  · obtain ⟨hloaded, hkept⟩ := headChanged_to_signal h (u.settleClaims s0.head).aut
    rw [if_neg (by rw [hhead]; exact Ne.symm h), hhead, hloaded, hkept, ← hnow, stopNow, if_neg h]
    exact ⟨hsource, rfl⟩

/-- Below a FAILSAFE whose hold does not run only SIGNAL's test can change the claims (R55). -/
theorem settle_below_failsafe (hhead : s0.head = .failsafe) (hf : u.aut.failsafe.claimed = true) (hh : u.aut.hold = none)
    (hstall : u.aut.causes.stall = false) :
    (u.settle s0).head = .failsafe ∧ (u.aut.signal.claimed = true →
      signalDone u.aut.signal.saved.stop u.currentAspect = false →
        (u.settle s0).aut.signal = u.aut.signal ∧ (u.settle s0).aut.signalLive = u.aut.signalLive) := by
  have hquiet : (u.settleClaims .failsafe).aut = ((u.signalTest .failsafe).signalTest .failsafe).aut := by
    have hkeepStall : (u.signalTest .failsafe).stallTest .failsafe = u.signalTest .failsafe := by
      simp [State.stallTest, hstall]
    have hkeepHold : (u.signalTest .failsafe).holdTest = u.signalTest .failsafe := by
      rw [State.holdTest, if_neg (by simp [hh])]
    have hkeepStop : (u.signalTest .failsafe).stopReachedTest .failsafe = u.signalTest .failsafe := by
      have hstays : (u.signalTest .failsafe).head = .failsafe := autHead_failsafe (by simp [hf])
      rw [State.stopReachedTest, if_neg (by simp [hstays])]
    rw [State.settleClaims, hkeepStall, hkeepHold, hkeepStop]
  have hstays : (u.settleClaims .failsafe).head = .failsafe := by
    rw [State.head, hquiet]
    exact autHead_failsafe (by simp [hf])
  refine ⟨by rw [settle_head, hhead, hstays], fun _ hopen => ?_⟩
  obtain ⟨-, hsignal, -, -, -, -, -, hlive, -⟩ := settle_aut_records u s0
  have hkept : u.signalTest .failsafe = u := signalTest_of_not_done hopen
  rw [hsignal, hlive, settledAut_eq, hhead, if_pos hstays, hquiet, hkept, hkept]
  exact ⟨rfl, rfl⟩

end Signal

/-! ### The passing notice (R45, R70) -/

section Notice

variable {b : State} {r : BeaconRecord} {h0 : Level}

theorem passingNotice_of_no_need (h : b.claimNeeded r = false) : b.passingNotice h0 r = b.release .signal := by
  rw [State.passingNotice, if_neg (by simp [h])]

/-- A needed claim stands with the beacon as its source and the claim's stop state, new or not (R70). -/
theorem passingNotice_of_need (h : b.claimNeeded r = true) :
    (b.passingNotice h0 r).aut.signal.claimed = true ∧ (b.passingNotice h0 r).aut.signal.source = some r.beacon
      ∧ stopNow h0 (b.passingNotice h0 r).aut = claimStop r
      ∧ (b.aut.signal.claimed = false →
        (b.passingNotice h0 r).aut.signalLive = (b.passingNotice h0 r).aut.signal.saved.stop)
      ∧ (b.passingNotice h0 r).aut.failsafe = b.aut.failsafe ∧ (b.passingNotice h0 r).aut.causes = b.aut.causes
      ∧ (b.passingNotice h0 r).aut.hold = b.aut.hold := by
  rw [State.passingNotice, if_pos h]
  by_cases hs : b.aut.signal.claimed = true
  · obtain ⟨hf, hc, hh, hclaimed, hsource⟩ :=
      putStop_kept h0 (claimStop r) { b.aut with signal := { b.aut.signal with source := some r.beacon } }
    rw [if_pos hs]
    exact ⟨hclaimed.trans hs, hsource, stopNow_putStop _ _ _, fun hno => by simp [hs] at hno, hf, hc, hh⟩
  · rw [if_neg hs]
    refine ⟨by simp [claimedStop], by simp [claimedStop], ?_, fun _ => by simp [claimedStop], ?_⟩
    · simp [stopNow, claimedStop]
    · simp [claimedStop, State.claim, autSetCtx]

/-- A claim's stop state is open while the aspect it was set up for stands (R72). -/
theorem claimStop_open (hneed : r.aspectPassing = .stop ∨ r.kind = .station) (hsame : r.aspect = r.aspectPassing) (reached : Bool) :
    signalDone { claimStop r with reached := reached } (some r.aspect) = false := by
  have hdwell : dwellMs r.dwell ≠ 0 := by unfold dwellMs; split <;> omega
  by_cases hk : r.kind = .station
  · simp [signalDone, claimStop, hk, hdwell]
  · have ha := hneed.resolve_right hk
    simp [signalDone, claimStop, hk, hsame, ha]

end Notice

/-! ### What the zones ask of the smoke and of SND (R47) -/

section Zones

variable {s : State}

theorem smokeZone_state (s : State) :
    s.smokeZone.smk.state =
      if s.tkm.noSmoke = true then (if s.smk.state = .ready ∨ s.smk.state = .idleHold then .zoneHold else s.smk.state)
      else if s.smk.state = .zoneHold then (if s.smk.long then .idleHold else .ready)
      else s.smk.state := by
  unfold State.smokeZone State.smokeReach
  by_cases hno : s.tkm.noSmoke = true
  · rw [if_pos hno, if_pos hno]
    split
    · rfl
    · rfl
  · rw [if_neg hno, if_neg hno]
    split
    · rw [smokeEnter_state, settleReady, if_neg hno]
    · rfl

theorem setZone_snd (passing : Bool) (f : ZoneFlags) (s : State) :
    (s.setZone passing f).snd = ((zoneAsks s.image s.tkm.bellZone passing f).foldl State.ask s).snd := by
  rw [setZone_eq]
  simpa using askAll_snd_congr (zoneAsks s.image s.tkm.bellZone passing f) (s := s) (t := s.zoneFlagged f) rfl

theorem setZone_smoke (passing : Bool) (f : ZoneFlags) (s : State) :
    (s.setZone passing f).smk.state =
      if f.noSmoke = true then (if s.smk.state = .ready ∨ s.smk.state = .idleHold then .zoneHold else s.smk.state)
      else if s.smk.state = .zoneHold then (if s.smk.long then .idleHold else .ready)
      else s.smk.state := by
  rw [setZone_eq, smokeZone_state]
  simp [State.zoneFlagged]

theorem playAll_voices (rs : List Trigger) (s : State) : ((rs.map SoundAsk.play).foldl State.ask s).snd.voices = s.snd.voices := by
  induction rs generalizing s with
  | nil => rfl
  | cons r rs ih =>
    rw [List.map_cons, List.foldl_cons, ih]
    simp [State.ask]

theorem zoneAsks_voices (im : Image) (bell passing : Bool) (f : ZoneFlags) (s : State) :
    ((zoneAsks im bell passing f).foldl State.ask s).snd.voices =
      if bell = true ∧ f.bellZone = false then s.snd.voices.map (stopVoice .zone) else s.snd.voices := by
  rw [zoneAsks, List.foldl_append, playAll_voices]
  cases bell <;> cases f.bellZone <;> rfl

theorem stopOwner_busy {o : Owner} (h : s.snd.port ≠ .idle) : (s.stopOwner o).snd.port ≠ .idle := by
  have hport : (s.stopOwner o).snd.port = stopPort o s.snd.port := rfl
  rw [hport]
  cases hp : s.snd.port with
  | idle => exact absurd hp h
  | _ => simp [stopPort]

/-- A zone's request at a busy port with room joins the queue's tail (R130). -/
theorem ask_zone_of_room {r : Trigger} (hr : r.owner = .zone) (hport : s.snd.port ≠ .idle) (hroom : s.snd.queue.length < 8) :
    (s.ask (.play r)).snd.port = s.snd.port ∧ (s.ask (.play r)).snd.queue = s.snd.queue ++ [r] := by
  rw [State.ask, request_of_room hport (noPending_iff.2 (by simp [hr])) hroom]
  exact ⟨rfl, rfl⟩

/-- Zone requests at a busy port with room for them join the queue's tail in their order. -/
theorem playAll_zone_of_room {rs : List Trigger} (hr : ∀ r ∈ rs, r.owner = .zone) (hport : s.snd.port ≠ .idle)
    (hroom : s.snd.queue.length + rs.length ≤ 8) :
    ((rs.map SoundAsk.play).foldl State.ask s).snd.queue = s.snd.queue ++ rs := by
  induction rs generalizing s with
  | nil => simp
  | cons r rs ih =>
    rw [List.length_cons] at hroom
    obtain ⟨hkept, hqueue⟩ := ask_zone_of_room (s := s) (hr r List.mem_cons_self) hport (by omega)
    have hlength : (s.ask (.play r)).snd.queue.length = s.snd.queue.length + 1 := by simp [hqueue]
    rw [List.map_cons, List.foldl_cons, ih (fun x hx => hr x (List.mem_cons_of_mem _ hx)) (by rw [hkept]; exact hport) (by omega), hqueue]
    simp

theorem zonePlays_owner {im : Image} {bell passing : Bool} {f : ZoneFlags} : ∀ r ∈ zonePlays im bell passing f, r.owner = .zone := by
  intro r hr
  rcases List.mem_append.1 hr with h | h <;> split at h <;> simp at h <;> rw [h]

theorem zonePlays_passing (im : Image) (bell : Bool) (f : ZoneFlags) :
    zonePlays im bell true f =
      (if f.hornPoint then [⟨false, .zone, im.sound.zonePrio, im.sound.hornGroup, im.sound.hornIndex⟩] else [])
        ++ (if bell = false ∧ f.bellZone = true then [⟨true, .zone, im.sound.zonePrio, im.sound.bellGroup, im.sound.bellIndex⟩]
            else []) := by
  unfold zonePlays
  cases bell <;> cases f.bellZone <;> rfl

theorem zonePlays_length (im : Image) (bell passing : Bool) (f : ZoneFlags) : (zonePlays im bell passing f).length ≤ 2 := by
  unfold zonePlays
  split <;> split <;> simp

theorem zoneAsks_queue {im : Image} {bell passing : Bool} {f : ZoneFlags} (hport : s.snd.port ≠ .idle) (hroom : s.snd.queue.length ≤ 6) :
    ((zoneAsks im bell passing f).foldl State.ask s).snd.queue =
      (if bell = true ∧ f.bellZone = false then s.snd.queue.filter fun q => q.owner != .zone else s.snd.queue)
        ++ zonePlays im bell passing f := by
  have hplays := zonePlays_length im bell passing f
  rw [zoneAsks, List.foldl_append]
  by_cases hstop : bell = true ∧ f.bellZone = false
  · have hasks : (if bell && !f.bellZone then [SoundAsk.stop .zone] else []) = [.stop .zone] := if_pos (by simp [hstop])
    have hless : (s.snd.queue.filter fun q => q.owner != .zone).length ≤ s.snd.queue.length := List.length_filter_le _ _
    rw [hasks, if_pos hstop]
    exact playAll_zone_of_room (s := s.stopOwner .zone) zonePlays_owner (stopOwner_busy hport) (by
      have hqueue : (s.stopOwner .zone).snd.queue = s.snd.queue.filter fun q => q.owner != .zone := rfl
      rw [hqueue]
      omega)
  · have hasks : (if bell && !f.bellZone then [SoundAsk.stop .zone] else []) = [] := if_neg (by simpa using hstop)
    rw [hasks, if_neg hstop]
    exact playAll_zone_of_room (s := s) zonePlays_owner hport (by omega)

end Zones

/-! ### The passing (R42) -/

section Passing

variable {s : State} {h : Collected} {payload : List Byte} {d : BeaconData} {b : Nat}

/-- The part after TKM has passed a beacon, before AUT takes the notice (R42). -/
def State.beaconPassed (s : State) (h : Collected) (d : BeaconData) : State :=
  ((s.beaconHeard h).setRecord (passedRecord (headerSource h.bytes) d)).setZone true d.flags

theorem beaconPassed_kept (s : State) (h : Collected) (d : BeaconData) :
    (s.beaconPassed h d).aut = s.aut ∧ (s.beaconPassed h d).cfg = s.cfg ∧ (s.beaconPassed h d).csu = s.csu
      ∧ (s.beaconPassed h d).spr = s.spr ∧ (s.beaconPassed h d).fnm = s.fnm := by
  obtain ⟨haut, hcfg, hcsu, hspr, -, -, hfnm, -⟩ := beaconHeard_kept s h
  simp [State.beaconPassed, haut, hcfg, hcsu, hspr, hfnm]

theorem beaconPassed_effects (s : State) (h : Collected) (d : BeaconData) :
    (s.beaconPassed h d).snd = ((zoneAsks s.image s.tkm.bellZone true d.flags).foldl State.ask s).snd
      ∧ (s.beaconPassed h d).smk.state =
        if d.flags.noSmoke = true then (if s.smk.state = .ready ∨ s.smk.state = .idleHold then .zoneHold else s.smk.state)
        else if s.smk.state = .zoneHold then (if s.smk.long then .idleHold else .ready)
        else s.smk.state := by
  obtain ⟨-, hcfg, -, -, hsnd, hsmk, -⟩ := beaconHeard_kept s h
  obtain ⟨-, -, -, hbell, -⟩ := beaconHeard_track s h
  have himage : ((s.beaconHeard h).setRecord (passedRecord (headerSource h.bytes) d)).image = s.image := by simp [State.image, hcfg]
  rw [State.beaconPassed, setZone_snd, setZone_smoke, himage, (setRecord_track _ _).2.2.1, hbell]
  refine ⟨askAll_snd_congr _ (by simp [hsnd]), by simp [hsmk]⟩

/-- The part at the end of a passing's event, before it settles. -/
def State.beaconNoticed (s : State) (h : Collected) (d : BeaconData) : State :=
  (s.beaconPassed h d).passingNotice s.head (passedRecord (headerSource h.bytes) d)

theorem exec_passing {crc : BitVec 16} (ha : arrives 3 s h payload crc) (hnear : s.image.windows.nearThreshold ≤ frameRssi h.levels)
    (hother : ∀ r, s.tkm.record = some r → r.beacon ≠ headerSource h.bytes) :
    exec (.beaconFrame payload crc) s = .next ((s.beaconNoticed h (beaconData payload)).settle s)
      ∧ reachesOnly (.rxc :: .ptb :: .tkm :: settlingBlocks) s ((s.beaconNoticed h (beaconData payload)).settle s)
      ∧ motionKept s ((s.beaconNoticed h (beaconData payload)).settle s) := by
  obtain ⟨-, hcfg, -, hspr, -⟩ := beaconHeard_kept s h
  obtain ⟨hheard, -⟩ := beaconHeard_track s h
  have himage : (s.beaconHeard h).image = s.image := congrArg Cfg.image hcfg
  have hpass : (s.beaconHeard h).takeBeacon s.head (frameInfo h) (beaconData payload) = s.beaconNoticed h (beaconData payload) := by
    have hat : (s.beaconHeard h).image.windows.nearThreshold ≤ (frameInfo h).rssi := by rw [himage]; exact hnear
    simp only [State.takeBeacon, hheard]
    cases hr : s.tkm.record with
    | none => exact if_pos hat
    | some r => exact (if_neg (hother r hr)).trans (if_pos hat)
  obtain ⟨hreach, hmotion⟩ := beacon_event (s := s) (h := h)
    (t := (s.beaconHeard h).takeBeacon s.head (frameInfo h) (beaconData payload)) (by simp [hspr]) (takeBeacon_reaches _ _ _ _)
  rw [← hpass]
  exact ⟨exec_beacon ha, hreach, hmotion⟩

theorem claimNeeded_iff (s : State) (h : Collected) (d : BeaconData) :
    (s.beaconPassed h d).claimNeeded (passedRecord (headerSource h.bytes) d) = true ↔
      s.role ≠ .follower ∧ (d.aspect = .stop ∨ d.kind = .station) := by
  obtain ⟨-, hcfg, hcsu, -⟩ := beaconPassed_kept s h d
  have hrole : (s.beaconPassed h d).role = s.role := role_congr (by rw [hcsu]) (by rw [hcfg])
  simp [State.claimNeeded, hrole, passedRecord]

/-- With functions handed on and the head and the function sets as they were, a refresh changes neither sounds nor smoke (R57). -/
theorem functionsRefresh_of_handedOn {u : State} (hs : HandedOn s) (hsame : SameInputs s u) (hf : u.fnm = s.fnm) :
    u.functionsRefresh.snd = u.snd ∧ u.functionsRefresh.smk = u.smk := by
  obtain ⟨hfnm, -⟩ := hs
  have hkept : u.fEff = u.fnm.last ∧ u.role = u.fnm.lastRole := by
    rw [hsame.fEff, hsame.role, hf, hfnm]
    exact ⟨rfl, rfl⟩
  rw [State.functionsRefresh, if_pos hkept]
  simp

/-- A notice that neither brings nor ends a SIGNAL leaves what the zones asked for (R47, R57). -/
theorem settle_of_quiet_notice (hs : HandedOn s) (hf : s.aut.failsafe.claimed = false) (hc : s.aut.signal.claimed = false) :
    ((s.beaconPassed h d).settle s).snd = (s.beaconPassed h d).snd ∧ ((s.beaconPassed h d).settle s).smk = (s.beaconPassed h d).smk := by
  obtain ⟨haut, hcfg, hcsu, hspr, hfnm⟩ := beaconPassed_kept s h d
  have hhead : ((s.beaconPassed h d).settleClaims s.head).head = s.head := by
    rw [settleClaims_head _ _ (by rw [haut]; exact hf) (by rw [haut]; exact hc), State.head, haut]
    rfl
  obtain ⟨hsnd, hsmk, -⟩ := settle_of_same_head hhead
  obtain ⟨hrsnd, hrsmk⟩ := functionsRefresh_of_handedOn (u := (s.beaconPassed h d).settleClaims s.head) hs
    ⟨hhead, by simp [haut], by simp [haut], by simp [haut], by simp [hcsu], by simp [hcfg], by simp [hspr]⟩ (by simp [hfnm])
  rw [hsnd, hsmk, hrsnd, hrsmk]
  simp

end Passing

section Noticed

variable {s : State} {h : Collected} {d : BeaconData}

theorem beaconNoticed_track (s : State) (h : Collected) (d : BeaconData) :
    ((s.beaconNoticed h d).settle s).tkm.record = some (passedRecord (headerSource h.bytes) d)
      ∧ ((s.beaconNoticed h d).settle s).tkm.signalLimit =
        signalLimitOf s.image.windows.restrictedStep (passedRecord (headerSource h.bytes) d)
      ∧ ((s.beaconNoticed h d).settle s).tkm.noSmoke = d.flags.noSmoke ∧ ((s.beaconNoticed h d).settle s).tkm.bellZone = d.flags.bellZone
      ∧ ((s.beaconNoticed h d).settle s).tkm.quiet = d.flags.quiet ∧ occupancyTested s ((s.beaconNoticed h d).settle s) :=
  setRecord_setZone_track (h := h) (passing := true) (by simp [State.beaconNoticed, State.beaconPassed]) (by simp [State.beaconNoticed, State.beaconPassed])

theorem beaconNoticed_aspect (s : State) (h : Collected) (d : BeaconData) : (s.beaconNoticed h d).currentAspect = some d.aspect := by
  have hrecord : (s.beaconNoticed h d).tkm.record = some (passedRecord (headerSource h.bytes) d) := by
    simpa using (beaconNoticed_track s h d).1
  rw [State.currentAspect, hrecord]
  rfl

/-- A needed claim waits below a FAILSAFE that stays, its stop state saved (R52, R70). -/
theorem settle_notice_below (hneed : s.role ≠ .follower ∧ (d.aspect = .stop ∨ d.kind = .station)) (hf : s.aut.failsafe.claimed = true)
    (hh : s.aut.hold = none) (hstall : s.aut.causes.stall = false) :
    ((s.beaconNoticed h d).settle s).aut.signal.claimed = true
      ∧ ((s.beaconNoticed h d).settle s).aut.signal.source = some (headerSource h.bytes)
      ∧ ((s.beaconNoticed h d).settle s).aut.signal.saved.stop = claimStop (passedRecord (headerSource h.bytes) d)
      ∧ (s.aut.signal.claimed = false →
        ((s.beaconNoticed h d).settle s).aut.signalLive = ((s.beaconNoticed h d).settle s).aut.signal.saved.stop) := by
  obtain ⟨haut, -⟩ := beaconPassed_kept s h d
  obtain ⟨hclaimed, hsource, hstop, hfresh, hfailsafe, hcauses, hhold⟩ :=
    passingNotice_of_need (h0 := s.head) ((claimNeeded_iff s h d).2 hneed)
  rw [haut] at hfresh hfailsafe hcauses hhold
  have hhead : s.head = .failsafe := autHead_failsafe hf
  have hsaved : (s.beaconNoticed h d).aut.signal.saved.stop = claimStop (passedRecord (headerSource h.bytes) d) := by
    rw [hhead] at hstop
    rw [State.beaconNoticed, hhead]
    exact hstop
  obtain ⟨-, hkept⟩ := settle_below_failsafe (u := s.beaconNoticed h d) hhead (by rw [State.beaconNoticed, hfailsafe]; exact hf)
    (hhold.trans hh) (by rw [State.beaconNoticed, hcauses]; exact hstall)
  obtain ⟨hsignal, hlive⟩ := hkept hclaimed (by
    rw [hsaved, beaconNoticed_aspect]
    exact claimStop_open (r := passedRecord (headerSource h.bytes) d) hneed.2 rfl false)
  rw [hsignal, hlive]
  exact ⟨hclaimed, hsource, hsaved, hfresh⟩

/-- A needed claim is the head without FAILSAFE, its stop reached where STOPPED holds (R70, R71). -/
theorem settle_notice_head (hneed : s.role ≠ .follower ∧ (d.aspect = .stop ∨ d.kind = .station)) (hf : s.aut.failsafe.claimed = false) :
    ((s.beaconNoticed h d).settle s).head = .signal
      ∧ ((s.beaconNoticed h d).settle s).aut.signal.source = some (headerSource h.bytes)
      ∧ ((s.beaconNoticed h d).settle s).aut.signalLive =
        { claimStop (passedRecord (headerSource h.bytes) d) with reached := s.spr.stopped } := by
  obtain ⟨haut, -, -, hspr, -⟩ := beaconPassed_kept s h d
  obtain ⟨hclaimed, hsource, hstop, -, hfailsafe, -⟩ := passingNotice_of_need (h0 := s.head) ((claimNeeded_iff s h d).2 hneed)
  rw [haut] at hfailsafe
  have hstopped : (s.beaconNoticed h d).spr = s.spr := by simp [State.beaconNoticed, hspr]
  have hnow : stopNow s.head (s.beaconNoticed h d).aut = claimStop (passedRecord (headerSource h.bytes) d) := hstop
  obtain ⟨hhead, hkept, hlive⟩ := settle_open_signal (u := s.beaconNoticed h d) (s0 := s)
    (by rw [State.beaconNoticed, hfailsafe]; exact hf) hclaimed fun reached => by
      rw [hnow, beaconNoticed_aspect]
      exact claimStop_open (r := passedRecord (headerSource h.bytes) d) hneed.2 rfl reached
  refine ⟨hhead, hkept.trans hsource, hlive.trans ?_⟩
  rw [hnow, hstopped, claimStop]
  simp

theorem beaconNoticed_of_no_need (hno : ¬(s.role ≠ .follower ∧ (d.aspect = .stop ∨ d.kind = .station))) :
    s.beaconNoticed h d = (s.beaconPassed h d).release .signal :=
  passingNotice_of_no_need (by rw [← Bool.not_eq_true, claimNeeded_iff]; exact hno)

/-- A passing that needs no claim ends a SIGNAL and changes no other claim (R70). -/
theorem settle_notice_released (hno : ¬(s.role ≠ .follower ∧ (d.aspect = .stop ∨ d.kind = .station))) :
    ((s.beaconNoticed h d).settle s).aut.signal.claimed = false := by
  rw [beaconNoticed_of_no_need hno]
  exact settle_signal_unclaimed (by simp)

/-- A passing keeps a FAILSAFE whose hold does not run at the head (R67). -/
theorem settle_notice_failsafe (hf : s.aut.failsafe.claimed = true) (hh : s.aut.hold = none) (hstall : s.aut.causes.stall = false) :
    ((s.beaconNoticed h d).settle s).head = .failsafe := by
  obtain ⟨haut, -⟩ := beaconPassed_kept s h d
  have hkept : (s.beaconNoticed h d).aut.failsafe = s.aut.failsafe ∧ (s.beaconNoticed h d).aut.hold = s.aut.hold
      ∧ (s.beaconNoticed h d).aut.causes = s.aut.causes := by
    by_cases hneed : s.role ≠ .follower ∧ (d.aspect = .stop ∨ d.kind = .station)
    · obtain ⟨-, -, -, -, hfailsafe, hcauses, hhold⟩ := passingNotice_of_need (h0 := s.head) ((claimNeeded_iff s h d).2 hneed)
      rw [haut] at hfailsafe hcauses hhold
      exact ⟨hfailsafe, hhold, hcauses⟩
    · rw [beaconNoticed_of_no_need hneed]
      simp [haut]
  obtain ⟨hfailsafe, hhold, hcauses⟩ := hkept
  exact (settle_below_failsafe (autHead_failsafe hf) (by rw [hfailsafe]; exact hf) (hhold.trans hh) (by rw [hcauses]; exact hstall)).1

end Noticed

/-- Settles O28: TKM's record and zones, then the notice to AUT by whether a claim is needed and FAILSAFE stands. -/
theorem passingABeacon : Obligations.PassingABeacon := by
  intro s h payload crc ha hnear hother
  obtain ⟨hexec, hreach, hmotion⟩ := exec_passing ha hnear hother
  obtain ⟨hrecord, hlimit, hsmoke, hbell, hzone, htested⟩ := beaconNoticed_track s h (beaconData payload)
  refine answers_of_exec hexec ⟨hrecord, by rw [State.publishedSection, hrecord]; rfl, by rw [State.publishedNext, hrecord]; rfl, hlimit, hsmoke,
    hbell, hzone, htested, fun hf hh hstall => ⟨settle_notice_failsafe hf hh hstall, ?_⟩, fun hlaw hf hs hno => ?_, fun hf => ?_, hreach, hmotion⟩
  · split
    next hneed => exact settle_notice_below hneed hf hh hstall
    next hno => exact settle_notice_released hno
  · obtain ⟨haut, -⟩ := beaconPassed_kept s h (beaconData payload)
    obtain ⟨hsnd, hstate⟩ := beaconPassed_effects s h (beaconData payload)
    obtain ⟨hkeptSnd, hkeptSmoke⟩ := settle_of_quiet_notice (h := h) (d := beaconData payload) ((functionLaw_iff s).1 hlaw ha.1) hf hs
    have hquiet : s.beaconNoticed h (beaconData payload) = s.beaconPassed h (beaconData payload) := by
      rw [beaconNoticed_of_no_need hno, State.release, if_pos (.inr (by simp [autCtx, haut, hs]))]
    rw [hquiet, hkeptSnd, hkeptSmoke, hsnd, zoneAsks_voices]
    refine ⟨hstate, rfl, fun hport hroom => ?_⟩
    rw [zoneAsks_queue hport hroom, zonePlays_passing, ← List.append_assoc]
  · split
    next hneed => exact settle_notice_head hneed hf
    next hno => exact settle_notice_released hno

end Sys2Proof.Machine
end
